-- ==== Sys2Proof/Word.lean ====
section
/-! DEFINITION. The plain words of the BL-240: link bytes, tags, level samples, and the index ranges fixed in the part (section 1.3). -/

namespace Sys2Proof

/-- One byte of the message link (R189). -/
abbrev Byte := BitVec 8
/-- The tag the host chooses for a request and finds in its reply (R189). -/
abbrev Tag := BitVec 16
/-- A raw level sample, 0 to 4095 (R23). -/
abbrev Sample := BitVec 12

/-- Hull segments 0 (aft) to 19 (fore). -/
abbrev SegmentNo := Fin 20
/-- Stations 1 to 19; station j is held at index j − 1. -/
abbrev StationIx := Fin 19
/-- Ballast tanks 0 to 15. -/
abbrev TankNo := Fin 16
/-- Cargo holds 0 (aftmost) to 8. -/
abbrev HoldNo := Fin 9
/-- Pumps 0 and 1 (main) and 2 (stripping). -/
abbrev PumpNo := Fin 3
/-- Valves 0 to 20, numbered as section 1.6 numbers them. -/
abbrev ValveNo := Fin 21
/-- Field channels 0 to 47. -/
abbrev ChannelNo := Fin 48
/-- Slots 0 to 31 of the transfer queue (R86). -/
abbrev SlotNo := Fin 32
/-- Slots 0 to 7 of the reply queue (R191). -/
abbrev ReplyNo := Fin 8
/-- The 41 places of the notice pending set (R194). -/
abbrev PlaceNo := Fin 41

/-- What the read of a stored item at power-on shows changed in its format version, its length and its CRC-32, bit by bit; all zero when the item reads as it was kept (R212; log entry 7). An error in the content shows as the change it works in the CRC that is due. -/
structure StoreErrors where
  version : Byte
  length : BitVec 16
  crc : BitVec 32
deriving DecidableEq, Repr

/-- The read of an item that is as it was kept. -/
def StoreErrors.none : StoreErrors := ⟨0, 0, 0⟩

end Sys2Proof
end

