-- ==== Sys2Proof/Syntax.lean ====
section
/-! DEFINITION. The commands of the BL-240: one constructor for each row of spec/opcode_table.json. A request carries its tag and its body, byte for byte as R200 lays it out; an event carries what the outside world decides in it. -/

namespace Sys2Proof

/-- A command the controller takes: a request received whole from the host, or an event of the field, the clock or the link. -/
inductive Instr where
  /-- Power is applied (R216). The operands say what the read of each stored item shows changed in it (R212). -/
  | powerOn (config report : StoreErrors)
  /-- Power is lost (R214). -/
  | powerLoss
  /-- A complete frame, given by its bytes, whose CRC disagrees or whose class is not 1 (R190). -/
  | frameDiscarded (frame : List Byte)
  /-- More than 20 ms pass between two bytes of a frame (R190). `after` are the bytes that arrive after the gap and complete no request. -/
  | rxGapTimeout (after : List Byte)
  /-- A byte with a framing error, or a break on the line (R190). `after` are the bytes that arrive after it and complete no request. -/
  | rxFramingError (after : List Byte)
  /-- A valid request of a kind outside the request list (R191). -/
  | unknownKindRequest (kind : Byte) (tag : Tag) (body : List Byte)
  /-- The last byte of the frame being sent leaves the line (R193, R196). -/
  | txFrameDone
  /-- Request SHIP_SET (R4). -/
  | shipSet (tag : Tag) (body : List Byte)
  /-- Request SEGMENT_SET (R5). -/
  | segmentSet (tag : Tag) (body : List Byte)
  /-- Request STATION_SET (R6). -/
  | stationSet (tag : Tag) (body : List Byte)
  /-- Request TANK_SET (R7). -/
  | tankSet (tag : Tag) (body : List Byte)
  /-- Request SOUNDING_SET (R8). -/
  | soundingSet (tag : Tag) (body : List Byte)
  /-- Request HOLD_SET (R11). -/
  | holdSet (tag : Tag) (body : List Byte)
  /-- Request PUMP_SET (R12). -/
  | pumpSet (tag : Tag) (body : List Byte)
  /-- Request VALVE_SET (R13). -/
  | valveSet (tag : Tag) (body : List Byte)
  /-- Request BAND_SET (R14). -/
  | bandSet (tag : Tag) (body : List Byte)
  /-- Request BOUNDS_SET (R38). -/
  | boundsSet (tag : Tag) (body : List Byte)
  /-- Request BERTH_SET (R15). -/
  | berthSet (tag : Tag) (body : List Byte)
  /-- Request TABLE_GET (R16). -/
  | tableGet (tag : Tag) (body : List Byte)
  /-- Request CHANNEL_SET (R18). -/
  | channelSet (tag : Tag) (body : List Byte)
  /-- Request SCAN_SET (R21). -/
  | scanSet (tag : Tag) (body : List Byte)
  /-- Request CHANNEL_GET (R29). -/
  | channelGet (tag : Tag) (body : List Byte)
  /-- Request TANK_LOCK (R35). -/
  | tankLock (tag : Tag) (body : List Byte)
  /-- Request TANK_UNLOCK (R36). -/
  | tankUnlock (tag : Tag) (body : List Byte)
  /-- Request TANK_GET (R39). -/
  | tankGet (tag : Tag) (body : List Byte)
  /-- Request PREDICT (R62). -/
  | predict (tag : Tag) (body : List Byte)
  /-- Request CONDITION_GET (R64). -/
  | conditionGet (tag : Tag) (body : List Byte)
  /-- Request STOP_ACK (R76). -/
  | stopAck (tag : Tag) (body : List Byte)
  /-- Request STOP_SET (R77). -/
  | stopSet (tag : Tag) (body : List Byte)
  /-- Request ALARM_ACK (R83). -/
  | alarmAck (tag : Tag) (body : List Byte)
  /-- Request ALARM_SET (R84). -/
  | alarmSet (tag : Tag) (body : List Byte)
  /-- Request LIMIT_STATUS (R85). -/
  | limitStatus (tag : Tag) (body : List Byte)
  /-- Request STEP_ADD (R90). -/
  | stepAdd (tag : Tag) (body : List Byte)
  /-- Request STEP_CANCEL (R103). -/
  | stepCancel (tag : Tag) (body : List Byte)
  /-- Request STEP_LIST (R110). -/
  | stepList (tag : Tag) (body : List Byte)
  /-- Request STEP_PIN (R118). -/
  | stepPin (tag : Tag) (body : List Byte)
  /-- Request FAULT_CLEAR (R132). -/
  | faultClear (tag : Tag) (body : List Byte)
  /-- Request PLANT_STATUS (R133). -/
  | plantStatus (tag : Tag) (body : List Byte)
  /-- Request PLAN_LOAD (R137). -/
  | planLoad (tag : Tag) (body : List Byte)
  /-- Request POUR_BEGIN (R141). -/
  | pourBegin (tag : Tag) (body : List Byte)
  /-- Request POUR_PROGRESS (R143). -/
  | pourProgress (tag : Tag) (body : List Byte)
  /-- Request POUR_END (R144). -/
  | pourEnd (tag : Tag) (body : List Byte)
  /-- Request PACE_SET (R150). -/
  | paceSet (tag : Tag) (body : List Byte)
  /-- Request POUR_STATUS (R152). -/
  | pourStatus (tag : Tag) (body : List Byte)
  /-- Request PERMIT_SET (R154). -/
  | permitSet (tag : Tag) (body : List Byte)
  /-- Request CHALLENGE (R158). -/
  | challenge (tag : Tag) (body : List Byte)
  /-- Request ANSWER (R159). -/
  | answer (tag : Tag) (body : List Byte)
  /-- Request PERMIT_STATUS (R170). -/
  | permitStatus (tag : Tag) (body : List Byte)
  /-- Request LOG_READ (R176). -/
  | logRead (tag : Tag) (body : List Byte)
  /-- Request TOTALS_GET (R181). -/
  | totalsGet (tag : Tag) (body : List Byte)
  /-- Request REPORT_COMPOSE (R183). -/
  | reportCompose (tag : Tag) (body : List Byte)
  /-- Request REPORT_READ (R188). -/
  | reportRead (tag : Tag) (body : List Byte)
  /-- Request IDENTIFY (R197). -/
  | identify (tag : Tag) (body : List Byte)
  /-- Request CLOCK_SET (R198). -/
  | clockSet (tag : Tag) (body : List Byte)
  /-- Request CALL_SET (R199). -/
  | callSet (tag : Tag) (body : List Byte)
  /-- Request NOTICE_SELECT (R195). -/
  | noticeSelect (tag : Tag) (body : List Byte)
  /-- Request PHASE_SET (R207). -/
  | phaseSet (tag : Tag) (body : List Byte)
  /-- Request STORE_WRITE (R213). -/
  | storeWrite (tag : Tag) (body : List Byte)
  /-- Request STORE_STATUS (R215). -/
  | storeStatus (tag : Tag) (body : List Byte)
  /-- Request RESTART (R217). -/
  | restart (tag : Tag) (body : List Byte)
  /-- The end of a scan period, with the raw sample standing at each channel (R22). -/
  | scanEnd (samples : Vector Sample 48)
  /-- The raw contact of a channel changes; a closed contact is ACTIVE (R26). -/
  | switchInputChange (channel : ChannelNo) (closed : Bool)
  /-- The raw input of a switch channel has held its state for the debounce time (R26, R27). -/
  | switchDebounceExpiry (channel : ChannelNo)
  /-- A rising edge at a channel (R28). -/
  | flowPulse (channel : ChannelNo)
  /-- The ballast emergency stop input becomes active (R130). -/
  | emergencyStopActivation
  /-- The ballast emergency stop input is released (R131). -/
  | emergencyStopRelease
  /-- The OPENING watch of a valve expires (R121). -/
  | valveOpenTimeout (valve : ValveNo)
  /-- The CLOSING watch of a valve expires (R129). -/
  | valveCloseTimeout (valve : ValveNo)
  /-- The gear timer of a pump expires in RAMP (R123). -/
  | rampGearExpiry (pump : PumpNo)
  /-- The gear timer of a pump expires in WIND_DOWN (R128). -/
  | windDownGearExpiry (pump : PumpNo)
  /-- The STARTING watch of a pump expires (R124). -/
  | pumpStartTimeout (pump : PumpNo)
  /-- The STOPPING watch of a pump expires (R125). -/
  | pumpStopTimeout (pump : PumpNo)
  /-- The no-flow timer of a pump expires (R126). -/
  | noFlowExpiry (pump : PumpNo)
  /-- The alarm pulse timer expires (R82). -/
  | alarmPulseExpiry
  /-- The answer timer reaches its timeout (R160). -/
  | answerTimeout
  /-- The challenge timer reaches its timeout (R162). -/
  | challengeTimeout
  /-- The challenge timer reaches R_open (R161). -/
  | challengeWindowOpens
  /-- The current recompute in flight completes (R45). -/
  | currentRecomputeComplete
  /-- The prediction in flight completes (R46). -/
  | predictionComplete
  /-- The composition in flight completes (R184). -/
  | reportCompositionComplete
  /-- The store write in flight completes; `agrees` says whether the item read back equals the snapshot (R213). -/
  | storeWriteComplete (agrees : Bool)
  /-- One second elapses (R198, R206). -/
  | clockSecondAdvance
  /-- The length byte of the frame in progress is above 240 (R190). -/
  | lengthByteAbove240 (length : Byte)
deriving DecidableEq, Repr

end Sys2Proof
end

