-- ==== Sys2Proof/Machine/Tables.lean ====
section
/-! DEFINITION. The configuration tables (chapter 1, R18, R21, R77, R84, R150, R154): the content of the stored CONFIG item (R212), each table with its empty value. -/

namespace Sys2Proof.Machine

/-- The call phases (R206). -/
inductive Phase where | setup | ready | loading | final
deriving DecidableEq, Repr

/-- The bands (R66). -/
inductive Band where | clear | caution | stop
deriving DecidableEq, Repr

/-- The seven band classes (R14). -/
inductive BandClass where | shear | bending | draft | air | trim | list | hold
deriving DecidableEq, Repr

/-- The code of a band class (R201), which is also its place in a vector over the classes. -/
def BandClass.ix : BandClass → Fin 7
  | .shear => 0 | .bending => 1 | .draft => 2 | .air => 3 | .trim => 4 | .list => 5 | .hold => 6

/-- The band classes in code order. -/
def BandClass.all : List BandClass := [.shear, .bending, .draft, .air, .trim, .list, .hold]

/-- The two loaders. -/
inductive Loader where | a | b
deriving DecidableEq, Repr

/-- Loader A is 0 and loader B is 1 (R201). -/
def Loader.ix : Loader → Fin 2
  | .a => 0 | .b => 1

/-- The four ship figures (R4). -/
structure ShipFigures where
  ls : Nat
  trimStern : Nat
  trimHead : Nat
  listLimit : Nat
deriving DecidableEq, Repr

/-- Fixed mass and immersion factor of a segment (R5). -/
structure Segment where
  mass : Nat
  immersion : Nat
deriving DecidableEq, Repr

/-- The three limits of a station (R6). -/
structure Station where
  shear : Nat
  hogging : Nat
  sagging : Nat
deriving DecidableEq, Repr

/-- The side a tank is declared on (R7). -/
inductive Side where | port | centre | starboard
deriving DecidableEq, Repr

/-- The configuration of a tank (R7). `metered` is METERED, its negation UNMETERED. -/
structure TankConfig where
  side : Side
  first : Nat
  count : Nat
  arm : Int
  density : Nat
  metered : Bool
  fixedLevel : Nat
deriving DecidableEq, Repr

/-- One sounding point: a level in mm and a volume in 0.1 m³ (R8). -/
structure Point where
  level : Nat
  volume : Nat
deriving DecidableEq, Repr

/-- The protected band of a tank (R9). -/
structure Bounds where
  lower : Nat
  upper : Nat
deriving DecidableEq, Repr

/-- The configuration of a hold (R11). -/
structure HoldConfig where
  first : Nat
  count : Nat
  arm : Int
  coaming : Nat
  maxMass : Nat
deriving DecidableEq, Repr

/-- The configuration of a pump (R12); an absent channel is NONE. -/
structure PumpConfig where
  gearInterval : Nat
  startTime : Nat
  noFlowTime : Nat
  litresPerPulse : Nat
  minInterval : Nat
  runChannel : Option ChannelNo
  flowChannel : Option ChannelNo
deriving DecidableEq, Repr

/-- The configuration of a valve (R13). -/
structure ValveConfig where
  travel : Nat
  channel : Option ChannelNo
deriving DecidableEq, Repr

/-- The caution and stop thresholds of a band class, in per-mille (R14). -/
structure Thresholds where
  caution : Nat
  stop : Nat
deriving DecidableEq, Repr

/-- The configuration of a channel: its mode with the fields of that mode (R18). The fields of the other modes have their empty values, so they are not kept. -/
inductive ChannelConfig where
  | off
  | level (rawLo rawHi span faultBand : Nat) (boundTank : Option TankNo)
  | switch (debounce : Nat) (notify : Bool)
  | pulse
deriving DecidableEq, Repr

/-- The scan setting (R21). -/
structure ScanSetting where
  prescale : Nat
  reload : Nat
deriving DecidableEq, Repr

/-- The stop settings: the tolerance count N and the EMERGENCY enable (R77). -/
structure StopSettings where
  tolerance : Nat
  emergencyEnabled : Bool
deriving DecidableEq, Repr

/-- The alarm modes (R82). -/
inductive AlarmMode where | lamp | pulse
deriving DecidableEq, Repr

/-- The four alarm groups (R201). -/
inductive AlarmGroup where | stress | berth | pace | equipment
deriving DecidableEq, Repr

/-- The code of an alarm group (R201). -/
def AlarmGroup.ix : AlarmGroup → Fin 4
  | .stress => 0 | .berth => 1 | .pace => 2 | .equipment => 3

/-- The alarm settings (R84). -/
structure AlarmSettings where
  mode : AlarmMode
  pulseLength : Nat
  masked : Vector Bool 4
deriving DecidableEq, Repr

/-- The configuration of the permit unit (R154). -/
structure PermitConfig where
  aOpen : Nat
  aWidth : Nat
  aExtra : Nat
  rOpen : Nat
  rWidth : Nat
  rExtra : Nat
  challengeCheck : Bool
  timeoutTrip : Bool
  zeroStop : Bool
  initial : Nat
  lower : Nat
  upper : Nat
  goodStep : Nat
  badStep : Nat
deriving DecidableEq, Repr

/-- The berth limits (R15). They are no part of CONFIG (R2). -/
structure BerthLimits where
  maxDraft : Nat
  clearance : Nat
  gm : Nat
deriving DecidableEq, Repr

/-- Everything the stored item CONFIG holds (R212): the live tables of the controller, and a snapshot of them in the store. -/
structure ConfigTables where
  ship : ShipFigures
  segments : Vector Segment 20
  stations : Vector Station 19
  tanks : Vector TankConfig 16
  soundings : Vector (List Point) 16
  bounds : Vector Bounds 16
  holds : Vector HoldConfig 9
  pumps : Vector PumpConfig 3
  valves : Vector ValveConfig 21
  thresholds : Vector Thresholds 7
  channels : Vector ChannelConfig 48
  scan : ScanSetting
  stop : StopSettings
  alarm : AlarmSettings
  pace : Nat
  permit : PermitConfig
deriving DecidableEq, Repr

/-- The default thresholds of R14, in class order. -/
def defaultThresholds : Vector Thresholds 7 :=
  #v[⟨900, 1000⟩, ⟨900, 1000⟩, ⟨985, 1000⟩, ⟨950, 1000⟩, ⟨900, 1000⟩, ⟨800, 1000⟩, ⟨950, 1000⟩]

/-- The default configuration of the permit unit (R154). -/
def defaultPermit : PermitConfig :=
  { aOpen := 5, aWidth := 55, aExtra := 60, rOpen := 60, rWidth := 60, rExtra := 60,
    challengeCheck := false, timeoutTrip := false, zeroStop := true,
    initial := 8, lower := 5, upper := 11, goodStep := 1, badStep := 4 }

/-- The empty value of a tank's configuration (R2). -/
def emptyTank : TankConfig :=
  { side := .centre, first := 0, count := 0, arm := 0, density := 1025, metered := true, fixedLevel := 0 }

/-- The empty value of a hold's configuration (R2). -/
def emptyHold : HoldConfig := { first := 0, count := 0, arm := 0, coaming := 0, maxMass := 0 }

/-- The empty value of a pump's configuration (R2). -/
def emptyPump : PumpConfig :=
  { gearInterval := 5, startTime := 10, noFlowTime := 30, litresPerPulse := 100, minInterval := 50,
    runChannel := none, flowChannel := none }

/-- The empty value of a valve's configuration (R2). -/
def emptyValve : ValveConfig := { travel := 60, channel := none }

/-- Every table at its empty value (R2, R18, R21, R68, R135, R154): what the controller has when CONFIG is invalid or absent. -/
def emptyTables : ConfigTables :=
  { ship := ⟨0, 0, 0, 0⟩
    segments := Vector.replicate 20 ⟨0, 0⟩
    stations := Vector.replicate 19 ⟨0, 0, 0⟩
    tanks := Vector.replicate 16 emptyTank
    soundings := Vector.replicate 16 []
    bounds := Vector.replicate 16 ⟨0, 0⟩
    holds := Vector.replicate 9 emptyHold
    pumps := Vector.replicate 3 emptyPump
    valves := Vector.replicate 21 emptyValve
    thresholds := defaultThresholds
    channels := Vector.replicate 48 .off
    scan := ⟨1, 156⟩
    stop := ⟨2, true⟩
    alarm := ⟨.lamp, 5, Vector.replicate 4 false⟩
    pace := 2000
    permit := defaultPermit }

/-- The berth limits at power-on (R2). -/
def noBerthLimits : BerthLimits := ⟨0, 0, 0⟩

end Sys2Proof.Machine
end

