-- ==== Sys2Proof/Config.lean ====
section
/-! DEFINITION. What one implementation fixes and the manual leaves open: constants with no body, so that nothing can be proved of their values, and the sizes fixed in the part (section 1.3). -/

namespace Sys2Proof.Config

/-- Whether RCU takes a delivered current record before LSL does, at the n-th free choice (R45, R174: either order). Log entry 3. -/
opaque recordsFirst : Nat → Bool
/-- Whether LSL takes a pace result before PMU does, at the n-th free choice (R149: each in its own time). Log entry 4. -/
opaque limitsFirst : Nat → Bool
/-- Whether a remaining time that is no whole number of seconds is shown rounded up, given the milliseconds remaining (R85, R133 state no rounding). Log entry 5. -/
opaque shownRoundedUp : Nat → Bool
/-- The reading of the controller's millisecond clock at the origin of the model's clock (R20, R28 name no origin). Log entry 6. -/
opaque clockOrigin : Nat
/-- What CHANNEL_GET shows as the time of the last raw change of a switch channel whose raw input has not changed since its run state was reset (R20 gives none). Log entry 6. -/
opaque noChangeTime : ChannelNo → Nat
/-- The raw sample standing at a channel when a scan period runs out on the clock, at the n-th free choice (R21, R22: what the sensors show is the field's). Log entry 27. -/
opaque levelSample : Nat → ChannelNo → Sample
/-- The content of a stored CONFIG item as bytes (R212, R215 give no layout). Log entry 7. -/
opaque configBytes : Machine.ConfigTables → List Byte
/-- The format version of a stored CONFIG item (R212 gives no number). Log entry 7. -/
opaque configVersion : Byte
/-- The format version of a stored REPORT item (R212 gives no number). Log entry 7. -/
opaque reportVersion : Byte

/-- The most entries the call log holds (R173). -/
def logCapacity : Nat := 1024
/-- The most predictions that wait (R42). -/
def predictionQueueSize : Nat := 4
/-- The most bytes of a frame body (R189). -/
def maxBody : Nat := 240
/-- The greatest value of a 32-bit counter or clock. -/
def maxU32 : Nat := 4294967295

end Sys2Proof.Config
end

