-- ==== Sys2Proof/Machine/Arith.lean ====
section
/-! DEFINITION. The arithmetic conventions of the manual: rounding (R1), clamping, saturation, and the bytes of a number on the link (R200). -/

namespace Sys2Proof.Machine

/-- The quotient rounded to the nearest whole number, halves away from zero (R1), for a positive divisor. -/
def roundDiv (n d : Int) : Int :=
  if 0 ≤ n then (2 * n + d) / (2 * d) else -((2 * -n + d) / (2 * d))

/-- `roundDiv` on natural numbers. -/
def roundNat (n d : Nat) : Nat := (2 * n + d) / (2 * d)

/-- `x` held within `lo` to `hi`. -/
def clampInt (lo hi x : Int) : Int := if x < lo then lo else if hi < x then hi else x

/-- The one value a counter takes after `n` when it is held at `top`. -/
def satAdd (top n k : Nat) : Nat := min top (n + k)

/-- A number in `k` bytes, most significant first (R1). -/
def bytesOf : Nat → Nat → List Byte
  | 0, _ => []
  | k + 1, n => BitVec.ofNat 8 (n / 256 ^ k) :: bytesOf k n

/-- A number in 1 byte. -/
def u8 (n : Nat) : List Byte := bytesOf 1 n
/-- A number in 2 bytes. -/
def u16 (n : Nat) : List Byte := bytesOf 2 n
/-- A number in 4 bytes. -/
def u32 (n : Nat) : List Byte := bytesOf 4 n
/-- A signed number in 2 bytes, in two's complement (R200). -/
def i16 (x : Int) : List Byte := bytesOf 2 (x % 65536).toNat
/-- A signed number in 4 bytes, in two's complement (R200). -/
def i32 (x : Int) : List Byte := bytesOf 4 (x % 4294967296).toNat
/-- A flag, or any of the paired values whose codes are 0 and 1 (R201). -/
def flag (b : Bool) : List Byte := u8 b.toNat

/-- The number a string of bytes spells, most significant first. -/
def numberOf (l : List Byte) : Nat := l.foldl (fun n b => n * 256 + b.toNat) 0

/-- The field of `len` bytes at offset `off` of a body. -/
def field (body : List Byte) (off len : Nat) : Nat := numberOf ((body.drop off).take len)

/-- The signed field of 2 bytes at offset `off` of a body (R200). -/
def fieldI16 (body : List Byte) (off : Nat) : Int :=
  let n := field body off 2
  if n < 32768 then n else (n : Int) - 65536

/-- The number `n` as an index below `k`, where it is one. -/
def index (n k : Nat) : Option (Fin k) := if h : n < k then some ⟨n, h⟩ else none

/-- The ON/OFF value of a byte; none where it is neither. -/
def onOff (n : Nat) : Option Bool := if n = 0 then some false else if n = 1 then some true else none

/-- `x` where the condition holds. -/
def whenever {α : Type} (c : Bool) (x : α) : Option α := if c then some x else none

/-- Whether `lo ≤ n ≤ hi`; both ends are included (R1). -/
def within (lo hi n : Nat) : Bool := decide (lo ≤ n ∧ n ≤ hi)

end Sys2Proof.Machine
end

