-- ==== Sys2Proof/Machine/Blocks.lean ====
section
/-! DEFINITION. The run state of the twelve functional blocks (section 2.1 of 00_scope.md), one structure for each block. Times are absolute readings of the model's millisecond clock: a timer is kept as the reading at which it runs out (`Until`) or started (`Since`), log entry 2. -/

namespace Sys2Proof.Machine

/-! ### FCU (R20, R21) -/

/-- The run state of a channel, by its mode (R20). -/
inductive ChannelRun where
  | off
  /-- LEVEL: the last raw sample and whether it was valid; the filter window, oldest first; the invalid run count; VALID or STALE. -/
  | level (lastSample : Option (Sample × Bool)) (window : List Nat) (invalidRun : Nat) (valid : Bool)
  /-- SWITCH: the debounced state (ACTIVE is true, absent is UNDETERMINED); since when the raw input has held its state; when it last changed. -/
  | switch (debounced : Option Bool) (heldSince : Nat) (changedAt : Option Nat)
  /-- PULSE: the pulse count and the last pulse time. -/
  | pulse (count : BitVec 32) (lastPulse : Option Nat)
deriving DecidableEq, Repr

/-- The scan timer: the setting the period in progress runs on, and the reading of the clock at which that period ends (R21). -/
structure ScanTimer where
  running : ScanSetting
  endsAt : Nat
deriving DecidableEq, Repr

/-- The field channel unit. -/
structure Fcu where
  channels : Vector ChannelRun 48
  scan : ScanTimer
deriving DecidableEq, Repr

/-! ### TKM (R10) -/

/-- The lock state of a tank with its reason. -/
inductive Lock where | unlocked | operator | valve
deriving DecidableEq, Repr

/-- The run fields of a tank (R10). -/
structure TankRun where
  level : Nat
  volume : Nat
  mass : Nat
  stale : Bool
  overTable : Bool
  lock : Lock
deriving DecidableEq, Repr

/-! ### PTR (R135 to R139, R146) -/

/-- The state of a plan entry (R136). -/
inductive PlanState where | planned | pouring | poured
deriving DecidableEq, Repr

/-- What a POUR_END leaves in its plan entry (R136). -/
structure PourResult where
  final : Nat
  ballastOut : Int
  lag : Int
  good : Bool
deriving DecidableEq, Repr

/-- A plan entry (R136). Its pour number is its place in the plan, from 1. `begun` holds the loader and the permit at begin. -/
structure PlanEntry where
  hold : HoldNo
  planned : Nat
  due : Nat
  state : PlanState
  begun : Option (Loader × Bool)
  result : Option PourResult
deriving DecidableEq, Repr

/-- A POURING loader slot (R138). -/
structure Pour where
  number : Nat
  hold : HoldNo
  credited : Nat
  permitAtBegin : Bool
  beginShipTime : Nat
  beginCallTime : Nat
deriving DecidableEq, Repr

/-- The run fields of a hold (R139). -/
structure HoldRun where
  mass : Nat
  pours : Nat
deriving DecidableEq, Repr

/-- The record figures of the loading-start snapshot (R146). -/
structure StartFigures where
  ballast : Nat
  cargo : Nat
  displacement : Nat
  tm : Nat
  ta : Nat
  tf : Nat
  trim : Int
  sequence : Nat
deriving DecidableEq, Repr

/-- The loading-start snapshot: absent, PENDING, or TAKEN (R146, R147). -/
inductive StartSnapshot where
  | absent
  | pending (volumes : Vector Nat 16)
  | taken (figures : StartFigures) (volumes : Vector Nat 16)
deriving DecidableEq, Repr

/-- The pour tracker. An absent loader slot is IDLE. -/
structure Ptr where
  plan : List PlanEntry
  loaders : Vector (Option Pour) 2
  holds : Vector HoldRun 9
  start : StartSnapshot
deriving DecidableEq, Repr

/-! ### Steps (R87) -/

/-- The kinds of step. -/
inductive StepKind where | ballast | deballast | shift | strip
deriving DecidableEq, Repr

/-- The step classes. -/
inductive StepClass where | normal | urgent
deriving DecidableEq, Repr

/-- The edges of a pour. -/
inductive Edge where | beginEdge | endEdge
deriving DecidableEq, Repr

/-- A gate: a pour number and the edge waited for (R87). -/
structure Gate where
  pour : Nat
  edge : Edge
deriving DecidableEq, Repr

/-- The seven step states. -/
inductive StepState where | checking | queued | waiting | lineup | ramp | run | windDown
deriving DecidableEq, Repr

/-- The ten outcomes (R201). -/
inductive StepOutcome where
  | reached | cancelled | bound | noFlow | pump | valve | locked | stale | tripped | restarted
deriving DecidableEq, Repr

/-- The dispositions (R201). -/
inductive Disposition where | done | cancelled | faulted
deriving DecidableEq, Repr

/-- The refusal reasons (R201). -/
inductive Reason where | locked | stale | range | limit | cancelled | restarted | aborted
deriving DecidableEq, Repr

/-- A held step (R87). A pump choice of none is ANY. `closeFailed` lists the lineup valves that failed to prove closed in its wind-down (R102). The disposition is formed at removal and stands in the end record only. -/
structure StepRec where
  number : Nat
  kind : StepKind
  source : Option TankNo
  dest : Option TankNo
  target : Nat
  choice : Option PumpNo
  cls : StepClass
  gate : Option Gate
  state : StepState
  cancelRequested : Bool
  grantedPump : Option PumpNo
  outcome : Option StepOutcome
  faultMark : Bool
  startSource : Option Nat
  startDest : Option Nat
  litres : Nat
  timeAdmitted : Option Nat
  timeRun : Option Nat
  closeFailed : List ValveNo
deriving DecidableEq, Repr

/-- The transfer sequencer: the slots, the queue order of the admitted steps, the CHECKING steps in order of reservation, and the last assigned step number (R86, R88). -/
structure Tsq where
  slots : Vector (Option StepRec) 32
  order : List SlotNo
  checking : List SlotNo
  lastNumber : Nat
deriving DecidableEq, Repr

/-! ### CEN (section 3.1) -/

/-- The part of a step that a prediction applies (R44, R49). -/
structure Move where
  kind : StepKind
  source : Option TankNo
  dest : Option TankNo
  target : Nat
deriving DecidableEq, Repr

/-- A PREDICT override: a tank's level or a hold's mass (R62). -/
inductive Override where
  | tank (tank : TankNo) (level : Nat)
  | hold (hold : HoldNo) (mass : Nat)
deriving DecidableEq, Repr

/-- Who asked for a prediction (section 3.1): a STEP_ADD by its step number, or a PREDICT by its tag. -/
inductive Requester where
  | step (number : Nat)
  | predict (tag : Tag)
deriving DecidableEq, Repr

/-- A prediction request, with the reply slot its deferred reply fills (R191, R192). -/
structure PredictionRequest where
  requester : Requester
  reply : ReplyNo
  includeAdmitted : Bool
  overrides : List Override
deriving DecidableEq, Repr

/-- The inputs a computation takes when it begins (R44). `moves` are the step targets a prediction applies, the new step's last (R49); it is empty for a current recompute. -/
structure Snapshot where
  ship : ShipFigures
  segments : Vector Segment 20
  stations : Vector Station 19
  thresholds : Vector Thresholds 7
  tanks : Vector TankConfig 16
  soundings : Vector (List Point) 16
  tankMass : Vector Nat 16
  holds : Vector HoldConfig 9
  holdMass : Vector Nat 9
  berth : BerthLimits
  pours : List (Loader × HoldNo)
  shipTime : Nat
  baseSequence : Nat
  moves : List Move
deriving DecidableEq, Repr

/-- The computation in flight. -/
inductive Computation where
  | current (snap : Snapshot)
  | prediction (request : PredictionRequest) (snap : Snapshot)
deriving DecidableEq, Repr

/-- One segment of a condition record (R61). -/
structure SegmentFigures where
  weight : Nat
  draft : Nat
  buoyancy : Int
deriving DecidableEq, Repr

/-- One station of a condition record (R61). -/
structure StationFigures where
  shear : Int
  bending : Int
  shearUsage : Nat
  bendingUsage : Nat
deriving DecidableEq, Repr

/-- One entry of the air list (R59). -/
structure AirEntry where
  loader : Loader
  hold : HoldNo
  clearance : Nat
  usage : Nat
deriving DecidableEq, Repr

/-- A worst station: its number from 1 and its usage (R58). -/
structure Worst where
  station : Nat
  usage : Nat
deriving DecidableEq, Repr

/-- A condition record (R61). -/
structure ConditionRecord where
  predicted : Bool
  sequence : Nat
  shipTime : Nat
  displacement : Nat
  ballast : Nat
  cargo : Nat
  moment : Int
  tm : Nat
  trim : Int
  ta : Nat
  tf : Nat
  list : Int
  segments : List SegmentFigures
  stations : List StationFigures
  worstShear : Worst
  worstBending : Worst
  figures : Vector Nat 7
  bands : Vector Band 7
  overall : Band
  modelRange : Bool
  air : List AirEntry
deriving DecidableEq, Repr

/-- The condition engine. -/
structure Cen where
  inFlight : Option Computation
  pendingCurrent : Bool
  queue : List PredictionRequest
  current : Option ConditionRecord
  sequence : Nat
deriving DecidableEq, Repr

/-! ### LSL (R68) -/

/-- The stop causes, each active or not. -/
structure StopCauses where
  condition : Bool
  counter : Bool
  emergency : Bool
deriving DecidableEq, Repr

/-- The flags of an alarm group besides its mask (section 4.4). -/
structure GroupFlags where
  causePresent : Bool
  unacknowledged : Bool
deriving DecidableEq, Repr

/-- The kinds of equipment fault with their items (R81). -/
inductive Equipment where
  | sensor (tank : TankNo)
  | overTable (tank : TankNo)
  | pump (pump : PumpNo)
  | valve (valve : ValveNo)
  | meter (pump : PumpNo)
deriving DecidableEq, Repr

/-- The equipment fault set: for each of the 59 possible faults, whether it is present (R81). -/
structure FaultSet where
  sensor : Vector Bool 16
  overTable : Vector Bool 16
  pump : Vector Bool 3
  valve : Vector Bool 21
  meter : Vector Bool 3
deriving DecidableEq, Repr

/-- The limit and stop logic (R68). -/
structure Lsl where
  classBands : Vector Band 7
  overallBand : Band
  bandSequence : Nat
  stopRun : Nat
  causes : StopCauses
  emergencyInput : Bool
  acknowledged : Bool
  line : Bool
  groups : Vector GroupFlags 4
  faults : FaultSet
  paceLagging : Bool
  counterLow : Bool
  pulseUntil : Option Nat
  alarmLine : Bool
deriving DecidableEq, Repr

/-! ### PVA (R111 to R114) -/

/-- The pump states. -/
inductive PumpState where | free | busy | faulted | tripped
deriving DecidableEq, Repr

/-- The gears: the speed demand in per cent. -/
inductive Gear where | g0 | g25 | g50 | g75 | g100
deriving DecidableEq, Repr

/-- What the run-feedback switch last showed. -/
inductive RunProof where | running | stopped | unknown
deriving DecidableEq, Repr

/-- The run watch of a pump. -/
inductive RunWatch where
  | absent
  | starting (until_ : Nat)
  | stopping (until_ : Nat)
deriving DecidableEq, Repr

/-- A pump record (R111). `run` is the run command. -/
structure Pump where
  state : PumpState
  granted : Option Nat
  run : Bool
  gear : Gear
  gearUntil : Option Nat
  proof : RunProof
  watch : RunWatch
  noFlowUntil : Option Nat
  meter : Bool
  fairness : Option (StepClass × Nat)
deriving DecidableEq, Repr

/-- What the open-feedback switch of a valve last showed. -/
inductive Proved where | opened | closed | unknown
deriving DecidableEq, Repr

/-- The travel watch of a valve. -/
inductive TravelWatch where
  | absent
  | opening (until_ : Nat)
  | closing (until_ : Nat)
deriving DecidableEq, Repr

/-- A valve record (R112). `open_` is the commanded state OPEN. -/
structure Valve where
  open_ : Bool
  proved : Proved
  watch : TravelWatch
  faulted : Bool
deriving DecidableEq, Repr

/-- The main-line modes (R113). -/
inductive MainMode where | idle | fill | drain | shift
deriving DecidableEq, Repr

/-- A candidate for a grant: a WAITING step by its number, its waiting mark, and whether it is withheld (R114). Its kind, tanks, choice, class and place are those of its step record. -/
structure Candidate where
  step : Nat
  mark : Nat
  withheld : Bool
deriving DecidableEq, Repr

/-- The pump and valve arbiter. -/
structure Pva where
  pumps : Vector Pump 3
  valves : Vector Valve 21
  mode : MainMode
  candidates : List Candidate
  pin : Option Nat
  grants : Nat
deriving DecidableEq, Repr

/-! ### PMU (R153) -/

/-- The unit state with its timer: since when it runs, and in AWAIT_CHALLENGE whether its R_open moment has been taken (R161). -/
inductive UnitState where
  | idle
  | awaitAnswer (since : Nat)
  | awaitChallenge (since : Nat) (opened : Bool)
deriving DecidableEq, Repr

/-- The nine status flags (R201). -/
inductive StatusFlag where
  | earlyAnswer | lateAnswer | wrongAnswer | earlyChallenge | lateChallenge
  | timeoutAnswer | timeoutChallenge | paceLag | counterZero
deriving DecidableEq, Repr

/-- The code of a status flag (R201). -/
def StatusFlag.ix : StatusFlag → Fin 9
  | .earlyAnswer => 0 | .lateAnswer => 1 | .wrongAnswer => 2 | .earlyChallenge => 3
  | .lateChallenge => 4 | .timeoutAnswer => 5 | .timeoutChallenge => 6 | .paceLag => 7
  | .counterZero => 8

/-- The permit unit. -/
structure Pmu where
  unit : UnitState
  seed : BitVec 15
  counter : Nat
  hysteresis : Bool
  zeroAsserted : Bool
  lowReported : Bool
  flags : Vector Bool 9
  trips : Nat
  permit : Bool
deriving DecidableEq, Repr

/-! ### RCU (chapter 9) -/

/-- The kinds of log entry (section 9.1). -/
inductive EntryKind where
  | phase | pourBegin | pourEnd | stepEnd | stepRefused | permitChange | stopOn | stopOff | alarm
  | attendanceBad | bandChange | berthSet | tankLock | tankUnlock | sensorStale | sensorValid
  | valveFault | pumpFault | meterFault | emergencyOn | emergencyOff | restart
deriving DecidableEq, Repr

/-- A log entry (R173). -/
structure LogEntry where
  sequence : Nat
  callTime : Nat
  kind : EntryKind
  params : Vector Nat 4
deriving DecidableEq, Repr

/-- The start volume and the four totals of a tank (R177). -/
structure TankTotals where
  start : Nat
  intake : Nat
  discharge : Nat
  shiftIn : Nat
  shiftOut : Nat
deriving DecidableEq, Repr

/-- The nine figures that a report takes from a current record (R177, R186). -/
structure ReportFigures where
  sequence : Nat
  ta : Nat
  tf : Nat
  tm : Nat
  trim : Int
  list : Int
  displacement : Nat
  ballast : Nat
  cargo : Nat
deriving DecidableEq, Repr

/-- The arrival condition, with the ship time at loading start (R177). -/
inductive Arrival where
  | absent
  | pending (shipTime : Nat)
  | taken (shipTime : Nat) (figures : ReportFigures)
deriving DecidableEq, Repr

/-- A peak record: its figure, its station or hold (0 where it has none), and the ship time of its record (R179). -/
structure Peak where
  figure : Nat
  item : Nat
  shipTime : Nat
deriving DecidableEq, Repr

/-- The four peak records (R179). -/
structure Peaks where
  shear : Peak
  bending : Peak
  draft : Peak
  air : Peak
deriving DecidableEq, Repr

/-- The eight event counts (R180). -/
structure Counts where
  stopAssertions : Nat
  permitDrops : Nat
  paceLags : Nat
  attendanceBad : Nat
  emergencyTrips : Nat
  unplannedPours : Nat
  stepsDone : Nat
  stepsFaulted : Nat
deriving DecidableEq, Repr

/-- A report: its bytes (R204), with the fields other rules read from it. -/
structure Report where
  interim : Bool
  serial : Nat
  callNumber : Nat
  bytes : List Byte
deriving DecidableEq, Repr

/-- The snapshot a composition works from (R183). -/
structure ComposeSnapshot where
  interim : Bool
  callNumber : Nat
  portCode : List Byte
  berthText : List Byte
  shipTime : Nat
  arrival : Arrival
  totals : Vector TankTotals 16
  volumes : Vector Nat 16
  holdMass : Vector Nat 9
  planned : Nat
  poured : Nat
  peaks : Peaks
  counts : Counts
  wrapped : Bool
  record : ConditionRecord
deriving DecidableEq, Repr

/-- The record unit. The log is kept oldest first; a `nextSequence` of none is EXHAUSTED; an absent composition is the composer IDLE. -/
structure Rcu where
  log : List LogEntry
  nextSequence : Option Nat
  wrapped : Bool
  memoryBands : Vector Band 7
  memoryOverall : Band
  totals : Vector TankTotals 16
  arrival : Arrival
  peaks : Peaks
  counts : Counts
  slot : Option Report
  composing : Option ComposeSnapshot
  serial : Nat
deriving DecidableEq, Repr

/-! ### SST (R212) -/

/-- The two stored items. -/
inductive StoreItem where | config | report
deriving DecidableEq, Repr

/-- What a stored item consists of: its format version, its length, its content, and the CRC-32 over all three (R212). -/
structure StoredItem (α : Type) where
  version : Byte
  length : BitVec 16
  content : α
  crc : BitVec 32
deriving DecidableEq, Repr

/-- A place of the store: INVALID, WRITING with the snapshot being written, or VALID with the item it holds. -/
inductive Stored (α : Type) where
  | invalid
  | writing (snapshot : α)
  | valid (item : StoredItem α)
deriving DecidableEq, Repr

/-- The settings store (R212). An absent writer is IDLE. -/
structure Sst where
  writer : Option StoreItem
  config : Stored ConfigTables
  report : Stored Report
deriving DecidableEq, Repr

/-! ### LNK (chapter 10) -/

/-- The receive assembler: HUNT, or FRAME with the bytes gathered (R190). -/
inductive Rx where
  | hunt
  | frame (gathered : List Byte)
deriving DecidableEq, Repr

/-- The status codes of replies (R192). -/
inductive Status where
  | ok | format | range | phase | busy | full | unknown | locked | stale | inUse | limit | order
  | state | aborted | unknownKind | invalidTables
deriving DecidableEq, Repr

/-- A slot of the reply queue (R193). A filled slot holds its reply's status and the bytes after it. -/
inductive ReplySlot where
  | free
  | reserved (kind : Byte) (tag : Tag)
  | filled (kind : Byte) (tag : Tag) (status : Status) (body : List Byte)
deriving DecidableEq, Repr

/-- A notice (R194); a STEP_STATE notice names its queue slot. -/
inductive Notice where
  | stopChanged | permitChanged | alarm | stepState (slot : SlotNo) | conditionBand | pourResult
  | challengeDue | sensor | storeDone | reportDone
deriving DecidableEq, Repr

/-- A filled place of the notice pending set: its content and its pending time (R194). -/
structure PendingNotice where
  content : List Byte
  since : Nat
deriving DecidableEq, Repr

/-- A frame of the link, before its start byte, length and CRC are formed (R189). -/
structure Frame where
  cls : Byte
  kind : Byte
  tag : Tag
  body : List Byte
deriving DecidableEq, Repr

/-- The transmitter: IDLE, or SENDING one frame, a reply's with its slot or a notice's (R196). -/
inductive Tx where
  | idle
  | reply (slot : ReplyNo) (frame : Frame)
  | notice (frame : Frame)
deriving DecidableEq, Repr

/-- The link port. `filled` lists the filled slots that wait to be sent, in the order they were filled; the notice places are numbered by `Notice.place`. -/
structure Lnk where
  rx : Rx
  slots : Vector ReplySlot 8
  filled : List ReplyNo
  notices : Vector (Option PendingNotice) 41
  enabled : BitVec 16
  tx : Tx
deriving DecidableEq, Repr

/-! ### CCL (R206) -/

/-- The cause of the last start. -/
inductive StartCause where | power | restart
deriving DecidableEq, Repr

/-- The call controller. `secondAt` is when the second in progress ends. -/
structure Ccl where
  phase : Phase
  callNumber : Nat
  portCode : List Byte
  berthText : List Byte
  shipTime : Nat
  callTime : Nat
  startCause : StartCause
  configAbsent : Bool
  secondAt : Nat
deriving DecidableEq, Repr

/-! ### The field wiring -/

/-- The field inputs that stand at a level: each channel's raw contact (closed is true) and the emergency stop input (active is true). -/
structure Pins where
  contacts : Vector Bool 48
  emergency : Bool
deriving DecidableEq, Repr

end Sys2Proof.Machine
end

