-- ==== Sys2Proof/Machine/Crc.lean ====
section
/-! DEFINITION. The checks and frames of the link: CRC-16 and the frame (R189), the receive assembler (R190), and the CRC-32 of reports and stored items (R187). -/

namespace Sys2Proof.Machine

/-- One of the eight steps of the CRC-16 register (R189). -/
def crc16Step (r : BitVec 16) : BitVec 16 :=
  if r.msb then (r <<< 1) ^^^ 0x1021#16 else r <<< 1

/-- `k` steps of the CRC-16 register. -/
def crc16Steps : Nat → BitVec 16 → BitVec 16
  | 0, r => r
  | k + 1, r => crc16Steps k (crc16Step r)

/-- One byte taken by the CRC-16 register: into its high eight bits, then eight steps (R189). -/
def crc16Byte (r : BitVec 16) (b : Byte) : BitVec 16 :=
  crc16Steps 8 (r ^^^ (b.setWidth 16 <<< 8))

/-- The CRC-16 of a string of bytes (R189). -/
def crc16 (l : List Byte) : BitVec 16 := l.foldl crc16Byte 0xFFFF#16

/-- One of the eight steps of the CRC-32 register (R187). -/
def crc32Step (r : BitVec 32) : BitVec 32 :=
  if r.getLsbD 0 then (r >>> 1) ^^^ 0xEDB88320#32 else r >>> 1

/-- `k` steps of the CRC-32 register. -/
def crc32Steps : Nat → BitVec 32 → BitVec 32
  | 0, r => r
  | k + 1, r => crc32Steps k (crc32Step r)

/-- One byte taken by the CRC-32 register: into its low eight bits, then eight steps (R187). -/
def crc32Byte (r : BitVec 32) (b : Byte) : BitVec 32 := crc32Steps 8 (r ^^^ b.setWidth 32)

/-- The CRC-32 of a string of bytes (R187). -/
def crc32 (l : List Byte) : BitVec 32 := ~~~(l.foldl crc32Byte 0xFFFFFFFF#32)

/-- The bytes of a frame that its CRC covers: length, class, kind, tag and body (R189). -/
def Frame.covered (f : Frame) : List Byte :=
  u8 f.body.length ++ [f.cls, f.kind] ++ u16 f.tag.toNat ++ f.body

/-- A frame as it stands on the line (R189). -/
def Frame.wire (f : Frame) : List Byte :=
  0xA7#8 :: f.covered ++ u16 (crc16 f.covered).toNat

/-- How many bytes a frame has whose length byte is `n` (R189). -/
def frameLength (n : Nat) : Nat := n + 8

/-- Whether the bytes are a complete frame: its start byte, a length byte of at most 240, and as many bytes as it declares (R189). -/
def frameComplete (l : List Byte) : Bool :=
  match l with
  | s :: n :: _ => s == 0xA7#8 && n.toNat ≤ Config.maxBody && l.length == frameLength n.toNat
  | _ => false

/-- Whether a complete frame passes the judgement of R190: its CRC agrees and its class is 1. -/
def frameAccepted (l : List Byte) : Bool :=
  let body := (l.drop 1).take (l.length - 3)
  (crc16 body).toNat == field l (l.length - 2) 2 && field l 2 1 == 1

/-- The assembler takes one byte (R190). A frame that is complete leaves it in HUNT. -/
def Rx.take (r : Rx) (b : Byte) : Rx :=
  match r with
  | .hunt => if b = 0xA7#8 then .frame [b] else .hunt
  | .frame got =>
    let all := got ++ [b]
    if all.length = 2 ∧ Config.maxBody < b.toNat then .hunt
    else if frameComplete all then .hunt
    else .frame all

/-- The assembler takes bytes in turn. -/
def Rx.takeAll (r : Rx) (l : List Byte) : Rx := l.foldl Rx.take r

/-- Whether bytes taken in HUNT complete a frame that passes, which would be a request of its own. -/
def Rx.completesRequest : Rx → List Byte → Bool
  | _, [] => false
  | r, b :: l =>
    (match r with
     | .hunt => false
     | .frame got => frameComplete (got ++ [b]) && frameAccepted (got ++ [b]))
    || Rx.completesRequest (r.take b) l

end Sys2Proof.Machine
end

