-- ==== Sys2Proof/Machine/Flags.lean ====
section
/-! DEFINITION. Bands (R66), the alarm and stop conditions (R75, R82), and the seed and expected answer of the attendance check (R156, R157). -/

namespace Sys2Proof.Machine

/-- The placing of a usage in its band (R66). -/
def placeBand (t : Thresholds) (usage : Nat) : Band :=
  if usage < t.caution then .clear else if usage < t.stop then .caution else .stop

/-- The code of a band (R201), which is also its rank. -/
def Band.code : Band → Nat
  | .clear => 0 | .caution => 1 | .stop => 2

/-- Whether one band is higher than another, in the order CLEAR, CAUTION, STOP. -/
def Band.above (a b : Band) : Bool := decide (b.code < a.code)

/-- The higher of two bands. -/
def Band.max (a b : Band) : Band := if a.above b then a else b

/-- The highest of the seven class bands (R66). -/
def overallBand (v : Vector Band 7) : Band := v.toList.foldl Band.max .clear

/-- Whether any stop cause is active (R75). -/
def StopCauses.any (c : StopCauses) : Bool := c.condition || c.counter || c.emergency

/-- The LOADER STOP line after an evaluation (R75). -/
def stopLine (line : Bool) (causes : StopCauses) (acknowledged : Bool) : Bool :=
  if line then causes.any || !acknowledged else causes.any

/-- The ALARM line: in LAMP mode by the flags of the unmasked groups, in PULSE mode by the pulse timer (R82). -/
def alarmLine (a : AlarmSettings) (groups : Vector GroupFlags 4) (pulse : Option Nat) : Bool :=
  match a.mode with
  | .lamp => (List.finRange 4).any fun g =>
      !a.masked[g] && (groups[g].causePresent || groups[g].unacknowledged)
  | .pulse => pulse.isSome

/-- The hysteresis state after the counter has changed (R167). -/
def hysteresisAfter (c : PermitConfig) (counter : Nat) (held : Bool) : Bool :=
  if c.upper ≤ counter then true else if counter < c.lower then false else held

/-- LOADER PERMIT (R169). -/
def permitLine (phase : Phase) (hysteresis stop : Bool) : Bool :=
  decide (phase = .loading) && hysteresis && !stop

/-- The permit counter after a good or a bad event (R165). -/
def counterAfter (c : PermitConfig) (good : Bool) (counter : Nat) : Nat :=
  if good then min 15 (counter + c.goodStep) else counter - c.badStep

/-- One step of the seed generator (R156). -/
def seedStep (s : BitVec 15) : BitVec 15 :=
  (s <<< 1) ||| (BitVec.ofBool (s.getLsbD 14 ^^ s.getLsbD 13)).setWidth 15

/-- The 16-bit seed of a seed state (R156). -/
def seedOf (s : BitVec 15) : BitVec 16 := s.setWidth 16

/-- The expected answer to a seed: every bit inverted, then the two bytes exchanged (R157). -/
def expectedAnswer (seed : BitVec 16) : BitVec 16 :=
  let n := ~~~seed
  (n <<< 8) ||| (n >>> 8)

/-- How an answer or a challenge stands to its window (section 8.4). -/
inductive WindowPlace where | early | within | late
deriving DecidableEq, Repr

/-- The place of `e` elapsed seconds against a window opening and width (section 8.4). -/
def windowPlace (open_ width e : Nat) : WindowPlace :=
  if e < open_ then .early else if e ≤ open_ + width then .within else .late

/-- The next higher gear (R123). -/
def Gear.up : Gear → Gear
  | .g0 => .g25 | .g25 => .g50 | .g50 => .g75 | .g75 => .g100 | .g100 => .g100

/-- The next lower gear (R128). -/
def Gear.down : Gear → Gear
  | .g0 => .g0 | .g25 => .g0 | .g50 => .g25 | .g75 => .g50 | .g100 => .g75

/-- The speed demand of a gear in per cent (R111). -/
def Gear.percent : Gear → Nat
  | .g0 => 0 | .g25 => 25 | .g50 => 50 | .g75 => 75 | .g100 => 100

/-- Whether a step state is one of LINEUP, RAMP, RUN and WIND_DOWN (R113). -/
def StepState.active : StepState → Bool
  | .lineup | .ramp | .run | .windDown => true
  | .checking | .queued | .waiting => false

end Sys2Proof.Machine
end

