-- ==== Sys2Proof/Machine/Operands.lean ====
section
/-! DEFINITION. The operands of the requests: the length each body must have (FORMAT) and the fields it carries, each in its range (RANGE), as R200 and R201 lay them out. -/

namespace Sys2Proof.Machine

/-! ### Lengths -/

/-- Whether a body has exactly `n` bytes. -/
def lengthIs (n : Nat) (body : List Byte) : Bool := body.length == n

/-- Whether a body of `head` bytes, of which the one at `off` declares a count, and `entry` bytes for each entry counted, has the length so formed (R200). -/
def lengthCounted (head entry off : Nat) (body : List Byte) : Bool :=
  decide (head ≤ body.length) && body.length == head + entry * field body off 1

/-- The entries of a counted body, `entry` bytes each, after `head` bytes. -/
def entriesOf (head entry count : Nat) (body : List Byte) : List (List Byte) :=
  (List.range count).map fun e => (body.drop (head + entry * e)).take entry

/-! ### Codes (R201) -/

/-- The value at a code in the list of its values. -/
def ofCode {α : Type} (values : List α) (n : Nat) : Option α := values[n]?

def Phase.all : List Phase := [.setup, .ready, .loading, .final]
def Phase.code : Phase → Nat | .setup => 0 | .ready => 1 | .loading => 2 | .final => 3
def StepKind.code : StepKind → Nat | .ballast => 0 | .deballast => 1 | .shift => 2 | .strip => 3
def StepState.code : StepState → Nat
  | .checking => 0 | .queued => 1 | .waiting => 2 | .lineup => 3 | .ramp => 4 | .run => 5 | .windDown => 6
/-- The step state code of a removed step (R201). -/
def removedCode : Nat := 7
def StepOutcome.code : StepOutcome → Nat
  | .reached => 0 | .cancelled => 1 | .bound => 2 | .noFlow => 3 | .pump => 4 | .valve => 5
  | .locked => 6 | .stale => 7 | .tripped => 8 | .restarted => 9
def Disposition.code : Disposition → Nat | .done => 0 | .cancelled => 1 | .faulted => 2
def Reason.code : Reason → Nat
  | .locked => 0 | .stale => 1 | .range => 2 | .limit => 3 | .cancelled => 4 | .restarted => 5 | .aborted => 6
def StepClass.code : StepClass → Nat | .normal => 0 | .urgent => 1
def Edge.code : Edge → Nat | .beginEdge => 0 | .endEdge => 1
def Loader.code (l : Loader) : Nat := l.ix.val
def BandClass.code (c : BandClass) : Nat := c.ix.val
def AlarmGroup.code (g : AlarmGroup) : Nat := g.ix.val
def StatusFlag.code (f : StatusFlag) : Nat := f.ix.val
def Equipment.code : Equipment → Nat
  | .sensor _ => 0 | .overTable _ => 1 | .pump _ => 2 | .valve _ => 3 | .meter _ => 4
def Equipment.item : Equipment → Nat
  | .sensor t => t.val | .overTable t => t.val | .pump p => p.val | .valve v => v.val | .meter p => p.val
def EntryKind.code : EntryKind → Nat
  | .phase => 1 | .pourBegin => 2 | .pourEnd => 3 | .stepEnd => 4 | .stepRefused => 5
  | .permitChange => 6 | .stopOn => 7 | .stopOff => 8 | .alarm => 9 | .attendanceBad => 10
  | .bandChange => 11 | .berthSet => 12 | .tankLock => 13 | .tankUnlock => 14 | .sensorStale => 15
  | .sensorValid => 16 | .valveFault => 17 | .pumpFault => 18 | .meterFault => 19
  | .emergencyOn => 20 | .emergencyOff => 21 | .restart => 22
def Status.code : Status → Nat
  | .ok => 0 | .format => 1 | .range => 2 | .phase => 3 | .busy => 4 | .full => 5 | .unknown => 6
  | .locked => 7 | .stale => 8 | .inUse => 9 | .limit => 10 | .order => 11 | .state => 12
  | .aborted => 13 | .unknownKind => 14 | .invalidTables => 15
/-- A value written NONE, or absent, is carried as 255 (R201). -/
def noneCode : Nat := 255
/-- A field that may be absent. -/
def orNone {α : Type} (code : α → Nat) : Option α → Nat
  | none => noneCode
  | some x => code x
/-- A channel, tank, pump or other index that may be absent. -/
def ixOrNone {n : Nat} : Option (Fin n) → Nat := orNone (·.val)

/-- A field naming an index below `k` or NONE; none where it is neither. -/
def indexOrNone (k n : Nat) : Option (Option (Fin k)) :=
  if n = noneCode then some none else (index n k).map some

/-! ### The table-writing requests (chapter 1, R18, R21, R77, R150) -/

/-- SHIP_SET (R4). -/
def parseShipSet (b : List Byte) : Option ShipFigures :=
  let f : ShipFigures := ⟨field b 0 2, field b 2 2, field b 4 2, field b 6 2⟩
  whenever (within 100 3000 f.ls && within 0 20000 f.trimStern && within 0 20000 f.trimHead
    && within 0 3000 f.listLimit) f

/-- SEGMENT_SET (R5): the first segment and the entries. -/
def parseSegmentSet (b : List Byte) : Option (Nat × List Segment) :=
  let first := field b 0 1
  let count := field b 1 1
  let entries := (entriesOf 2 4 count b).map fun e => Segment.mk (field e 0 2) (field e 2 2)
  whenever (within 0 19 first && within 1 20 count && within 0 20 (first + count)
    && entries.all fun e => within 0 60000 e.mass && within 0 4000 e.immersion) (first, entries)

/-- STATION_SET (R6): the first station and the entries. -/
def parseStationSet (b : List Byte) : Option (Nat × List Station) :=
  let first := field b 0 1
  let count := field b 1 1
  let entries := (entriesOf 2 12 count b).map fun e => Station.mk (field e 0 4) (field e 4 4) (field e 8 4)
  whenever (within 1 19 first && within 1 19 count && within 0 20 (first + count)
    && entries.all fun e => within 1 100000 e.shear && within 1 10000000 e.hogging
      && within 1 10000000 e.sagging) (first, entries)

/-- TANK_SET (R7). -/
def parseTankSet (b : List Byte) : Option (TankNo × TankConfig) := do
  let t ← index (field b 0 1) 16
  let side ← ofCode [Side.port, .centre, .starboard] (field b 1 1)
  let metered ← ofCode [true, false] (field b 8 1)
  let c : TankConfig :=
    { side := side, first := field b 2 1, count := field b 3 1, arm := fieldI16 b 4
      density := field b 6 2, metered := metered, fixedLevel := field b 9 2 }
  whenever (within 0 19 c.first && within 1 4 c.count && decide (-3000 ≤ c.arm ∧ c.arm ≤ 3000)
    && within 990 1040 c.density && within 0 40000 c.fixedLevel) (t, c)

/-- SOUNDING_SET (R8). -/
def parseSoundingSet (b : List Byte) : Option (TankNo × List Point) := do
  let t ← index (field b 0 1) 16
  let count := field b 1 1
  let points := (entriesOf 2 6 count b).map fun e => Point.mk (field e 0 2) (field e 2 4)
  whenever (within 2 12 count && points.all fun p => within 0 40000 p.level && within 0 200000 p.volume)
    (t, points)

/-- HOLD_SET (R11). -/
def parseHoldSet (b : List Byte) : Option (HoldNo × HoldConfig) := do
  let h ← index (field b 0 1) 9
  let c : HoldConfig :=
    { first := field b 1 1, count := field b 2 1, arm := fieldI16 b 3, coaming := field b 5 2
      maxMass := field b 7 4 }
  whenever (within 0 19 c.first && within 1 4 c.count && decide (-3000 ≤ c.arm ∧ c.arm ≤ 3000)
    && within 0 40000 c.coaming && within 0 200000 c.maxMass) (h, c)

/-- PUMP_SET (R12). -/
def parsePumpSet (b : List Byte) : Option (PumpNo × PumpConfig) := do
  let p ← index (field b 0 1) 3
  let run ← index (field b 8 1) 48
  let flow ← index (field b 9 1) 48
  let c : PumpConfig :=
    { gearInterval := field b 1 1, startTime := field b 2 1, noFlowTime := field b 3 1
      litresPerPulse := field b 4 2, minInterval := field b 6 2, runChannel := some run
      flowChannel := some flow }
  whenever (within 1 30 c.gearInterval && within 2 60 c.startTime && within 5 120 c.noFlowTime
    && within 1 10000 c.litresPerPulse && within 1 60000 c.minInterval) (p, c)

/-- VALVE_SET (R13). -/
def parseValveSet (b : List Byte) : Option (ValveNo × ValveConfig) := do
  let v ← index (field b 0 1) 21
  let ch ← index (field b 2 1) 48
  whenever (within 5 120 (field b 1 1)) (v, ⟨field b 1 1, some ch⟩)

/-- BAND_SET (R14). -/
def parseBandSet (b : List Byte) : Option (Fin 7 × Thresholds) := do
  let c ← index (field b 0 1) 7
  whenever (within 500 1200 (field b 1 2) && within 500 1200 (field b 3 2)) (c, ⟨field b 1 2, field b 3 2⟩)

/-- The length of a CHANNEL_SET body agrees with the mode it declares (R18); no other mode has a length that agrees. -/
def channelSetLength (b : List Byte) : Bool :=
  decide (2 ≤ b.length) &&
    match field b 1 1 with
    | 0 => b.length == 2
    | 1 => b.length == 11
    | 2 => b.length == 5
    | 3 => b.length == 2
    | _ => false

/-- CHANNEL_SET (R18). -/
def parseChannelSet (b : List Byte) : Option (ChannelNo × ChannelConfig) := do
  let c ← index (field b 0 1) 48
  match field b 1 1 with
  | 0 => some (c, .off)
  | 1 =>
    let bound ← indexOrNone 16 (field b 10 1)
    whenever (within 0 4095 (field b 2 2) && within 0 4095 (field b 4 2) && within 1 40000 (field b 6 2)
      && within 0 1000 (field b 8 2))
      (c, .level (field b 2 2) (field b 4 2) (field b 6 2) (field b 8 2) bound)
  | 2 => do
    let notify ← onOff (field b 4 1)
    whenever (within 10 2000 (field b 2 2)) (c, .switch (field b 2 2) notify)
  | 3 => some (c, .pulse)
  | _ => none

/-- SCAN_SET (R21). -/
def parseScanSet (b : List Byte) : Option ScanSetting :=
  whenever ([1, 2, 4, 8].contains (field b 0 1)) ⟨field b 0 1, field b 1 1⟩

/-- STOP_SET (R77). -/
def parseStopSet (b : List Byte) : Option StopSettings := do
  let enable ← onOff (field b 1 1)
  whenever (within 1 8 (field b 0 1)) ⟨field b 0 1, enable⟩

/-- PACE_SET (R150). -/
def parsePaceSet (b : List Byte) : Option Nat := whenever (within 0 20000 (field b 0 2)) (field b 0 2)

/-! ### The other requests -/

/-- BOUNDS_SET (R9). -/
def parseBoundsSet (b : List Byte) : Option (TankNo × Bounds) := do
  let t ← index (field b 0 1) 16
  whenever (decide (field b 1 2 < field b 3 2 ∧ field b 3 2 ≤ 40000)) (t, ⟨field b 1 2, field b 3 2⟩)

/-- BERTH_SET (R15). -/
def parseBerthSet (b : List Byte) : Option BerthLimits :=
  let gm := field b 4 2
  whenever (within 0 40000 (field b 0 2) && within 0 40000 (field b 2 2) && (gm == 0 || within 10 2000 gm))
    ⟨field b 0 2, field b 2 2, gm⟩

/-- The items of TABLE_GET, each with its index (R16). -/
inductive TableItem where
  | ship | segment (i : SegmentNo) | station (i : StationIx) | tank (t : TankNo) | sounding (t : TankNo)
  | hold (h : HoldNo) | pump (p : PumpNo) | valve (v : ValveNo) | threshold (c : Fin 7) | berth
deriving DecidableEq, Repr

/-- TABLE_GET (R16). -/
def parseTableGet (b : List Byte) : Option TableItem :=
  let i := field b 1 1
  match field b 0 1 with
  | 0 => whenever (i == 0) .ship
  | 1 => (index i 20).map .segment
  | 2 => if i = 0 then none else (index (i - 1) 19).map .station
  | 3 => (index i 16).map .tank
  | 4 => (index i 16).map .sounding
  | 5 => (index i 9).map .hold
  | 6 => (index i 3).map .pump
  | 7 => (index i 21).map .valve
  | 8 => (index i 7).map .threshold
  | 9 => whenever (i == 0) .berth
  | _ => none

/-- PREDICT (R62, R200): the flag and the overrides. -/
def parsePredict (b : List Byte) : Option (Bool × List Override) := do
  let include_ ← onOff (field b 0 1)
  let count := field b 1 1
  let overrides ← (entriesOf 2 6 count b).mapM fun e =>
    match field e 0 1 with
    | 0 => do
      let t ← index (field e 1 1) 16
      whenever (within 0 40000 (field e 2 4)) (Override.tank t (field e 2 4))
    | 1 => do
      let h ← index (field e 1 1) 9
      whenever (within 0 300000 (field e 2 4)) (Override.hold h (field e 2 4))
    | _ => none
  whenever (within 0 8 count) (include_, overrides)

/-- Whether a body that names a part has the length its part needs: 3 bytes where the part takes an index and a count, else 1. A part outside the list fixes no length (log entry 14). -/
def partLength (ranged : Nat → Bool) (parts : Nat) (b : List Byte) : Bool :=
  decide (1 ≤ b.length) &&
    (decide (parts ≤ field b 0 1) || b.length == if ranged (field b 0 1) then 3 else 1)

/-- The parts of CONDITION_GET (R64). -/
inductive ConditionPart where
  | summary | stations (first count : Nat) | segments (first count : Nat) | engine
deriving DecidableEq, Repr

/-- CONDITION_GET (R64). -/
def parseConditionGet (b : List Byte) : Option ConditionPart :=
  let first := field b 1 1
  let count := field b 2 1
  match field b 0 1 with
  | 0 => some .summary
  | 1 => whenever (within 1 19 first && within 1 19 count && within 0 20 (first + count)) (.stations first count)
  | 2 => whenever (within 0 19 first && within 1 20 count && within 0 20 (first + count)) (.segments first count)
  | 3 => some .engine
  | _ => none

/-- ALARM_SET (R84); a mask byte is MASKED 0 or UNMASKED 1. -/
def parseAlarmSet (b : List Byte) : Option AlarmSettings := do
  let mode ← ofCode [AlarmMode.lamp, .pulse] (field b 0 1)
  let masks ← (List.range 4).mapM fun g => ofCode [true, false] (field b (2 + g) 1)
  whenever (within 1 30 (field b 1 1))
    ⟨mode, field b 1 1, Vector.ofFn fun g : Fin 4 => masks.getD g.val false⟩

/-- The fields of a STEP_ADD (R89). -/
structure StepRequest where
  kind : StepKind
  source : Option TankNo
  dest : Option TankNo
  target : Nat
  choice : Option PumpNo
  cls : StepClass
  gate : Option Gate
deriving DecidableEq, Repr

/-- Whether the fields of a step fit its kind (R89). -/
def StepRequest.fits (r : StepRequest) : Bool :=
  match r.kind with
  | .ballast => r.source.isNone && r.dest.isSome && decide (r.choice ≠ some 2)
  | .deballast => r.source.isSome && r.dest.isNone && decide (r.choice ≠ some 2)
  | .shift => r.source.isSome && r.dest.isSome && decide (r.source ≠ r.dest) && decide (r.choice ≠ some 2)
  | .strip => r.source.isSome && r.dest.isNone && decide (r.choice = some 2 ∨ r.choice = none)

/-- The gate of a STEP_ADD: absent when both its bytes are NONE (log entry 14). -/
def parseGate (pour edge : Nat) : Option (Option Gate) :=
  if pour = noneCode ∧ edge = noneCode then some none
  else do
    let e ← ofCode [Edge.beginEdge, .endEdge] edge
    whenever (within 1 48 pour) (some ⟨pour, e⟩)

/-- STEP_ADD (R89, R90 check 3, less the bounds of the target tank). -/
def parseStepAdd (b : List Byte) : Option StepRequest := do
  let kind ← ofCode [StepKind.ballast, .deballast, .shift, .strip] (field b 0 1)
  let source ← indexOrNone 16 (field b 1 1)
  let dest ← indexOrNone 16 (field b 2 1)
  let choice ← if field b 5 1 = 3 then some none else (index (field b 5 1) 3).map some
  let cls ← ofCode [StepClass.normal, .urgent] (field b 6 1)
  let gate ← parseGate (field b 7 1) (field b 8 1)
  let r : StepRequest := ⟨kind, source, dest, field b 3 2, choice, cls, gate⟩
  whenever (within 0 40000 r.target && r.fits) r

/-- STEP_LIST (R110). -/
def parseStepList (b : List Byte) : Option (Nat × Nat) :=
  whenever (within 1 32 (field b 0 1) && within 1 8 (field b 1 1)) (field b 0 1, field b 1 1)

/-- The faults FAULT_CLEAR names (R132). -/
inductive ClearItem where
  | pump (p : PumpNo) | meter (p : PumpNo) | valve (v : ValveNo) | trip
deriving DecidableEq, Repr

/-- FAULT_CLEAR (R132); the kinds are coded by their place in the table of the rule (log entry 14). -/
def parseFaultClear (b : List Byte) : Option ClearItem :=
  match field b 0 1 with
  | 0 => (index (field b 1 1) 3).map .pump
  | 1 => (index (field b 1 1) 3).map .meter
  | 2 => (index (field b 1 1) 21).map .valve
  | 3 => whenever (field b 1 1 == 0) .trip
  | _ => none

/-- The parts of PLANT_STATUS (R133). -/
inductive PlantPart where | pumps | valves | candidates
deriving DecidableEq, Repr

/-- PLANT_STATUS (R133). -/
def parsePlantStatus (b : List Byte) : Option PlantPart :=
  ofCode [PlantPart.pumps, .valves, .candidates] (field b 0 1)

/-- The entries of a PLAN_LOAD, each PLANNED with no result (R137). -/
def parsePlanEntries (b : List Byte) : Option (List PlanEntry) :=
  (entriesOf 2 9 (field b 1 1) b).mapM fun e => do
    let hold ← index (field e 0 1) 9
    whenever (within 1 200000 (field e 1 4) && within 0 300000 (field e 5 4))
      { hold := hold, planned := field e 1 4, due := field e 5 4, state := .planned, begun := none, result := none }

/-- Whether no due is below the one before it, `least` standing before the first (R137). -/
def duesRise (least : Nat) : List PlanEntry → Bool
  | [] => true
  | e :: l => decide (least ≤ e.due) && duesRise e.due l

/-- PLAN_LOAD against the plan held (R137): the plan it leaves. -/
def parsePlanLoad (held : List PlanEntry) (b : List Byte) : Option (List PlanEntry) := do
  let first := field b 0 1
  let count := field b 1 1
  let entries ← parsePlanEntries b
  let kept := if first = 1 then [] else held
  let least := (kept.getLast?.map (·.due)).getD 0
  whenever ((first == 1 || first == held.length + 1) && within 1 48 first && within 0 24 count
    && decide (first + count ≤ 49) && duesRise least entries) (kept ++ entries)

/-- POUR_BEGIN (R140): the loader, the pour number, and the hold of an unplanned pour. -/
def parsePourBegin (b : List Byte) : Option (Loader × Nat × Option HoldNo) := do
  let l ← ofCode [Loader.a, .b] (field b 0 1)
  let hold := index (field b 2 1) 9
  whenever (within 0 48 (field b 1 1) && (field b 1 1 != 0 || hold.isSome)) (l, field b 1 1, hold)

/-- POUR_PROGRESS and POUR_END (R143, R144): the loader and its tonnes. -/
def parsePourTonnes (b : List Byte) : Option (Loader × Nat) := do
  let l ← ofCode [Loader.a, .b] (field b 0 1)
  whenever (within 0 200000 (field b 1 4)) (l, field b 1 4)

/-- The parts of POUR_STATUS (R152). -/
inductive PourPart where
  | plan (first count : Nat) | loaders | holds | start
deriving DecidableEq, Repr

/-- POUR_STATUS (R152). -/
def parsePourStatus (b : List Byte) : Option PourPart :=
  match field b 0 1 with
  | 0 => whenever (within 1 48 (field b 1 1) && within 1 8 (field b 2 1)) (.plan (field b 1 1) (field b 2 1))
  | 1 => some .loaders
  | 2 => some .holds
  | 3 => some .start
  | _ => none

/-- PERMIT_SET (R154). -/
def parsePermitSet (b : List Byte) : Option PermitConfig := do
  let check ← onOff (field b 6 1)
  let trip ← onOff (field b 7 1)
  let zero ← onOff (field b 8 1)
  let c : PermitConfig :=
    { aOpen := field b 0 1, aWidth := field b 1 1, aExtra := field b 2 1, rOpen := field b 3 1
      rWidth := field b 4 1, rExtra := field b 5 1, challengeCheck := check, timeoutTrip := trip
      zeroStop := zero, initial := field b 9 1, lower := field b 10 1, upper := field b 11 1
      goodStep := field b 12 1, badStep := field b 13 1 }
  whenever (within 1 63 c.aWidth && within 0 63 c.aExtra && within 1 63 c.rWidth && within 0 63 c.rExtra
    && within 0 15 c.initial && within 1 14 c.lower && within (c.lower + 1) 15 c.upper
    && within 1 7 c.goodStep && within 1 7 c.badStep) c

/-- LOG_READ (R176). -/
def parseLogRead (b : List Byte) : Option (Nat × Nat) :=
  whenever (decide (1 ≤ field b 0 4) && within 1 16 (field b 4 1)) (field b 0 4, field b 4 1)

/-- The parts of TOTALS_GET (R181). -/
inductive TotalsPart where
  | tanks (first count : Nat) | summary
deriving DecidableEq, Repr

/-- TOTALS_GET (R181). -/
def parseTotalsGet (b : List Byte) : Option TotalsPart :=
  let first := field b 1 1
  let count := field b 2 1
  match field b 0 1 with
  | 0 => whenever (within 0 15 first && within 1 8 count && within 0 16 (first + count)) (.tanks first count)
  | 1 => some .summary
  | _ => none

/-- REPORT_COMPOSE (R183): whether the report is INTERIM. -/
def parseReportCompose (b : List Byte) : Option Bool := ofCode [false, true] (field b 0 1)

/-- REPORT_READ (R188): whether the source is STORED, the offset and the length. -/
def parseReportRead (b : List Byte) : Option (Bool × Nat × Nat) := do
  let stored ← ofCode [false, true] (field b 0 1)
  whenever (within 1 200 (field b 3 1)) (stored, field b 1 2, field b 3 1)

/-- A letter A to Z or a digit (R199). -/
def portCharacter (b : Byte) : Bool := within 0x41 0x5A b.toNat || within 0x30 0x39 b.toNat

/-- The fields of CALL_SET. -/
structure CallIdentity where
  number : Nat
  portCode : List Byte
  berthText : List Byte
deriving DecidableEq, Repr

/-- CALL_SET (R199). -/
def parseCallSet (b : List Byte) : Option CallIdentity :=
  let c : CallIdentity := ⟨field b 0 2, (b.drop 2).take 5, b.drop 8⟩
  whenever (within 1 65535 c.number && c.portCode.all portCharacter && within 0 12 (field b 7 1)
    && c.berthText.all fun x => within 0x20 0x7E x.toNat) c

/-- NOTICE_SELECT (R195). -/
def parseNoticeSelect (b : List Byte) : Option (BitVec 16) :=
  whenever (decide (field b 0 2 < 1024)) (BitVec.ofNat 16 (field b 0 2))

/-- STORE_WRITE (R213). -/
def parseStoreWrite (b : List Byte) : Option StoreItem := ofCode [StoreItem.config, .report] (field b 0 1)

end Sys2Proof.Machine
end

