-- ==== Sys2Proof/Machine/Encode.lean ====
section
/-! DEFINITION. The bodies of replies, notices and reports that are formed from records: R200 to R205. -/

namespace Sys2Proof.Machine

/-- A remaining time in whole seconds, as replies show it; the rounding of a fraction is left open (log entry 5). -/
def shownSeconds (ms : Nat) : Nat :=
  ms / 1000 + if ms % 1000 = 0 then 0 else (Config.shownRoundedUp ms).toNat

/-- The seven class bands in class order. -/
def encodeBands (v : Vector Band 7) : List Byte := v.toList.flatMap fun b => u8 b.code

/-- An air entry: loader, hold, clearance, usage (R202). -/
def AirEntry.encode (e : AirEntry) : List Byte :=
  u8 e.loader.code ++ u8 e.hold.val ++ u16 e.clearance ++ u16 e.usage

/-- A worst station with its usage (R202). -/
def Worst.encode (w : Worst) : List Byte := u8 w.station ++ u16 w.usage

/-- The condition summary (R202). -/
def ConditionRecord.summary (r : ConditionRecord) : List Byte :=
  u32 r.sequence ++ flag r.predicted ++ u32 r.shipTime
    ++ u32 r.displacement ++ u32 r.ballast ++ u32 r.cargo ++ i32 r.moment
    ++ u16 r.tm ++ i32 r.trim ++ u16 r.ta ++ u16 r.tf ++ i16 r.list
    ++ r.worstShear.encode ++ r.worstBending.encode
    ++ r.figures.toList.flatMap u16 ++ encodeBands r.bands
    ++ u8 r.overall.code ++ flag r.modelRange
    ++ u8 r.air.length ++ r.air.flatMap AirEntry.encode

/-- A station of CONDITION_GET: SF, BM, shear usage, bending usage (R202). -/
def StationFigures.encode (x : StationFigures) : List Byte :=
  i32 x.shear ++ i32 x.bending ++ u16 x.shearUsage ++ u16 x.bendingUsage

/-- A segment of CONDITION_GET: w, d, b (R202). -/
def SegmentFigures.encode (x : SegmentFigures) : List Byte :=
  u32 x.weight ++ u16 x.draft ++ i32 x.buoyancy

/-- A pump choice: pumps 0, 1, 2, or ANY 3 (R201). -/
def choiceCode : Option PumpNo → Nat
  | none => 3
  | some p => p.val

/-- The step summary, 26 bytes (R203). A time admitted that is absent, as in CHECKING, and the litres of a step not yet granted are shown 0, as R110 shows an absent time RUN began: the model's choice, since R201 shows absent values 255 (log entry 34). -/
def StepRec.summary (slot : SlotNo) (x : StepRec) : List Byte :=
  u8 x.number ++ u8 slot.val ++ u8 x.kind.code ++ u8 (ixOrNone x.source) ++ u8 (ixOrNone x.dest)
    ++ u16 x.target ++ u8 (choiceCode x.choice) ++ u8 x.cls.code
    ++ u8 (orNone Gate.pour x.gate) ++ u8 (orNone (fun g => g.edge.code) x.gate)
    ++ u8 x.state.code ++ u8 (ixOrNone x.grantedPump) ++ u8 (orNone StepOutcome.code x.outcome)
    ++ u32 x.litres ++ u32 (x.timeAdmitted.getD 0) ++ u32 (x.timeRun.getD 0)

/-- The widths of the used parameters of a log entry, in order (R205 and the table of section 9.1). -/
def EntryKind.widths : EntryKind → List Nat
  | .phase => [1, 1]
  | .pourBegin => [1, 1, 1, 1]
  | .pourEnd => [1, 1, 4, 1]
  | .stepEnd => [1, 1, 1, 1]
  | .stepRefused => [1, 1, 1]
  | .permitChange => [1, 1, 1]
  | .stopOn => [1, 1, 1]
  | .stopOff => []
  | .alarm => [1, 1, 1, 1]
  | .attendanceBad => [1, 2, 1, 1]
  | .bandChange => [4, 1, 1, 2]
  | .berthSet => [2, 2, 2]
  | .tankLock => [1, 1]
  | .tankUnlock => [1]
  | .sensorStale => [1, 1]
  | .sensorValid => [1, 1]
  | .valveFault => [1, 1, 1]
  | .pumpFault => [1, 1, 1]
  | .meterFault => [1, 2, 2, 1]
  | .emergencyOn => [1, 1]
  | .emergencyOff => []
  | .restart => [1]

/-- A log entry as LOG_READ returns it: call time, kind, and the used parameters (R205). -/
def LogEntry.encode (e : LogEntry) : List Byte :=
  u32 e.callTime ++ u8 e.kind.code
    ++ (List.zipWith (fun k x => bytesOf k x) e.kind.widths e.params.toList).flatten

/-- The nine figures of a report's condition, without their ship time (R204). -/
def ReportFigures.encode (x : ReportFigures) : List Byte :=
  u32 x.sequence ++ u16 x.ta ++ u16 x.tf ++ u16 x.tm ++ i32 x.trim ++ i16 x.list
    ++ u32 x.displacement ++ u32 x.ballast ++ u32 x.cargo

/-- The nine figures a report takes from a record (R177, R186). -/
def ConditionRecord.reportFigures (r : ConditionRecord) : ReportFigures :=
  { sequence := r.sequence, ta := r.ta, tf := r.tf, tm := r.tm, trim := r.trim, list := r.list
    displacement := r.displacement, ballast := r.ballast, cargo := r.cargo }

/-- The four peaks of a report: the DRAFT peak has no item (R204). -/
def Peaks.encode (p : Peaks) : List Byte :=
  u16 p.shear.figure ++ u8 p.shear.item ++ u32 p.shear.shipTime
    ++ u16 p.bending.figure ++ u8 p.bending.item ++ u32 p.bending.shipTime
    ++ u16 p.draft.figure ++ u32 p.draft.shipTime
    ++ u16 p.air.figure ++ u8 p.air.item ++ u32 p.air.shipTime

/-- The ballast-water entry of a tank (R204). -/
def TankTotals.reportEntry (t : TankNo) (x : TankTotals) (finalVolume : Nat) : List Byte :=
  u8 t.val ++ u32 x.start ++ u32 x.intake ++ u32 x.discharge ++ u32 x.shiftIn ++ u32 x.shiftOut
    ++ u32 finalVolume

/-- Whether a tank has an entry in the ballast-water list (R186). -/
def TankTotals.moved (x : TankTotals) : Bool :=
  decide (0 < x.intake ∨ 0 < x.discharge ∨ 0 < x.shiftIn ∨ 0 < x.shiftOut)

/-- The arrival condition's ship time, 0 before loading starts. -/
def Arrival.shipTime : Arrival → Nat
  | .absent => 0
  | .pending t => t
  | .taken t _ => t

/-- The arrival condition's figures; before it is TAKEN, which no composition meets (R183), all 0. -/
def Arrival.figures : Arrival → ReportFigures
  | .taken _ f => f
  | _ => ⟨0, 0, 0, 0, 0, 0, 0, 0, 0⟩

/-- The bytes of a report before its CRC-32 (R186, R204). -/
def ComposeSnapshot.content (c : ComposeSnapshot) (serial : Nat) : List Byte :=
  let moved := (List.finRange 16).filter fun t => c.totals[t].moved
  u8 1 ++ flag c.interim ++ u16 serial ++ u16 c.callNumber ++ c.portCode
    ++ (c.berthText ++ List.replicate (12 - c.berthText.length) (0 : Byte))
    ++ u32 c.arrival.shipTime ++ u32 c.shipTime
    ++ c.arrival.figures.encode ++ c.record.reportFigures.encode ++ flag c.record.modelRange
    ++ (List.finRange 9).flatMap (fun h => u8 h.val ++ u32 c.holdMass[h])
    ++ u8 c.planned ++ u8 c.poured ++ u16 c.counts.unplannedPours
    ++ u8 moved.length ++ moved.flatMap (fun t => c.totals[t].reportEntry t c.volumes[t])
    ++ c.peaks.encode
    ++ u16 c.counts.stopAssertions ++ u16 c.counts.permitDrops ++ u16 c.counts.paceLags
    ++ u16 c.counts.attendanceBad ++ u16 c.counts.emergencyTrips ++ u16 c.counts.stepsDone
    ++ u16 c.counts.stepsFaulted
    ++ flag c.wrapped

end Sys2Proof.Machine
end

