-- ==== Sys2Proof/Machine/Initial.lean ====
section
/-! DEFINITION. The power-on state of each block (R216), from the configuration in force and the reading of the model's clock. -/

namespace Sys2Proof.Machine

/-- A whole number of seconds in milliseconds. -/
def seconds (n : Nat) : Nat := n * 1000

/-- The scan period in milliseconds, clamped at 100 ms (R21). -/
def scanPeriod (c : ScanSetting) : Nat := max 100 (c.prescale * (256 - c.reload) * 10)

/-- The run state a channel has at power-on and after a CHANNEL_SET, by its mode (R20). -/
def freshChannel (now : Nat) : ChannelConfig → ChannelRun
  | .off => .off
  | .level .. => .level none [] 0 false
  | .switch .. => .switch none now none
  | .pulse => .pulse 0 none

def Fcu.initial (cfg : ConfigTables) (now : Nat) : Fcu :=
  { channels := Vector.ofFn fun c => freshChannel now cfg.channels[c]
    scan := ⟨cfg.scan, now + scanPeriod cfg.scan⟩ }

/-- The run fields of a tank at power-on (R10). -/
def freshTank : TankRun :=
  { level := 0, volume := 0, mass := 0, stale := true, overTable := false, lock := .unlocked }

/-- The pour tracker at power-on, and what a new call clears it to (R135). -/
def Ptr.initial : Ptr :=
  { plan := [], loaders := Vector.replicate 2 none, holds := Vector.replicate 9 ⟨0, 0⟩, start := .absent }

/-- The condition engine at power-on (R40). -/
def Cen.initial : Cen :=
  { inFlight := none, pendingCurrent := false, queue := [], current := none, sequence := 0 }

/-- The empty equipment fault set (R81). -/
def FaultSet.empty : FaultSet :=
  { sensor := Vector.replicate 16 false, overTable := Vector.replicate 16 false
    pump := Vector.replicate 3 false, valve := Vector.replicate 21 false, meter := Vector.replicate 3 false }

/-- The limit and stop logic at power-on, before the emergency input is read (R68). -/
def Lsl.initial : Lsl :=
  { classBands := Vector.replicate 7 .clear, overallBand := .clear, bandSequence := 0, stopRun := 0
    causes := ⟨false, false, false⟩, emergencyInput := false, acknowledged := false, line := false
    groups := Vector.replicate 4 ⟨false, false⟩, faults := .empty
    paceLagging := false, counterLow := false, pulseUntil := none, alarmLine := false }

/-- The transfer sequencer at power-on (R86, R88). -/
def Tsq.initial : Tsq :=
  { slots := Vector.replicate 32 none, order := [], checking := [], lastNumber := 0 }

/-- A pump record at power-on: a STOPPING watch at its start time (R111). -/
def freshPump (now : Nat) (c : PumpConfig) : Pump :=
  { state := .free, granted := none, run := false, gear := .g0, gearUntil := none, proof := .unknown
    watch := .stopping (now + seconds c.startTime), noFlowUntil := none, meter := false, fairness := none }

/-- A valve record at power-on: a CLOSING watch at its travel time (R112). -/
def freshValve (now : Nat) (c : ValveConfig) : Valve :=
  { open_ := false, proved := .unknown, watch := .closing (now + seconds c.travel), faulted := false }

/-- The pump and valve arbiter at power-on (R111 to R114, R118). -/
def Pva.initial (cfg : ConfigTables) (now : Nat) : Pva :=
  { pumps := Vector.ofFn fun p => freshPump now cfg.pumps[p]
    valves := Vector.ofFn fun v => freshValve now cfg.valves[v]
    mode := .idle, candidates := [], pin := none, grants := 0 }

/-- The permit unit at power-on: the counter at its initial value, the seed state 1 (R153). -/
def Pmu.initial (cfg : ConfigTables) : Pmu :=
  { unit := .idle, seed := 1, counter := cfg.permit.initial, hysteresis := false
    zeroAsserted := false, lowReported := false, flags := Vector.replicate 9 false, trips := 0
    permit := false }

/-- The totals of a tank when a call begins (R177). -/
def TankTotals.zero : TankTotals := ⟨0, 0, 0, 0, 0⟩
/-- The peaks when a call begins (R179). -/
def Peaks.zero : Peaks := ⟨⟨0, 0, 0⟩, ⟨0, 0, 0⟩, ⟨0, 0, 0⟩, ⟨0, 0, 0⟩⟩
/-- The event counts when a call begins (R180). -/
def Counts.zero : Counts := ⟨0, 0, 0, 0, 0, 0, 0, 0⟩

/-- The record unit at power-on (R173, R175, R177, R179, R180, R182). -/
def Rcu.initial : Rcu :=
  { log := [], nextSequence := some 1, wrapped := false
    memoryBands := Vector.replicate 7 .clear, memoryOverall := .clear
    totals := Vector.replicate 16 .zero, arrival := .absent, peaks := .zero, counts := .zero
    slot := none, composing := none, serial := 0 }

/-- A store never written: two INVALID items (R212). -/
def Sst.initial : Sst := { writer := none, config := .invalid, report := .invalid }

/-- The link port at power-on (R190, R193 to R196). -/
def Lnk.initial : Lnk :=
  { rx := .hunt, slots := Vector.replicate 8 .free, filled := []
    notices := Vector.replicate 41 none, enabled := 0, tx := .idle }

/-- The call controller at power-on; the port code is five spaces (R199, R206). -/
def Ccl.initial (now : Nat) (configAbsent : Bool) : Ccl :=
  { phase := .setup, callNumber := 0, portCode := List.replicate 5 0x20, berthText := []
    shipTime := 0, callTime := 0, startCause := .power, configAbsent := configAbsent
    secondAt := now + 1000 }

/-- The field inputs with every contact open and the emergency stop input inactive. -/
def Pins.quiet : Pins := { contacts := Vector.replicate 48 false, emergency := false }

end Sys2Proof.Machine
end

