-- ==== Sys2Proof/Machine/State.lean ====
section
/-! DEFINITION. The state of the BL-240, the reasons a command can stop, and the state right after power-on. -/

namespace Sys2Proof.Machine

/-- The state of the controller: its configuration tables (the content of CONFIG) and berth limits, the run state of its blocks, its field inputs, the model's clock and free-choice counter, and the commands waiting. -/
structure State where
  powered : Bool
  cfg : ConfigTables
  berth : BerthLimits
  fcu : Fcu
  tanks : Vector TankRun 16
  ptr : Ptr
  cen : Cen
  lsl : Lsl
  tsq : Tsq
  pva : Pva
  pmu : Pmu
  rcu : Rcu
  sst : Sst
  lnk : Lnk
  ccl : Ccl
  pins : Pins
  /-- The model's clock: milliseconds elapsed (log entry 2). -/
  now : Nat
  /-- The model's counter of free choices taken (log entry 3). -/
  choices : Nat
  /-- The commands that wait, first in, first out. -/
  pending : List Instr
deriving DecidableEq, Repr

/-- No command of this block stops with a fault: the manual describes no fault of the controller that ends its work, so nothing raises one. -/
inductive Fault where
deriving DecidableEq, Repr

/-- The reasons a command is refused by the model. -/
inductive Refusal where
  /-- Raised by an arm of exec for a command that has no meaning yet (safe: the model stops where the controller goes on). No arm raises it. -/
  | notModelled (mnemonic : String)
deriving DecidableEq, Repr

/-- The state every block takes at power-on with configuration `cfg` in force (R216, steps 2, 3 and 5); the other arguments give the store, the inputs, the clock, the free choices and the queue, which power-on does not set. -/
def State.powerUp (cfg : ConfigTables) (configAbsent : Bool) (sst : Sst) (pins : Pins) (now choices : Nat)
    (pending : List Instr) : State :=
  { powered := true, cfg := cfg, berth := noBerthLimits
    fcu := .initial cfg now, tanks := Vector.replicate 16 freshTank, ptr := .initial, cen := .initial
    lsl := .initial, tsq := .initial, pva := .initial cfg now, pmu := .initial cfg, rcu := .initial
    sst := sst, lnk := .initial, ccl := .initial now configAbsent, pins := pins
    now := now, choices := choices, pending := pending }

/-- The controller right after power-on with a store never written and quiet inputs (R212, R216): CONFIG is absent and every table is empty. -/
def State.reset : State := .powerUp emptyTables true .initial .quiet 0 0 []

end Sys2Proof.Machine
end

