-- ==== Sys2Proof/Machine/Ops.lean ====
section
/-! DEFINITION. The operations every block uses: log entries and event counts (R174, R180), notices (R194), replies and the transmitter (R191 to R196), and how a request is served. -/

namespace Sys2Proof.Machine

/-- What a command answers. -/
abbrev Result := Host.Outcome State Fault Refusal

/-! ### Free choices -/

/-- One free choice: the value of a Config constant at the counter, and the counter advanced (log entry 3). -/
def State.choose (f : Nat → Bool) (s : State) : Bool × State :=
  (f s.choices, { s with choices := s.choices + 1 })

/-! ### The call log (R174) and the event counts (R180) -/

/-- The event count an entry raises, by its kind and parameters (R180); each is held at 65,535. -/
def Counts.entry (k : EntryKind) (params : List Nat) (c : Counts) : Counts :=
  match k with
  | .stopOn => { c with stopAssertions := satAdd 65535 c.stopAssertions 1 }
  | .permitChange =>
    if params.getD 0 0 = 0 then { c with permitDrops := satAdd 65535 c.permitDrops 1 } else c
  | .pourEnd =>
    let c := if params.getD 3 0 = 1 then { c with paceLags := satAdd 65535 c.paceLags 1 } else c
    if params.getD 1 0 = 0 then { c with unplannedPours := satAdd 65535 c.unplannedPours 1 } else c
  | .attendanceBad => { c with attendanceBad := satAdd 65535 c.attendanceBad 1 }
  | .emergencyOn => { c with emergencyTrips := satAdd 65535 c.emergencyTrips 1 }
  | _ => c

/-- The log after an entry is written: a full log drops its oldest entry and sets WRAPPED; an EXHAUSTED log writes nothing (R174). -/
def Rcu.write (callTime : Nat) (k : EntryKind) (params : List Nat) (r : Rcu) : Rcu :=
  match r.nextSequence with
  | none => r
  | some n =>
    let full := decide (Config.logCapacity ≤ r.log.length)
    let e : LogEntry :=
      { sequence := n, callTime := callTime, kind := k
        params := Vector.ofFn fun i : Fin 4 => params.getD i.val 0 }
    { r with
      log := (if full then r.log.drop 1 else r.log) ++ [e]
      wrapped := r.wrapped || full
      nextSequence := if n = Config.maxU32 then none else some (n + 1) }

/-- An entry is handed to RCU: it is written, and the count it names is raised whether or not it can be (R174, R180). -/
def State.log (k : EntryKind) (params : List Nat) (s : State) : State :=
  { s with rcu := { s.rcu.write s.ccl.callTime k params with counts := s.rcu.counts.entry k params } }

/-! ### Notices (R194) -/

/-- The code of a notice kind (R194). -/
def Notice.code : Notice → Nat
  | .stopChanged => 1 | .permitChanged => 2 | .alarm => 3 | .stepState _ => 4 | .conditionBand => 5
  | .pourResult => 6 | .challengeDue => 7 | .sensor => 8 | .storeDone => 9 | .reportDone => 10

/-- The place of a notice in the pending set: the kinds in code order, STEP_STATE with one place for each queue slot (R194). -/
def Notice.place : Notice → PlaceNo
  | .stopChanged => 0 | .permitChanged => 1 | .alarm => 2
  | .stepState slot => ⟨3 + slot.val, by omega⟩
  | .conditionBand => 35 | .pourResult => 36 | .challengeDue => 37 | .sensor => 38
  | .storeDone => 39 | .reportDone => 40

/-- The kind code of the notice at a place. -/
def placeCode (p : PlaceNo) : Nat := if p.val < 3 then p.val + 1 else if p.val < 35 then 4 else p.val - 30

/-- Whether a notice kind is enabled (R195). -/
def Lnk.enables (l : Lnk) (code : Nat) : Bool := l.enabled.getLsbD (code - 1)

/-- A notice is made pending when its kind is enabled; new content in a full place keeps the pending time (R194). -/
def State.notify (n : Notice) (content : List Byte) (s : State) : State :=
  if s.lnk.enables n.code then
    let since := (s.lnk.notices[n.place].map (·.since)).getD s.now
    { s with lnk := { s.lnk with notices := s.lnk.notices.set n.place (some ⟨content, since⟩) } }
  else s

/-- A pending notice is withdrawn (R194). -/
def State.withdraw (n : Notice) (s : State) : State :=
  { s with lnk := { s.lnk with notices := s.lnk.notices.set n.place none } }

/-! ### Replies (R191 to R193) -/

/-- The free reply slot that a request takes (R191). It is the lowest-numbered: the model's choice, since R191 says only that it is a free one (log entry 37). -/
def Lnk.freeSlot (l : Lnk) : Option ReplyNo :=
  (List.finRange 8).find? fun r => l.slots[r] == .free

/-- A slot is reserved for a request (R191). -/
def State.reserve (r : ReplyNo) (kind : Byte) (tag : Tag) (s : State) : State :=
  { s with lnk := { s.lnk with slots := s.lnk.slots.set r (.reserved kind tag) } }

/-- A reply fills its reserved slot and takes its place behind the replies filled before it (R193). -/
def State.reply (r : ReplyNo) (st : Status) (body : List Byte) (s : State) : State :=
  match s.lnk.slots[r] with
  | .reserved kind tag =>
    { s with lnk := { s.lnk with
      slots := s.lnk.slots.set r (.filled kind tag st body)
      filled := s.lnk.filled ++ [r] } }
  | _ => s

/-- The reply of a request that is answered at once: its status and the bytes after it. -/
structure Answer where
  status : Status
  body : List Byte
deriving DecidableEq, Repr

/-- What judging a request comes to: the state it leaves, and its reply unless that is deferred (R192). -/
abbrev Judged := State × Option Answer

/-- A request refused: nothing changes, and the reply body is empty (R192). -/
def refuse (st : Status) (s : State) : Judged := (s, some ⟨st, []⟩)

/-- A request taken: the reply carries OK. -/
def taken (s : State) (body : List Byte := []) : Judged := (s, some ⟨.ok, body⟩)

/-! ### The transmitter (R196) -/

/-- The pending notice that is sent next: the lowest kind code; among STEP_STATE notices the earliest pending time, then the lowest slot (R196). -/
def nextNotice (v : Vector (Option PendingNotice) 41) : Option PlaceNo :=
  let full := (List.finRange 41).filter fun p => v[p].isSome
  match full with
  | [] => none
  | p :: l =>
    if placeCode p = 4 then
      some ((l.filter fun q => placeCode q == 4).foldl
        (fun best q => if (v[q].map (·.since)).getD 0 < (v[best].map (·.since)).getD 0 then q else best) p)
    else some p

/-- The transmitter, when IDLE, begins the next frame: the first filled reply, else a pending notice, whose place it empties (R196). -/
def State.transmit (s : State) : State :=
  match s.lnk.tx with
  | .idle =>
    match s.lnk.filled with
    | r :: rest =>
      match s.lnk.slots[r] with
      | .filled kind tag st body =>
        { s with lnk := { s.lnk with
          filled := rest
          tx := .reply r { cls := 2, kind := kind, tag := tag, body := u8 st.code ++ body } } }
      | _ => s
    | [] =>
      match nextNotice s.lnk.notices with
      | none => s
      | some p =>
        { s with lnk := { s.lnk with
          notices := s.lnk.notices.set p none
          tx := .notice { cls := 3, kind := BitVec.ofNat 8 (placeCode p), tag := 0
                          body := (s.lnk.notices[p].map (·.content)).getD [] } } }
  | _ => s

/-! ### How a command is carried out -/

/-- An event of the controller at work: without power nothing is watched or received. At its end the transmitter, when IDLE, begins the next frame (log entry 10). -/
def State.event (f : State → State) (s : State) : State :=
  if s.powered then (f s).transmit else s

/-- A request that has been received whole and passed R190: the assembler is in HUNT again; a reply slot is reserved, or the request is discarded when none is free; the request is judged, and its reply, unless deferred, fills the slot (R190, R191). -/
def State.serve (kind : Byte) (tag : Tag) (judge : ReplyNo → State → Judged) (s : State) : State :=
  s.event fun s =>
    let s := { s with lnk := { s.lnk with rx := .hunt } }
    match s.lnk.freeSlot with
    | none => s
    | some r =>
      match judge r (s.reserve r kind tag) with
      | (s', none) => s'
      | (s', some a) => s'.reply r a.status a.body

/-- A table-writing request (R3): length, phase, ranges, in this order; a request that passes writes its fields. -/
def tableWrite {α : Type} (lengthOk : Bool) (operands : Option α) (write : α → State → State) (s : State) : Judged :=
  if !lengthOk then refuse .format s
  else if s.ccl.phase ≠ .setup then refuse .phase s
  else match operands with
    | none => refuse .range s
    | some x => taken (write x s)

/-- A request accepted in every phase: length, then ranges (the rules of the reading and setting requests). -/
def anyPhase {α : Type} (lengthOk : Bool) (operands : Option α) (act : α → State → Judged) (s : State) : Judged :=
  if !lengthOk then refuse .format s
  else match operands with
    | none => refuse .range s
    | some x => act x s

/-- Whether the phase is READY, LOADING or FINAL. -/
def State.outsideSetup (s : State) : Bool := decide (s.ccl.phase ≠ .setup)

end Sys2Proof.Machine
end

