-- ==== Sys2Proof/Machine/Limits.lean ====
section
/-! DEFINITION. The lines and alarms: LOADER PERMIT (R169), LOADER STOP (R75), the alarm groups and ALARM (R78 to R82), and the equipment fault set (R81). -/

namespace Sys2Proof.Machine

/-! ### LOADER PERMIT (R169) -/

/-- Why LOADER PERMIT changed (R169). -/
inductive PermitCause where | counter | stop | phase | restart
deriving DecidableEq, Repr

/-- The code of a permit change cause (R201). -/
def PermitCause.code : PermitCause → Nat
  | .counter => 0 | .stop => 1 | .phase => 2 | .restart => 3

/-- PMU evaluates LOADER PERMIT; a change is logged and noticed with its cause (R169). -/
def State.evalPermit (cause : PermitCause) (s : State) : State :=
  let line := permitLine s.ccl.phase s.pmu.hysteresis s.lsl.line
  if line = s.pmu.permit then s
  else
    let s := { s with pmu := { s.pmu with permit := line } }
    let s := s.log .permitChange [line.toNat, cause.code, s.pmu.counter]
    s.notify .permitChanged
      (flag line ++ u8 cause.code ++ u8 s.pmu.counter ++ flag s.pmu.hysteresis ++ flag s.lsl.line)

/-! ### LOADER STOP (R75) -/

/-- The content of a STOP_CHANGED notice (R75). The active causes are three flag bytes, CONDITION, COUNTER, EMERGENCY, as in LIMIT_STATUS: the model's choice, since R75 gives the set no layout (log entry 14). -/
def Lsl.stopContent (l : Lsl) : List Byte :=
  flag l.line ++ flag l.causes.condition ++ flag l.causes.counter ++ flag l.causes.emergency
    ++ flag l.acknowledged ++ u8 l.stopRun

/-- LSL after an event that changes causes or the acknowledgement and an evaluation of the line: an assertion clears the acknowledgement (R75). -/
def Lsl.evaluated (old new : Lsl) : Lsl :=
  let line := stopLine old.line new.causes new.acknowledged
  { new with line := line, acknowledged := new.acknowledged && !(line && !old.line) }

/-- LSL's own part of an event that changes the causes or the acknowledgement: the line is evaluated, its change is logged, and any change is noticed (R75). -/
def State.stopEvaluated (f : Lsl → Lsl) (s : State) : State :=
  let old := s.lsl
  let l := old.evaluated (f old)
  let s := { s with lsl := l }
  let s :=
    if l.line && !old.line then
      s.log .stopOn [l.causes.condition.toNat, l.causes.counter.toNat, l.causes.emergency.toNat]
    else if !l.line && old.line then s.log .stopOff []
    else s
  if l.line ≠ old.line ∨ l.causes ≠ old.causes ∨ l.acknowledged ≠ old.acknowledged then
    s.notify .stopChanged l.stopContent
  else s

/-- PMU takes the LOADER STOP line that LSL tells it, where it is no longer what it was (R75, R169). -/
def State.stopTaken (was : Bool) (s : State) : State := if s.lsl.line = was then s else s.evalPermit .stop

/-- An event changes the causes or the acknowledgement: LSL evaluates the line, and PMU takes its change (R75). -/
def State.stopChange (f : Lsl → Lsl) (s : State) : State := (s.stopEvaluated f).stopTaken s.lsl.line

/-- PMU reports that the counter-at-zero condition is present or absent: LSL's part (R73). -/
def State.counterCause (present : Bool) (s : State) : State :=
  s.stopEvaluated fun l => { l with causes := { l.causes with counter := present } }

/-- The EMERGENCY cause follows the emergency input and its enable (R74). -/
def Lsl.emergencyCause (enabled : Bool) (l : Lsl) : Lsl :=
  { l with causes := { l.causes with emergency := l.emergencyInput && enabled } }

/-- PVA reports the emergency input's state (R74). -/
def State.emergencyReport (active : Bool) (s : State) : State :=
  s.stopChange fun l => { l with emergencyInput := active }.emergencyCause s.cfg.stop.emergencyEnabled

/-! ### The alarm groups (R78 to R82) -/

/-- The ALARM line is evaluated (R82). -/
def State.evalAlarm (s : State) : State :=
  { s with lsl := { s.lsl with alarmLine := alarmLine s.cfg.alarm s.lsl.groups s.lsl.pulseUntil } }

/-- A group's flags are replaced. -/
def Lsl.setGroup (g : AlarmGroup) (f : GroupFlags → GroupFlags) (l : Lsl) : Lsl :=
  { l with groups := l.groups.set g.ix (f l.groups[g.ix]) }

/-- A group's cause-present flag is set or cleared, and the line is evaluated (R82). -/
def State.setCause (g : AlarmGroup) (present : Bool) (s : State) : State :=
  { s with lsl := s.lsl.setGroup g fun f => { f with causePresent := present } }.evalAlarm

/-- The code of a mask: MASKED 0, UNMASKED 1 (R84, R201). -/
def maskCode (masked : Bool) : Nat := (!masked).toNat

/-- The pulse timer is started at the pulse length, in PULSE mode (R82). -/
def State.startPulse (s : State) : State :=
  if s.cfg.alarm.mode = .pulse then
    { s with lsl := { s.lsl with pulseUntil := some (s.now + seconds s.cfg.alarm.pulseLength) } }
  else s

/-- An alarm event in a group, with its source and item (R78): an unmasked group becomes unacknowledged and pulses; the event is logged and noticed; the line is evaluated. -/
def State.alarmEvent (g : AlarmGroup) (source item : Nat) (s : State) : State :=
  let masked := s.cfg.alarm.masked[g.ix]
  let s := if masked then s else { s with lsl := s.lsl.setGroup g fun f => { f with unacknowledged := true } }
  let s := s.log .alarm [g.code, source, item, masked.toNat]
  let s := s.notify .alarm
    (u8 g.code ++ u8 source ++ u8 item ++ flag masked ++ u8 (maskCode masked)
      ++ flag s.lsl.groups[g.ix].causePresent ++ flag s.lsl.groups[g.ix].unacknowledged)
  let s := if masked then s else s.startPulse
  s.evalAlarm

/-- The PACE cause-present flag follows pace lagging and counter low (R80). -/
def State.paceCause (s : State) : State := s.setCause .pace (s.lsl.paceLagging || s.lsl.counterLow)

/-- PMU reports the counter below Tl, or at Tl or above (R80, R168): falling below is an alarm event of source 21. -/
def State.counterLowReport (low : Bool) (s : State) : State :=
  let s := { s with lsl := { s.lsl with counterLow := low } }.paceCause
  if low then s.alarmEvent .pace 21 noneCode else s

/-- PTR reports a pace check (R80): a lag is an alarm event of source 20 with the pour as item. -/
def State.paceReport (lagging : Bool) (pour : Nat) (s : State) : State :=
  let s := { s with lsl := { s.lsl with paceLagging := lagging } }.paceCause
  if lagging then s.alarmEvent .pace 20 pour else s

/-- PMU reports an attendance bad event with the flag it set (R80, R164). -/
def State.attendanceReport (f : StatusFlag) (s : State) : State :=
  s.alarmEvent .pace (10 + f.code) noneCode

/-! ### The equipment fault set (R81) -/

/-- Whether a fault is present. -/
def FaultSet.has (x : FaultSet) : Equipment → Bool
  | .sensor t => x.sensor[t]
  | .overTable t => x.overTable[t]
  | .pump p => x.pump[p]
  | .valve v => x.valve[v]
  | .meter p => x.meter[p]

/-- A fault joins or leaves the set. -/
def FaultSet.put (x : FaultSet) (present : Bool) : Equipment → FaultSet
  | .sensor t => { x with sensor := x.sensor.set t present }
  | .overTable t => { x with overTable := x.overTable.set t present }
  | .pump p => { x with pump := x.pump.set p present }
  | .valve v => { x with valve := x.valve.set v present }
  | .meter p => { x with meter := x.meter.set p present }

/-- The faults present, in the order of the table of R81 and ascending item (R85). -/
def FaultSet.list (x : FaultSet) : List Equipment :=
  ((List.finRange 16).map Equipment.sensor ++ (List.finRange 16).map Equipment.overTable
    ++ (List.finRange 3).map Equipment.pump ++ (List.finRange 21).map Equipment.valve
    ++ (List.finRange 3).map Equipment.meter).filter x.has

/-- Whether the set is empty. -/
def FaultSet.isEmpty (x : FaultSet) : Bool := x.list.isEmpty

/-- A report of a fault: one not in the set joins it and raises one EQUIPMENT alarm event; one in the set changes nothing (R81). -/
def State.faultReport (e : Equipment) (s : State) : State :=
  if s.lsl.faults.has e then s
  else
    let s := { s with lsl := { s.lsl with faults := s.lsl.faults.put true e } }
    (s.setCause .equipment true).alarmEvent .equipment (30 + e.code) e.item

/-- A withdrawal of a fault: one not in the set is ignored (R81). -/
def State.faultWithdraw (e : Equipment) (s : State) : State :=
  if s.lsl.faults.has e then
    let s := { s with lsl := { s.lsl with faults := s.lsl.faults.put false e } }
    s.setCause .equipment (!s.lsl.faults.isEmpty)
  else s

end Sys2Proof.Machine
end

