-- ==== Sys2Proof/Machine/Permit.lean ====
section
/-! DEFINITION. The permit unit: events and the counter (R164 to R168), the timers of the attendance check, and trips (R160, R162). -/

namespace Sys2Proof.Machine

/-- The elapsed whole seconds of a timer, its fraction dropped (section 8.4). -/
def State.elapsed (since : Nat) (s : State) : Nat := (s.now - since) / 1000

/-- A status flag is set. -/
def State.setFlag (f : StatusFlag) (s : State) : State :=
  { s with pmu := { s.pmu with flags := s.pmu.flags.set f.ix true } }

/-- The counter-low and counter-at-zero conditions are evaluated, and their changes are recorded and reported to LSL, whose part is done; PMU has yet to take a change of LOADER STOP (R168). Where one change of the counter alters both conditions, counter-low is reported first, so that its ALARM entry stands before the STOP_ON entry of counter-at-zero: the model's choice, R165 and R168 giving the two no order (log entry 23). -/
def State.reportConditions (s : State) : State :=
  let low := decide (s.pmu.counter < s.cfg.permit.lower)
  let zero := decide (s.pmu.counter = 0) && s.cfg.permit.zeroStop
  let wasLow := s.pmu.lowReported
  let wasZero := s.pmu.zeroAsserted
  let s := { s with pmu := { s.pmu with lowReported := low, zeroAsserted := zero } }
  let s := if low = wasLow then s else s.counterLowReport low
  if zero = wasZero then s else s.counterCause zero

/-- The consequences of a change or setting of the counter, steps 2 to 5 of R165: COUNTER_ZERO; the hysteresis state, given; the conditions reported to LSL; and LOADER PERMIT, at a change of the hysteresis state and at the change of LOADER STOP that the report brings (R169; log entry 9). COUNTER_ZERO is set at every counter of 0 that this follows, a start of the check with the initial value 0 and a retiming's bad event among them, though R158 and R155 say that those set no status flag: the model's choice (log entries 35 and 36). So too the ALARM, STOP_ON and PERMIT_CHANGE entries of steps 4 and 5 follow a retiming's bad event, though R155 says that the event raises no PACE alarm event and writes no log entry: the model's choice (log entry 39). -/
def State.counterSettled (hysteresis : Bool) (s : State) : State :=
  let was := s.pmu.hysteresis
  let line := s.lsl.line
  let s := if s.pmu.counter = 0 then s.setFlag .counterZero else s
  let s := { s with pmu := { s.pmu with hysteresis := hysteresis } }
  let s := s.reportConditions
  let s := if hysteresis = was then s else s.evalPermit .counter
  s.stopTaken line

/-- The counter is set, nothing else. -/
def State.setCounter (n : Nat) (s : State) : State := { s with pmu := { s.pmu with counter := n } }

/-- The hysteresis state evaluated against the counter as it stands (R167). -/
def State.hysteresisNow (s : State) : Bool := hysteresisAfter s.cfg.permit s.pmu.counter s.pmu.hysteresis

/-- A good or a bad event that is no attendance bad event: applied while the check runs, else discarded (R165, R166). -/
def State.permitEvent (good : Bool) (s : State) : State :=
  if s.pmu.unit = .idle then s
  else
    let s := s.setCounter (counterAfter s.cfg.permit good s.pmu.counter)
    s.counterSettled s.hysteresisNow

/-- An attendance bad event is reported to LSL and logged with the elapsed seconds it was judged at, the counter after it, and whether the check tripped (R164). LSL's ALARM entry stands before the ATTENDANCE_BAD entry: the model's choice, R174 leaving it open (log entry 23). -/
def State.attendanceBad (f : StatusFlag) (e : Nat) (trip : Bool) (s : State) : State :=
  (s.attendanceReport f).log .attendanceBad [f.code, e, s.pmu.counter, trip.toNat]

/-- An attendance bad event of a running check: its flag is set, it lowers the counter, it is reported and logged, and the consequences follow (R164, R165). -/
def State.attendanceEvent (f : StatusFlag) (e : Nat) (s : State) : State :=
  let s := (s.setFlag f).setCounter (counterAfter s.cfg.permit false s.pmu.counter)
  let s := s.attendanceBad f e false
  s.counterSettled s.hysteresisNow

/-- A CHALLENGE_DUE notice is made pending: the seconds from R_open to the close of the window and to the timeout (R161). The R_open moment of this timer is thereby taken. -/
def State.challengeDue (s : State) : State :=
  match s.pmu.unit with
  | .awaitChallenge since _ =>
    let s := { s with pmu := { s.pmu with unit := .awaitChallenge since true } }
    s.notify .challengeDue
      (u8 s.cfg.permit.rWidth ++ u8 (s.cfg.permit.rWidth + s.cfg.permit.rExtra))
  | _ => s

/-- The challenge timer starts at 0 in AWAIT_CHALLENGE; with R_open at 0 the notice is made pending at once (R159, R161). -/
def State.startChallengeTimer (s : State) : State :=
  let s := { s with pmu := { s.pmu with unit := .awaitChallenge s.now false } }
  if s.cfg.permit.rOpen = 0 then s.challengeDue else s

/-- The answer timer starts at 0 in AWAIT_ANSWER (R158, R161). -/
def State.startAnswerTimer (s : State) : State :=
  { s with pmu := { s.pmu with unit := .awaitAnswer s.now } }

/-- The check trips at a timeout (R160, R162): the unit is IDLE and its timer gone, the counter is 0, the trip count rises, held at 15, the hysteresis state is OFF, and the trip is an attendance bad event of the flag, at the timeout figure. -/
def State.tripCheck (f : StatusFlag) (figure : Nat) (s : State) : State :=
  let s := { s with pmu := { s.pmu with unit := .idle, trips := satAdd 15 s.pmu.trips 1 } }
  let s := ((s.setFlag f).setCounter 0).attendanceBad f figure true
  s.counterSettled false

/-- The timeout figure of AWAIT_ANSWER (section 8.4). -/
def PermitConfig.answerTimeout (c : PermitConfig) : Nat := c.aOpen + c.aWidth + c.aExtra
/-- The timeout figure of AWAIT_CHALLENGE (section 8.4). -/
def PermitConfig.challengeTimeout (c : PermitConfig) : Nat := c.rOpen + c.rWidth + c.rExtra

/-- The code of the unit state, its place in the list of R153. -/
def UnitState.code : UnitState → Nat
  | .idle => 0 | .awaitAnswer _ => 1 | .awaitChallenge .. => 2

end Sys2Proof.Machine
end

