-- ==== Sys2Proof/Machine/Condition.lean ====
section
/-! DEFINITION. The arithmetic of the condition engine: volumes and masses from a sounding table (R31, R32), the inputs of a prediction (R49, R50), and the eight stages (R51 to R60). -/

namespace Sys2Proof.Machine

/-! ### Volume and mass of a tank -/

/-- The volume between a point and the next, at a level (R31). -/
def interpolate (a b : Point) (level : Nat) : Nat :=
  ((a.volume : Int) + roundDiv (((b.volume : Int) - a.volume) * ((level : Int) - a.level))
    ((b.level : Int) - a.level)).toNat

/-- The volume a sounding table gives at a level (R31). A table with no points, which no validated table is, gives 0. -/
def volumeAt : List Point → Nat → Nat
  | [], _ => 0
  | [a], _ => a.volume
  | a :: b :: rest, level => if b.level ≤ level then volumeAt (b :: rest) level else interpolate a b level

/-- Whether a level exceeds the last point of a sounding table (R31). -/
def overTableAt (table : List Point) (level : Nat) : Bool :=
  match table.getLast? with
  | none => false
  | some p => decide (p.level < level)

/-- The mass of a volume (R32). -/
def massOf (volume density : Nat) : Nat := roundNat (volume * density) 10000

/-- The mass a tank has at a level (R31, R32). -/
def massAt (table : List Point) (density level : Nat) : Nat := massOf (volumeAt table level) density

/-! ### The inputs of a prediction -/

/-- The masses a computation works on. -/
structure Masses where
  tanks : Vector Nat 16
  holds : Vector Nat 9
deriving DecidableEq, Repr

/-- The mass a tank of the snapshot has at a level. -/
def Snapshot.massAt (snap : Snapshot) (t : TankNo) (level : Nat) : Nat :=
  Machine.massAt snap.soundings[t] snap.tanks[t].density level

/-- A tank's predicted mass becomes the mass at a level. -/
def Masses.setLevel (m : Masses) (snap : Snapshot) (t : TankNo) (level : Nat) : Masses :=
  { m with tanks := m.tanks.set t (snap.massAt t level) }

/-- One step's target is applied to the predicted masses (R49). -/
def Masses.apply (snap : Snapshot) (m : Masses) (v : Move) : Masses :=
  match v.kind, v.source, v.dest with
  | .ballast, _, some d => m.setLevel snap d v.target
  | .deballast, some a, _ => m.setLevel snap a v.target
  | .strip, some a, _ => m.setLevel snap a v.target
  | .shift, some a, some d =>
    let before := m.tanks[a]
    let after := snap.massAt a v.target
    let m' := m.setLevel snap a v.target
    if after < before then { m' with tanks := m'.tanks.set d (m'.tanks[d] + (before - after)) } else m'
  | _, _, _ => m

/-- One override is applied (R50). -/
def Masses.override (snap : Snapshot) (m : Masses) : Override → Masses
  | .tank t level => m.setLevel snap t level
  | .hold h mass => { m with holds := m.holds.set h mass }

/-- The masses of a snapshot, changed by its moves in order and then by the overrides (R49, R50). -/
def Snapshot.masses (snap : Snapshot) (overrides : List Override) : Masses :=
  overrides.foldl (Masses.override snap) (snap.moves.foldl (Masses.apply snap) ⟨snap.tankMass, snap.holdMass⟩)

/-! ### Stage 1: masses to segments (R51) -/

/-- A tank or hold with its mass, span and transverse arm. -/
structure Item where
  mass : Nat
  first : Nat
  count : Nat
  arm : Int
deriving DecidableEq, Repr

/-- What an item gives segment `i` (R51). -/
def Item.share (it : Item) (i : Nat) : Nat :=
  if it.first ≤ i ∧ i < it.first + it.count then
    it.mass / it.count + if i - it.first < it.mass % it.count then 1 else 0
  else 0

/-- The sixteen tanks as items. -/
def tankItems (snap : Snapshot) (m : Masses) : List Item :=
  (List.finRange 16).map fun t =>
    ⟨m.tanks[t], snap.tanks[t].first, snap.tanks[t].count, snap.tanks[t].arm⟩

/-- The nine holds as items. -/
def holdItems (snap : Snapshot) (m : Masses) : List Item :=
  (List.finRange 9).map fun h =>
    ⟨m.holds[h], snap.holds[h].first, snap.holds[h].count, snap.holds[h].arm⟩

/-- The segment weights (R51). -/
def segmentWeights (segs : List Segment) (items : List Item) : List Nat :=
  List.zipWith (fun i s => s.mass + (items.map (·.share i)).sum) (List.range 20) segs

/-- The displacement, capped (R51). -/
def cappedDisplacement (w : Nat) : Nat := min 300000 w

/-! ### Stage 2: the sums of the hull (R52) -/

/-- The lever of segment `i` in half-segments (R52). -/
def lever (i : Nat) : Int := 2 * (i : Int) - 19

/-- The levers of the segments, from aft. -/
def levers : List Int := (List.range 20).map lever

/-- The sums of stage 2. -/
structure HullSums where
  k0 : Int
  k1 : Int
  k2 : Int
  moment : Int
deriving DecidableEq, Repr

/-- K0, K1, K2 and M (R52). -/
def hullSums (ks ws : List Nat) : HullSums :=
  { k0 := (ks.map fun k => (k : Int)).sum
    k1 := (List.zipWith (fun (k : Nat) h => (k : Int) * h) ks levers).sum
    k2 := (List.zipWith (fun (k : Nat) h => (k : Int) * (h * h)) ks levers).sum
    moment := (List.zipWith (fun (w : Nat) h => (w : Int) * h) ws levers).sum }

/-- The determinant of the equilibrium (R52). -/
def HullSums.determinant (u : HullSums) : Int := u.k0 * u.k2 - u.k1 * u.k1
/-- The numerator P for displacement `w` (R52). -/
def HullSums.p (u : HullSums) (w : Int) : Int := w * u.k2 - u.k1 * u.moment
/-- The numerator Q for displacement `w` (R52). -/
def HullSums.q (u : HullSums) (w : Int) : Int := u.k1 * w - u.k0 * u.moment

/-! ### Stages 3 and 4: the equilibrium and its range (R53, R54) -/

/-- The drafts and trim before clamping. -/
structure Afloat where
  tm : Int
  trim : Int
  ta : Int
  tf : Int
  drafts : List Int
deriving DecidableEq, Repr

/-- The figures of stage 3 from P, Q and D (R53). -/
def solveEquilibrium (p q d : Int) : Afloat :=
  { tm := roundDiv (1000 * p) d
    trim := roundDiv (40000 * q) d
    ta := roundDiv (1000 * p + 20000 * q) d
    tf := roundDiv (1000 * p - 20000 * q) d
    drafts := levers.map fun h => roundDiv (1000 * p - 1000 * h * q) d }

/-- A draft clamped to the range of the model (R54). -/
def clampDraft (x : Int) : Int := clampInt 0 40000 x
/-- The trim clamped (R54). -/
def clampTrim (x : Int) : Int := clampInt (-40000) 40000 x

/-- The figures of stage 4 (R54). -/
def Afloat.clamped (f : Afloat) : Afloat :=
  { tm := clampDraft f.tm, trim := clampTrim f.trim, ta := clampDraft f.ta, tf := clampDraft f.tf
    drafts := f.drafts.map clampDraft }

/-! ### Stage 5: buoyancy (R55) -/

/-- The index of the largest of a list, the lowest among equals. -/
def argMax : List Nat → Nat
  | [] => 0
  | k :: l => if l.all (· ≤ k) then 0 else argMax l + 1

/-- The buoyancies: each rounded from its draft, and the residual added to the segment of largest immersion factor (R55). -/
def buoyancies (ks : List Nat) (drafts : List Int) (w : Int) : List Int :=
  let base := List.zipWith (fun (k : Nat) d => roundDiv ((k : Int) * d) 1000) ks drafts
  let at_ := argMax ks
  base.set at_ (base.getD at_ 0 + (w - base.sum))

/-! ### Stage 6: girder loads (R56) -/

/-- The sum of the bending moment at station `j`: the net loads aft of it by their distance in half-segments (R56). -/
def bendingSum (nets : List Int) (j : Nat) : Int :=
  (List.zipWith (fun n i => n * (2 * ((j : Int) - i) - 1)) (nets.take j) ((List.range j).map Int.ofNat)).sum

/-- Shear force at station `j`, before its clamp (R56). -/
def shearForce (nets : List Int) (j : Nat) : Int := (nets.take j).sum
/-- Bending moment at station `j`, before its clamp (R56). -/
def bendingMoment (ls : Nat) (nets : List Int) (j : Nat) : Int := roundDiv ((ls : Int) * bendingSum nets j) 200
/-- A girder load clamped (R56). -/
def clampLoad (x : Int) : Int := clampInt (-2000000000) 2000000000 x

/-! ### Stage 7: list (R57) -/

/-- The list for a transverse moment, before its clamp (R57). -/
def listAngle (gm w : Nat) (mt : Int) : Int :=
  if gm = 0 then 0 else roundDiv (5730 * mt) ((w : Int) * gm)
/-- The list clamped (R57). -/
def clampList (x : Int) : Int := clampInt (-3000) 3000 x

/-! ### Stage 8: usages (R58, R59) -/

/-- A usage in per-mille, at most 9999; a limit of 0 gives 0 (R58, R59). -/
def usage (x limit : Nat) : Nat := if limit = 0 then 0 else min 9999 (roundNat (x * 1000) limit)

/-- The shear usage of a station (R58). -/
def shearUsage (sf : Int) (st : Station) : Nat := usage sf.natAbs st.shear
/-- The bending usage of a station (R58). -/
def bendingUsage (bm : Int) (st : Station) : Nat :=
  if 0 ≤ bm then usage bm.natAbs st.hogging else usage bm.natAbs st.sagging

/-- The greatest of some usages with its station, numbered from `j`; the lowest-numbered among equals (R58). -/
def worstOf (j : Nat) : List Nat → Worst
  | [] => ⟨0, 0⟩
  | u :: l => if l.all (· ≤ u) then ⟨j, u⟩ else worstOf (j + 1) l

/-- The TRIM usage (R59). -/
def trimUsage (ship : ShipFigures) (t : Int) : Nat :=
  if 0 < t then usage t.natAbs ship.trimStern else if t < 0 then usage t.natAbs ship.trimHead else 0

/-- The air entry of an active pour, from the clamped local drafts (R59). -/
def airEntry (snap : Snapshot) (drafts : List Int) (pour : Loader × HoldNo) : AirEntry :=
  let hold := snap.holds[pour.2]
  let clearance := ((hold.coaming : Int) - drafts.getD hold.first 0).toNat
  ⟨pour.1, pour.2, clearance, usage clearance snap.berth.clearance⟩

/-- The greatest of some numbers, 0 for none. -/
def greatest (l : List Nat) : Nat := l.foldl max 0

/-- The worst air entry: the greatest usage, loader A's among equals, since its entry stands first (R59). -/
def worstAir : List AirEntry → Option AirEntry
  | [] => none
  | e :: l => if l.all (·.usage ≤ e.usage) then some e else worstAir l

/-! ### The record (R60, R61) -/

/-- The condition record of a computation that completes: `masses` are those the stages work on, `sequence` is its number (R44, R45, R51 to R61). -/
def Snapshot.compute (snap : Snapshot) (predicted : Bool) (sequence : Nat) (m : Masses) : ConditionRecord :=
  let items := tankItems snap m ++ holdItems snap m
  let segs := snap.segments.toList
  let ks := segs.map (·.immersion)
  let ws := segmentWeights segs items
  let w := cappedDisplacement ws.sum
  let u := hullSums ks ws
  let raw := solveEquilibrium (u.p w) (u.q w) u.determinant
  let f := raw.clamped
  let bs := buoyancies ks f.drafts w
  let nets := List.zipWith (fun (wi : Nat) b => (wi : Int) - b) ws bs
  let js := (List.range 19).map (· + 1)
  let sfRaw := js.map (shearForce nets)
  let bmRaw := js.map (bendingMoment snap.ship.ls nets)
  let sfs := sfRaw.map clampLoad
  let bms := bmRaw.map clampLoad
  let sts := snap.stations.toList
  let su := List.zipWith shearUsage sfs sts
  let bu := List.zipWith bendingUsage bms sts
  let mt := (items.map fun it => (it.mass : Int) * it.arm).sum
  let listRaw := listAngle snap.berth.gm w mt
  let angle := clampList listRaw
  let air := snap.pours.map (airEntry snap f.drafts)
  let worstS := worstOf 1 su
  let worstB := worstOf 1 bu
  let holdUsage := (List.finRange 9).map fun h => usage m.holds[h] snap.holds[h].maxMass
  let figures : Vector Nat 7 :=
    #v[worstS.usage, worstB.usage, usage (max f.ta.toNat f.tf.toNat) snap.berth.maxDraft
      , greatest (air.map (·.usage)), trimUsage snap.ship f.trim
      , if snap.berth.gm = 0 then 0 else usage angle.natAbs snap.ship.listLimit, greatest holdUsage]
  let bands := Vector.ofFn fun c : Fin 7 => placeBand snap.thresholds[c] figures[c]
  { predicted := predicted
    sequence := sequence
    shipTime := snap.shipTime
    displacement := w
    ballast := m.tanks.toList.sum
    cargo := m.holds.toList.sum
    moment := u.moment
    tm := f.tm.toNat
    trim := f.trim
    ta := f.ta.toNat
    tf := f.tf.toNat
    list := angle
    segments := List.zipWith (fun (wi : Nat) (x : Int × Int) => ⟨wi, x.1.toNat, x.2⟩) ws (f.drafts.zip bs)
    stations := List.zipWith (fun (x : Int × Int) (y : Nat × Nat) => ⟨x.1, x.2, y.1, y.2⟩)
      (sfs.zip bms) (su.zip bu)
    worstShear := worstS
    worstBending := worstB
    figures := figures
    bands := bands
    overall := overallBand bands
    modelRange := decide (w ≠ ws.sum) || decide (f ≠ raw) || decide (sfs ≠ sfRaw) || decide (bms ≠ bmRaw)
      || decide (angle ≠ listRaw)
    air := air }

end Sys2Proof.Machine
end

