-- ==== Sys2Proof/Machine/Records.lean ====
section
/-! DEFINITION. The record unit's accumulators: step end records (R102, R178, R180), and what it takes from each current record (R175, R177, R179). -/

namespace Sys2Proof.Machine

/-- A total raised by what `after` exceeds `before`; a figure of 0 or less adds nothing (R178). -/
def addChange (total before after : Nat) : Nat := satAdd Config.maxU32 total (after - before)

/-- The start volume of a removed step adds to a tank's totals by its kind: the source gives water, the destination takes it (R178). -/
def TankTotals.source (k : StepKind) (before after : Nat) (x : TankTotals) : TankTotals :=
  match k with
  | .deballast | .strip => { x with discharge := addChange x.discharge after before }
  | .shift => { x with shiftOut := addChange x.shiftOut after before }
  | .ballast => x

/-- The destination's part of R178. -/
def TankTotals.dest (k : StepKind) (before after : Nat) (x : TankTotals) : TankTotals :=
  match k with
  | .ballast => { x with intake := addChange x.intake before after }
  | .shift => { x with shiftIn := addChange x.shiftIn before after }
  | .deballast | .strip => x

/-- The totals after a step's end record, its tanks at the volumes TKM holds; a tank without a start volume adds nothing (R178). -/
def accumulate (tanks : Vector TankRun 16) (x : StepRec) (v : Vector TankTotals 16) : Vector TankTotals 16 :=
  let v := match x.source, x.startSource with
    | some t, some b => v.set t (v[t].source x.kind b tanks[t].volume)
    | _, _ => v
  match x.dest, x.startDest with
  | some t, some b => v.set t (v[t].dest x.kind b tanks[t].volume)
  | _, _ => v

/-- The event counts after a step's end record (R180). -/
def Counts.stepEnd (d : Disposition) (c : Counts) : Counts :=
  match d with
  | .done => { c with stepsDone := satAdd 65535 c.stepsDone 1 }
  | .faulted => { c with stepsFaulted := satAdd 65535 c.stepsFaulted 1 }
  | .cancelled => c

/-- A removed step's end record is handed to RCU: the STEP_END entry, the totals and the counts (R102, R178, R180). -/
def State.stepEnd (x : StepRec) (out : StepOutcome) (d : Disposition) (s : State) : State :=
  let s := s.log .stepEnd [x.number, x.kind.code, out.code, d.code]
  { s with rcu := { s.rcu with
    totals := accumulate s.tanks x s.rcu.totals
    counts := s.rcu.counts.stepEnd d } }

/-! ### What a current record brings -/

/-- The worst class of a record: the highest band, then the greater figure, then the first in class order (R175). -/
def ConditionRecord.worstClass (r : ConditionRecord) : BandClass :=
  BandClass.all.foldl
    (fun best c =>
      if r.bands[c.ix].above r.bands[best.ix] then c
      else if r.bands[c.ix] = r.bands[best.ix] ∧ r.figures[best.ix] < r.figures[c.ix] then c
      else best) .shear

/-- The BAND_CHANGE entry of a record whose bands differ from the band memory, and the memory after it (R175). -/
def State.bandMemory (r : ConditionRecord) (s : State) : State :=
  let differs := decide (r.bands ≠ s.rcu.memoryBands ∨ r.overall ≠ s.rcu.memoryOverall)
  let s := if differs then
      s.log .bandChange [r.sequence, r.overall.code, r.worstClass.code, r.figures[r.worstClass.ix]]
    else s
  { s with rcu := { s.rcu with memoryBands := r.bands, memoryOverall := r.overall } }

/-- A peak is replaced whole by a greater figure (R179). -/
def Peak.raise (figure item shipTime : Nat) (p : Peak) : Peak :=
  if p.figure < figure then ⟨figure, item, shipTime⟩ else p

/-- The peaks after a record (R179). -/
def Peaks.take (r : ConditionRecord) (p : Peaks) : Peaks :=
  { shear := p.shear.raise r.figures[BandClass.shear.ix] r.worstShear.station r.shipTime
    bending := p.bending.raise r.figures[BandClass.bending.ix] r.worstBending.station r.shipTime
    draft := p.draft.raise r.figures[BandClass.draft.ix] 0 r.shipTime
    air := p.air.raise r.figures[BandClass.air.ix] (((worstAir r.air).map (·.hold.val)).getD 0) r.shipTime }

/-- A PENDING arrival condition takes its figures (R177). -/
def Arrival.resolve (r : ConditionRecord) : Arrival → Arrival
  | .pending t => .taken t r.reportFigures
  | a => a

/-- RCU takes a current record (R175, R177, R179). -/
def State.recordsTake (r : ConditionRecord) (s : State) : State :=
  let s := s.bandMemory r
  { s with rcu := { s.rcu with peaks := s.rcu.peaks.take r, arrival := s.rcu.arrival.resolve r } }

/-! ### Reports -/

/-- A report from its snapshot and serial: its content with the CRC-32 over it behind (R184, R187, R204). -/
def ComposeSnapshot.report (c : ComposeSnapshot) (serial : Nat) : Report :=
  let content := c.content serial
  { interim := c.interim, serial := serial, callNumber := c.callNumber
    bytes := content ++ bytesOf 4 (crc32 content).toNat }

/-- The serial after one: it wraps from 65,535 to 1 (R182, R184). -/
def nextSerial (n : Nat) : Nat := if n < 65535 then n + 1 else 1

/-- The composer's snapshot of a report of a kind, around a current record (R183). -/
def State.composeSnapshot (interim : Bool) (record : ConditionRecord) (s : State) : ComposeSnapshot :=
  { interim := interim
    callNumber := s.ccl.callNumber, portCode := s.ccl.portCode, berthText := s.ccl.berthText
    shipTime := s.ccl.shipTime, arrival := s.rcu.arrival, totals := s.rcu.totals
    volumes := Vector.ofFn fun t : Fin 16 => s.tanks[t].volume
    holdMass := Vector.ofFn fun h : Fin 9 => s.ptr.holds[h].mass
    planned := s.ptr.plan.length
    poured := (s.ptr.plan.filter fun e => e.state == .poured).length
    peaks := s.rcu.peaks, counts := s.rcu.counts, wrapped := s.rcu.wrapped, record := record }

end Sys2Proof.Machine
end

