-- ==== Sys2Proof/Machine/Engine.lean ====
section
/-! DEFINITION. The condition engine: its queue and serving order (R41 to R48), the snapshot of a computation (R44), and the delivery of a current record (R45, R69 to R72, R79, R147). -/

namespace Sys2Proof.Machine

/-! ### Beginning a computation (R43, R44) -/

/-- What a prediction applies of a step (R44, R49). -/
def StepRec.move (x : StepRec) : Move := ⟨x.kind, x.source, x.dest, x.target⟩

/-- The moves of the admitted steps, in queue order (R49). -/
def Tsq.admittedMoves (q : Tsq) : List Move := q.order.filterMap fun k => q.slots[k].map StepRec.move

/-- The slot of the held step that carries a number. -/
def Tsq.slotOf (q : Tsq) (number : Nat) : Option SlotNo :=
  (List.finRange 32).find? fun k => q.slots[k].any fun x => x.number == number

/-- The moves a prediction request applies: the admitted steps', when its flag is on, and then the requesting step's own (R49). -/
def State.movesOf (r : PredictionRequest) (s : State) : List Move :=
  if r.includeAdmitted then
    s.tsq.admittedMoves ++
      match r.requester with
      | .step n => ((s.tsq.slotOf n).bind fun k => s.tsq.slots[k].map StepRec.move).toList
      | .predict _ => []
  else []

/-- The active pours (R44, R138). Loader A's stands first, which the air list and its summary show (R59, R202): the model's choice, since the manual gives those entries no order (log entry 33). -/
def Ptr.activePours (p : Ptr) : List (Loader × HoldNo) :=
  [Loader.a, .b].filterMap fun l => p.loaders[l.ix].map fun x => (l, x.hold)

/-- The snapshot a computation takes when it begins (R44). -/
def State.snapshot (moves : List Move) (s : State) : Snapshot :=
  { ship := s.cfg.ship, segments := s.cfg.segments, stations := s.cfg.stations
    thresholds := s.cfg.thresholds, tanks := s.cfg.tanks, soundings := s.cfg.soundings
    tankMass := Vector.ofFn fun t : Fin 16 => s.tanks[t].mass
    holds := s.cfg.holds
    holdMass := Vector.ofFn fun h : Fin 9 => s.ptr.holds[h].mass
    berth := s.berth, pours := s.ptr.activePours, shipTime := s.ccl.shipTime
    baseSequence := (s.cen.current.map (·.sequence)).getD 0
    moves := moves }

/-- A current recompute begins, and the pending flag is cleared (R43, R44). -/
def State.beginCurrent (s : State) : State :=
  { s with cen := { s.cen with inFlight := some (.current (s.snapshot [])), pendingCurrent := false } }

/-- The prediction at the head of the queue begins, where there is one (R43, R44). -/
def State.beginPrediction (s : State) : State :=
  match s.cen.queue with
  | [] => s
  | r :: rest =>
    { s with cen := { s.cen with inFlight := some (.prediction r (s.snapshot (s.movesOf r))), queue := rest } }

/-- A current recompute request: begins at once, sets the pending flag, or is absorbed; discarded in SETUP (R41). -/
def State.requestRecompute (s : State) : State :=
  if s.ccl.phase = .setup then s
  else match s.cen.inFlight with
    | none => s.beginCurrent
    | some _ => { s with cen := { s.cen with pendingCurrent := true } }

/-- Whether the engine takes another prediction (R42). -/
def Cen.takesPrediction (c : Cen) : Bool := decide (c.queue.length < Config.predictionQueueSize)

/-- A prediction request joins the queue at its tail, and begins at once when the engine is idle and nothing is pending (R42). -/
def State.queuePrediction (r : PredictionRequest) (s : State) : State :=
  let s := { s with cen := { s.cen with queue := s.cen.queue ++ [r] } }
  if s.cen.inFlight.isNone ∧ s.cen.pendingCurrent = false then s.beginPrediction else s

/-- What begins when a computation has completed: after a current recompute a waiting prediction first, after a prediction a pending recompute first (R43). -/
def State.chooseNext (afterCurrent : Bool) (s : State) : State :=
  let s := { s with cen := { s.cen with inFlight := none } }
  if afterCurrent ∧ s.cen.queue ≠ [] then s.beginPrediction
  else if s.cen.pendingCurrent then s.beginCurrent
  else s.beginPrediction

/-! ### A current record at LSL (R69 to R72, R79) -/

/-- PMU takes the band-rise event that LSL passes where a record's overall band leaves CLEAR (R70). -/
def State.bandRise (r : ConditionRecord) (was : Band) (s : State) : State :=
  if r.overall ≠ .clear ∧ was = .clear then s.permitEvent false else s

/-- The content of a CONDITION_BAND notice (R71). -/
def ConditionRecord.bandContent (r : ConditionRecord) : List Byte :=
  u32 r.sequence ++ encodeBands r.bands ++ u8 r.overall.code ++ r.worstShear.encode ++ r.worstBending.encode

/-- The CONDITION_BAND notice of a record whose bands differ from the previous bands (R71). -/
def State.bandNotice (r : ConditionRecord) (s : State) : State :=
  if r.overall ≠ s.lsl.overallBand ∨ r.bands ≠ s.lsl.classBands then
    s.notify .conditionBand r.bandContent
  else s

/-- The item of an alarm event of a class: its worst station, the hold of the worst air entry, or none (R79). -/
def ConditionRecord.alarmItem (r : ConditionRecord) : BandClass → Nat
  | .shear => r.worstShear.station
  | .bending => r.worstBending.station
  | .air => orNone (fun e : AirEntry => e.hold.val) (worstAir r.air)
  | _ => noneCode

/-- The class that is the source of a group's event: the higher band, then the greater figure, then the first (R79). -/
def ConditionRecord.sourceOf (r : ConditionRecord) (a b : BandClass) : BandClass :=
  if r.bands[b.ix].above r.bands[a.ix] then b
  else if r.bands[a.ix].above r.bands[b.ix] then a
  else if r.figures[a.ix] < r.figures[b.ix] then b
  else a

/-- A group of two classes at a record: its cause presence, and one alarm event when either band is higher than before (R79). -/
def State.groupRecord (g : AlarmGroup) (a b : BandClass) (r : ConditionRecord) (before : Vector Band 7) (s : State) : State :=
  let s := s.setCause g (r.bands[a.ix] != .clear || r.bands[b.ix] != .clear)
  if r.bands[a.ix].above before[a.ix] || r.bands[b.ix].above before[b.ix] then
    s.alarmEvent g (r.sourceOf a b).code (r.alarmItem (r.sourceOf a b))
  else s

/-- The STOP run count after a record (R72). -/
def stopRunAfter (overall : Band) (n : Nat) : Nat := if overall = .stop then satAdd 8 n 1 else 0

/-- The CONDITION cause after a record, from the run count it leaves (R72). -/
def conditionCause (overall : Band) (run tolerance : Nat) (was : Bool) : Bool :=
  if overall = .stop then was || decide (tolerance ≤ run) else false

/-- The STOP run count and the CONDITION cause at a record, and LSL's evaluation of LOADER STOP (R72, R75). -/
def State.conditionRecord (r : ConditionRecord) (s : State) : State :=
  s.stopEvaluated fun l =>
    let run := stopRunAfter r.overall l.stopRun
    { l with
      stopRun := run
      causes := { l.causes with condition := conditionCause r.overall run s.cfg.stop.tolerance l.causes.condition } }

/-- LSL's own part of a current record, handled whole: the notice, the alarm groups and the CONDITION cause with the line, in the order R69 lists them (log entry 23), and then the record's bands become the previous bands. -/
def State.limitsHandle (r : ConditionRecord) (s : State) : State :=
  let before := s.lsl.classBands
  let s := s.bandNotice r
  let s := s.groupRecord .stress .shear .bending r before
  let s := s.groupRecord .berth .draft .air r before
  let s := s.conditionRecord r
  { s with lsl := { s.lsl with classBands := r.bands, overallBand := r.overall, bandSequence := r.sequence } }

/-- LSL takes a current record (R69). When it has handled the record whole, PMU takes what LSL has passed to it, the band-rise event first and then a change of LOADER STOP, and LSL what PMU reports in turn (log entry 23). -/
def State.limitsTake (r : ConditionRecord) (s : State) : State :=
  ((s.limitsHandle r).bandRise r s.lsl.overallBand).stopTaken s.lsl.line

/-! ### A current record in place -/

/-- The figures of the loading-start snapshot from a record (R146). -/
def ConditionRecord.startFigures (r : ConditionRecord) : StartFigures :=
  { ballast := r.ballast, cargo := r.cargo, displacement := r.displacement, tm := r.tm, ta := r.ta
    tf := r.tf, trim := r.trim, sequence := r.sequence }

/-- A PENDING loading-start snapshot takes its record figures (R147). -/
def StartSnapshot.resolve (r : ConditionRecord) : StartSnapshot → StartSnapshot
  | .pending v => .taken r.startFigures v
  | x => x

/-- The sequence number after one: it wraps from 4,294,967,295 to 1 (R45). -/
def nextSequenceNumber (n : Nat) : Nat := if n < Config.maxU32 then n + 1 else 1

/-- A current record is delivered to LSL and to RCU, in either order (R45, R174). -/
def State.deliver (r : ConditionRecord) (s : State) : State :=
  let (first, s) := s.choose Config.recordsFirst
  if first then (s.recordsTake r).limitsTake r else (s.limitsTake r).recordsTake r

/-- A new current record replaces the one in place and is delivered (R45, R147). -/
def State.putRecord (r : ConditionRecord) (s : State) : State :=
  State.deliver r
    { s with
      cen := { s.cen with current := some r, sequence := r.sequence }
      ptr := { s.ptr with start := s.ptr.start.resolve r } }

/-- The record a current recompute completes with (R45). -/
def State.completedRecord (snap : Snapshot) (s : State) : ConditionRecord :=
  snap.compute false (nextSequenceNumber s.cen.sequence) (snap.masses [])

/-- The record a prediction completes with (R46, R49, R50, R61). -/
def PredictionRequest.record (q : PredictionRequest) (snap : Snapshot) : ConditionRecord :=
  snap.compute true snap.baseSequence (snap.masses q.overrides)

end Sys2Proof.Machine
end

