-- ==== Sys2Proof/Machine/Plant.lean ====
section
/-! DEFINITION. The held steps and the plant they move: records and notices (R87, R109), lineups (R119), winding down and removal (R101, R102, R128), pump and valve faults (R121 to R125, R129), locks (R37, R104), and the judgement of feedback (R120, R122 to R125). -/

namespace Sys2Proof.Machine

/-! ### Steps and their records -/

/-- The tanks a step names, its source first (R87). -/
def StepRec.tanks (x : StepRec) : List TankNo := x.source.toList ++ x.dest.toList

/-- Whether a step names a tank (R87). -/
def StepRec.names (x : StepRec) (t : TankNo) : Bool := x.tanks.contains t

/-- The target tank: the destination of a BALLAST step, the source of the others (R87). -/
def StepRec.targetTank (x : StepRec) : Option TankNo := if x.kind = .ballast then x.dest else x.source

/-- Whether a step is a main step (R113). -/
def StepKind.main (k : StepKind) : Bool := k != .strip

/-- Whether a state is one a cause of R101 winds down: LINEUP, RAMP or RUN. -/
def StepState.running : StepState → Bool
  | .lineup | .ramp | .run => true
  | _ => false

/-- Whether a state is one from which a step is removed without a wind-down: QUEUED or WAITING. -/
def StepState.waitingOrQueued : StepState → Bool
  | .queued | .waiting => true
  | _ => false

/-- A held step's record is replaced. -/
def State.setStep (k : SlotNo) (x : StepRec) (s : State) : State :=
  { s with tsq := { s.tsq with slots := s.tsq.slots.set k (some x) } }

/-- The content of a STEP_STATE notice (R109). -/
def stepContent (k : SlotNo) (x : StepRec) (state : Nat) (out : Option StepOutcome) (d : Option Disposition)
    (callTime : Nat) : List Byte :=
  u8 k.val ++ u8 x.number ++ u8 x.kind.code ++ u8 state ++ u8 (ixOrNone x.grantedPump)
    ++ u8 (orNone StepOutcome.code out) ++ u8 (orNone Disposition.code d) ++ u32 callTime

/-- An admitted step changes its state, and its STEP_STATE notice is made pending (R109). -/
def State.enterState (k : SlotNo) (x : StepRec) (s : State) : State :=
  (s.setStep k x).notify (.stepState k) (stepContent k x x.state.code x.outcome none s.ccl.callTime)

/-! ### Lineups (R119) -/

/-- The valve TV of a tank (section 1.6). -/
def tankValve (t : TankNo) : ValveNo := ⟨t.val, by omega⟩
/-- The tank of a tank valve; none for the sea and overboard valves. -/
def tankOf (v : ValveNo) : Option TankNo := index v.val 16
/-- The sea valve of a main pump (section 1.6). -/
def seaValve (p : PumpNo) : ValveNo := if p = 0 then 16 else 18
/-- The overboard valve of a pump (section 1.6). -/
def overboardValve (p : PumpNo) : ValveNo := if p = 0 then 17 else if p = 1 then 19 else 20

/-- The lineup of a step on a pump (R119). -/
def StepRec.lineup (x : StepRec) (p : PumpNo) : List ValveNo :=
  match x.kind with
  | .ballast => seaValve p :: (x.dest.map tankValve).toList
  | .deballast => (x.source.map tankValve).toList ++ [overboardValve p]
  | .shift => (x.source.map tankValve).toList ++ (x.dest.map tankValve).toList
  | .strip => (x.source.map tankValve).toList ++ [overboardValve 2]

/-- The lineup valves of a granted step. -/
def StepRec.valves (x : StepRec) : List ValveNo :=
  match x.grantedPump with
  | none => []
  | some p => x.lineup p

/-! ### Looking up -/

/-- The active steps, in queue order (R113). -/
def Tsq.active (q : Tsq) : List (SlotNo × StepRec) :=
  q.order.filterMap fun k =>
    match q.slots[k] with
    | some x => if x.state.active then some (k, x) else none
    | none => none

/-- The active step whose granted pump is `p` (R115). -/
def Tsq.stepOn (q : Tsq) (p : PumpNo) : Option (SlotNo × StepRec) :=
  q.active.find? fun kx => kx.2.grantedPump == some p

/-- The active step whose lineup holds a valve; there is at most one (R115). -/
def Tsq.holder (q : Tsq) (v : ValveNo) : Option (SlotNo × StepRec) :=
  q.active.find? fun kx => kx.2.valves.contains v

/-- The number of the step held for a valve, or 0 (R129). -/
def Tsq.holderNumber (q : Tsq) (v : ValveNo) : Nat := ((q.holder v).map (·.2.number)).getD 0

/-- Whether a pump is BUSY for a step (R128). -/
def Pump.serves (y : Pump) (x : StepRec) : Bool := y.state == .busy && y.granted == some x.number

/-! ### Pumps and valves -/

/-- A pump record is replaced. -/
def State.setPump (p : PumpNo) (y : Pump) (s : State) : State :=
  { s with pva := { s.pva with pumps := s.pva.pumps.set p y } }

/-- A valve record is replaced. -/
def State.setValve (v : ValveNo) (y : Valve) (s : State) : State :=
  { s with pva := { s.pva with valves := s.pva.valves.set v y } }

/-- A valve is commanded OPEN, its OPENING watch at the travel time (R119). -/
def Valve.opened (now travel : Nat) (y : Valve) : Valve :=
  { y with open_ := true, watch := .opening (now + seconds travel) }

/-- A valve commanded OPEN is commanded CLOSED; it has proved closed already, or its CLOSING watch is set (R128). -/
def Valve.shut (now travel : Nat) (y : Valve) : Valve :=
  if y.open_ then
    { y with open_ := false
             watch := if y.proved = .closed then .absent else .closing (now + seconds travel) }
  else y

/-- A valve of a lineup is commanded OPEN. -/
def State.openValve (v : ValveNo) (s : State) : State :=
  s.setValve v (s.pva.valves[v].opened s.now s.cfg.valves[v].travel)

/-- A valve is commanded CLOSED, where it is commanded OPEN. -/
def State.closeValve (v : ValveNo) (s : State) : State :=
  s.setValve v (s.pva.valves[v].shut s.now s.cfg.valves[v].travel)

/-- Valves are commanded CLOSED (R128). -/
def State.closeValves (l : List ValveNo) (s : State) : State := l.foldl (fun s v => s.closeValve v) s

/-- A pump's gear becomes 0 and its run command OFF at once; its gear timer, STARTING watch and no-flow timer are removed; a STOPPING watch is set when the run command was ON, unless the pump is proved STOPPED (R125, R128, R130, R134). -/
def Pump.halted (now start : Nat) (y : Pump) : Pump :=
  { y with
    gear := .g0, gearUntil := none, noFlowUntil := none, run := false
    watch :=
      if y.run then
        if y.proof = .stopped then .absent else .stopping (now + seconds start)
      else match y.watch with
        | .starting _ => .absent
        | w => w }

/-- A pump is halted. -/
def State.haltPump (p : PumpNo) (s : State) : State :=
  s.setPump p (s.pva.pumps[p].halted s.now s.cfg.pumps[p].startTime)

/-- A pump at a fault: halted without a watch, FAULTED, its granted step cleared (R124). -/
def Pump.faulted (y : Pump) : Pump :=
  { y with
    gear := .g0, gearUntil := none, noFlowUntil := none, run := false, watch := .absent
    state := .faulted, granted := none }

/-! ### The candidates (R95, R114) -/

/-- Whether a named tank is stale. -/
def State.stepStale (x : StepRec) (s : State) : Bool := x.tanks.any fun t => s.tanks[t].stale

/-- A candidate list after one WAITING step is offered or withheld (R95, R114). -/
def offerOne (grants number : Nat) (stale : Bool) (l : List Candidate) : List Candidate :=
  if l.any fun c => c.step == number then
    l.map fun c => if c.step == number then { c with withheld := stale } else c
  else if stale then l
  else l ++ [⟨number, grants, false⟩]

/-- TSQ offers the WAITING steps afresh, in queue order; a step with a stale tank is withheld (R95). -/
def State.offer (s : State) : State :=
  s.tsq.order.foldl
    (fun s k =>
      match s.tsq.slots[k] with
      | some x =>
        if x.state = .waiting then
          { s with pva := { s.pva with
            candidates := offerOne s.pva.grants x.number (s.stepStale x) s.pva.candidates } }
        else s
      | none => s) s

/-- A step leaves WAITING: PVA removes it from its list and clears its pin when it is the pinned step, and TSQ offers the others (R95, R114, R118). -/
def State.leaveWaiting (number : Nat) (s : State) : State :=
  State.offer
    { s with pva := { s.pva with
      candidates := s.pva.candidates.filter fun c => c.step != number
      pin := if s.pva.pin = some number then none else s.pva.pin } }

/-! ### Removal (R102, R103, R128) -/

/-- Steps 1 to 3 of R102: the step leaves its slot and the queue order, its end record goes to RCU, and its STEP_STATE notice is made pending. -/
def State.removeStep (k : SlotNo) (x : StepRec) (out : StepOutcome) (d : Disposition) (s : State) : State :=
  let s := { s with tsq := { s.tsq with
    slots := s.tsq.slots.set k none
    order := s.tsq.order.filter fun j => j != k } }
  let s := s.stepEnd x out d
  s.notify (.stepState k) (stepContent k x removedCode (some out) (some d) s.ccl.callTime)

/-- A QUEUED or WAITING step is removed with disposition CANCELLED (R103). -/
def State.dropStep (k : SlotNo) (x : StepRec) (out : StepOutcome) (s : State) : State :=
  let s := s.removeStep k x out .cancelled
  if x.state = .waiting then s.leaveWaiting x.number else s

/-- The main-line mode after a removal (R113). -/
def State.settleMode (s : State) : State :=
  if s.tsq.active.any fun kx => kx.2.kind.main then s
  else { s with pva := { s.pva with mode := .idle } }

/-- The disposition of a step that was granted, from its outcome, its fault mark and its valves that failed to close (R102). -/
def StepRec.disposition (x : StepRec) (out : StepOutcome) : Disposition :=
  if out = .pump ∨ out = .valve ∨ x.faultMark ∨ x.closeFailed ≠ [] then .faulted else .done

/-- A pump that is BUSY for a removed step becomes FREE (R128). -/
def State.releasePump (x : StepRec) (s : State) : State :=
  match x.grantedPump with
  | none => s
  | some p =>
    let y := s.pva.pumps[p]
    if y.serves x then s.setPump p { y with state := .free, granted := none } else s

/-- Whether every lineup valve has proved closed or failed to close (R128). -/
def State.lineupClosed (x : StepRec) (s : State) : Bool :=
  x.valves.all fun v => !s.pva.valves[v].open_ && s.pva.valves[v].watch == .absent

/-- The wind-down of a step is judged: when it is complete, the step is removed, its pump is released and the main-line mode is set (R102, R113, R128). -/
def State.checkClosed (k : SlotNo) (s : State) : State :=
  match s.tsq.slots[k] with
  | none => s
  | some x =>
    if x.state = .windDown ∧ s.lineupClosed x then
      let out := x.outcome.getD .cancelled
      let s := (s.removeStep k x out (x.disposition out)).releasePump x
      if x.kind.main then s.settleMode else s
    else s

/-! ### Winding down (R101, R128) -/

/-- The lineup valves of a held step are closed (R128). -/
def State.closeLineup (k : SlotNo) (s : State) : State :=
  match s.tsq.slots[k] with
  | none => s
  | some x => s.closeValves x.valves

/-- PVA winds a step down, by the state of its pump (R128). -/
def State.plantWindDown (k : SlotNo) (x : StepRec) (s : State) : State :=
  match x.grantedPump with
  | none => s
  | some p =>
    let y := s.pva.pumps[p]
    if y.serves x && y.gear != .g0 then
      s.setPump p { y with gearUntil := some (s.now + seconds s.cfg.pumps[p].gearInterval), noFlowUntil := none }
    else (s.closeLineup k).checkClosed k

/-- A step in LINEUP, RAMP or RUN enters WIND_DOWN with an outcome; any other step is left as it stands (R101). -/
def State.windDown (k : SlotNo) (out : StepOutcome) (s : State) : State :=
  match s.tsq.slots[k] with
  | none => s
  | some x =>
    if x.state.running then
      let x := { x with state := .windDown, outcome := some out }
      (s.enterState k x).plantWindDown k x
    else s

/-- A held step is ended by a lock, a cancel or a change of bounds: removed before its grant, wound down after it (R103, R104, R106). -/
def State.endStep (k : SlotNo) (out : StepOutcome) (s : State) : State :=
  match s.tsq.slots[k] with
  | none => s
  | some x => if x.state.waitingOrQueued then s.dropStep k x out else s.windDown k out

/-- What TSQ does to each admitted step that `which` picks, in queue order. -/
def State.forSteps (which : StepRec → Bool) (act : SlotNo → State → State) (s : State) : State :=
  s.tsq.order.foldl
    (fun s k =>
      match s.tsq.slots[k] with
      | some x => if which x then act k s else s
      | none => s) s

/-! ### Grants (R115 to R119) -/

/-- The candidates in queue order, each with its slot and record (R114). -/
def State.candidateList (s : State) : List (SlotNo × StepRec × Candidate) :=
  s.tsq.order.filterMap fun k =>
    match s.tsq.slots[k] with
    | none => none
    | some x => (s.pva.candidates.find? fun c => c.step == x.number).map fun c => (k, x, c)

/-- The kind, choice and main-line conditions of R115. -/
def StepRec.fitsPump (x : StepRec) (p : PumpNo) (mode : MainMode) : Bool :=
  (if x.kind = .strip then p == 2 else p != 2)
    && (x.choice == none || x.choice == some p)
    && match x.kind with
      | .ballast => mode == .fill || mode == .idle
      | .deballast => mode == .drain || mode == .idle
      | .shift => mode == .idle
      | .strip => true

/-- Whether a candidate can use a pump (R115). -/
def State.canUse (p : PumpNo) (x : StepRec) (c : Candidate) (s : State) : Bool :=
  let y := s.pva.pumps[p]
  x.fitsPump p s.pva.mode
    && y.state == .free && y.watch == .absent && (s.tsq.stepOn p).isNone
    && (x.tanks.all fun t => s.tsq.active.all fun kx => !kx.2.names t)
    && ((x.lineup p).all fun v =>
        s.pva.valves[v].watch == .absent && !s.pva.valves[v].open_ && !s.pva.valves[v].faulted)
    && !c.withheld
    && !s.pins.emergency

/-- The first in the list of lowest waiting mark. -/
def lowestMark : List (SlotNo × StepRec × Candidate) → Option (SlotNo × StepRec × Candidate)
  | [] => none
  | a :: l =>
    match lowestMark l with
    | none => some a
    | some b => if b.2.2.mark < a.2.2.mark then some b else some a

/-- The fairness winner among the candidates that can use a pump whose memory is `memory` (R117). -/
def fairnessWinner (memory : Option (StepClass × Nat)) (usable : List (SlotNo × StepRec × Candidate)) :
    Option (SlotNo × StepRec × Candidate) :=
  match memory with
  | some (.urgent, serial) =>
    lowestMark (usable.filter fun e => e.2.1.cls == .normal && decide (e.2.2.mark < serial))
  | _ => none

/-- The winner of a decision on a pump among the candidates that the event in hand does not take from WAITING, which the decision passes by (R96, R116, R117, R118). -/
def State.winnerBut (passed : StepRec → Bool) (p : PumpNo) (s : State) : Option SlotNo :=
  let usable := s.candidateList.filter fun e => !passed e.2.1 && s.canUse p e.2.1 e.2.2
  match s.pva.pin with
  | some n => (usable.find? fun e => e.2.1.number == n).map (·.1)
  | none =>
    match fairnessWinner s.pva.pumps[p].fairness usable with
    | some e => some e.1
    | none =>
      match usable.find? fun e => e.2.1.cls == .urgent with
      | some e => some e.1
      | none => (usable.find? fun e => e.2.1.cls == .normal).map (·.1)

/-- The winner of a decision on a pump (R116). -/
def State.winner (p : PumpNo) (s : State) : Option SlotNo := s.winnerBut (fun _ => false) p

/-- The arbiter before a grant: a counter at its greatest value is set to 0, the fairness memories become absent and the waiting marks 0 (R114). -/
def Pva.beforeGrant (a : Pva) : Pva :=
  if a.grants = Config.maxU32 then
    { a with
      grants := 0
      pumps := Vector.ofFn fun p : Fin 3 => { a.pumps[p] with fairness := none }
      candidates := a.candidates.map fun c => { c with mark := 0 } }
  else a

/-- The main-line mode after a grant of a step of a kind (R113). -/
def MainMode.afterGrant (k : StepKind) (m : MainMode) : MainMode :=
  match m with
  | .idle =>
    match k with
    | .ballast => .fill
    | .deballast => .drain
    | .shift => .shift
    | .strip => .idle
  | m => m

/-- A pump is granted to a step, and the step enters LINEUP (R96, R113, R114, R117, R119). -/
def State.grant (p : PumpNo) (k : SlotNo) (s : State) : State :=
  match s.tsq.slots[k] with
  | none => s
  | some x =>
    let a := s.pva.beforeGrant
    let serial := a.grants + 1
    let y := { a.pumps[p] with state := .busy, granted := some x.number, fairness := some (x.cls, serial) }
    let s := { s with pva :=
      { a with pumps := a.pumps.set p y, mode := a.mode.afterGrant x.kind, grants := serial } }
    let s := (x.lineup p).foldl (fun s v => s.openValve v) s
    let s := s.enterState k { x with state := .lineup, grantedPump := some p, litres := 0 }
    s.leaveWaiting x.number

/-- The grant decision on one pump, passing some steps by (R96, R116). -/
def State.decidePump (passed : StepRec → Bool) (p : PumpNo) (s : State) : State :=
  match s.winnerBut passed p with
  | none => s
  | some k => s.grant p k

/-- The decisions on pumps 0, 1 and 2, in that order (R116). -/
def State.decideAll (passed : StepRec → Bool) (s : State) : State :=
  ((s.decidePump passed 0).decidePump passed 1).decidePump passed 2

/-- The grant decisions inside an event that is still to take some steps from WAITING, which are passed by; a grant is itself an event that changes the candidate list, so they are made until no pump can be granted, which three rounds reach (R96, R116; log entry 11). -/
def State.grantsBut (passed : StepRec → Bool) (s : State) : State :=
  ((s.decideAll passed).decideAll passed).decideAll passed

/-- The grant decisions that follow an event (R116). -/
def State.grants (s : State) : State := s.grantsBut fun _ => false

/-- What TSQ does to the held steps that an event ends, in queue order: each ends with the outcome, and the grant decisions its end opens pass by the others (R96, R104, R106, R116). -/
def State.endSteps (which : StepRec → Bool) (out : StepOutcome) (s : State) : State :=
  s.forSteps which fun k s => (s.endStep k out).grantsBut which

/-! ### Locks (R35, R37, R104) -/

/-- The code of a lock reason (R201). -/
def Lock.reasonCode : Lock → Nat
  | .unlocked => noneCode | .operator => 0 | .valve => 1

/-- A tank is locked with a reason: its lock is set and logged, TSQ acts on the steps that name it, and a recompute is requested (R35, R37, R104). -/
def State.lockTank (t : TankNo) (why : Lock) (s : State) : State :=
  let s := { s with tanks := s.tanks.set t { s.tanks[t] with lock := why } }
  let s := s.log .tankLock [t.val, why.reasonCode]
  (s.endSteps (·.names t) .locked).requestRecompute

/-- PVA reports that a valve has failed to prove closed: a tank valve's tank is locked, unless a VALVE lock stands (R37). -/
def State.failedToClose (v : ValveNo) (s : State) : State :=
  match tankOf v with
  | none => s
  | some t => if s.tanks[t].lock = .valve then s else s.lockTank t .valve

/-! ### Faults (R121, R124, R129) -/

/-- The causes of a valve fault (R201). -/
inductive ValveCause where | open_ | lost | close | uncommanded
deriving DecidableEq, Repr

/-- The code of a valve fault cause (R201). -/
def ValveCause.code : ValveCause → Nat | .open_ => 0 | .lost => 1 | .close => 2 | .uncommanded => 3

/-- The causes of a pump fault (R201). -/
inductive PumpCause where | start | lost | stop | uncommanded
deriving DecidableEq, Repr

/-- The code of a pump fault cause (R201). -/
def PumpCause.code : PumpCause → Nat | .start => 0 | .lost => 1 | .stop => 2 | .uncommanded => 3

/-- A valve is marked FAULTED. -/
def State.markValve (v : ValveNo) (s : State) : State := s.setValve v { s.pva.valves[v] with faulted := true }

/-- A valve fault is reported to LSL and logged (R121, R122, R129). LSL takes the report at once, so that its ALARM entry stands before the VALVE_FAULT entry; R174 leaves that order open, and it is the model's choice (log entry 23). -/
def State.reportValve (v : ValveNo) (why : ValveCause) (number : Nat) (s : State) : State :=
  (s.faultReport (.valve v)).log .valveFault [v.val, why.code, number]

/-- The fault mark of a step in WIND_DOWN is set (R101). -/
def State.markStep (k : SlotNo) (s : State) : State :=
  match s.tsq.slots[k] with
  | some x => if x.state = .windDown then s.setStep k { x with faultMark := true } else s
  | none => s

/-- A lineup fails at a valve: marked, the lineup closed, the fault reported and logged, and the step wound down with outcome VALVE (R121). -/
def State.lineupFailed (k : SlotNo) (v : ValveNo) (why : ValveCause) (number : Nat) (s : State) : State :=
  (((s.markValve v).closeLineup k).reportValve v why number).windDown k .valve

/-- A pump fault is found (R124, R125): the pump is halted and FAULTED, the fault is reported and logged, and the step the pump was BUSY for is wound down or marked. LSL's ALARM entry stands before the PUMP_FAULT entry: the model's choice, R174 leaving it open (log entry 23). -/
def State.pumpFault (p : PumpNo) (why : PumpCause) (s : State) : State :=
  let number := s.pva.pumps[p].granted.getD 0
  let slot := s.pva.pumps[p].granted.bind s.tsq.slotOf
  let s := s.setPump p s.pva.pumps[p].faulted
  let s := (s.faultReport (.pump p)).log .pumpFault [p.val, why.code, number]
  match slot with
  | none => s
  | some k =>
    match s.tsq.slots[k] with
    | none => s
    | some x =>
      if x.state = .windDown then ((s.markStep k).closeLineup k).checkClosed k else s.windDown k .pump

/-! ### Running (R97, R98, R99, R120, R123) -/

/-- The target tests of a step at the level a tank holds (R99). -/
def State.targetTest (x : StepRec) (t : TankNo) (s : State) : Option StepOutcome :=
  let level := s.tanks[t].level
  match x.kind with
  | .deballast | .strip => if x.source = some t ∧ level ≤ x.target then some .reached else none
  | .ballast => if x.dest = some t ∧ x.target ≤ level then some .reached else none
  | .shift =>
    if x.source = some t ∧ level ≤ x.target then some .reached
    else if x.dest = some t ∧ s.cfg.bounds[t].upper ≤ level then some .bound
    else none

/-- A step in RUN is tested at a tank; it winds down when a test is met (R99). -/
def State.testStep (k : SlotNo) (t : TankNo) (s : State) : State :=
  match s.tsq.slots[k] with
  | none => s
  | some x =>
    if x.state = .run then
      match s.targetTest x t with
      | some out => s.windDown k out
      | none => s
    else s

/-- A level is passed to TSQ: the tests of its tank are made, in queue order, and the candidates are offered afresh (R34, R95, R99). -/
def State.levelPassed (t : TankNo) (s : State) : State :=
  (s.forSteps (·.names t) fun k s => s.testStep k t).offer

/-- A tank goes stale at TSQ: the running steps that name it wind down, and the WAITING ones are withheld (R105). -/
def State.tankStale (t : TankNo) (s : State) : State :=
  (s.forSteps (fun x => x.names t && x.state.running) fun k s => s.windDown k .stale).offer

/-- A tank's new bounds at TSQ (R106): the steps whose target lies outside are ended, and the SHIFT steps in RUN into the tank are tested. -/
def State.boundsPassed (t : TankNo) (s : State) : State :=
  let b := s.cfg.bounds[t]
  let s := s.endSteps (fun x => x.targetTank == some t && !within b.lower b.upper x.target) .bound
  s.forSteps (fun x => x.kind == .shift && x.dest == some t) fun k s => s.testStep k t

/-- The step enters RUN when its ramp is complete and its pump is proved running: the no-flow timer starts unless the METER flag is set, the start volumes are recorded, and the target test is made (R98, R123, R126). -/
def State.checkRamp (k : SlotNo) (s : State) : State :=
  match s.tsq.slots[k] with
  | none => s
  | some x =>
    match x.grantedPump with
    | none => s
    | some p =>
      let y := s.pva.pumps[p]
      if x.state = .ramp ∧ y.gear = .g100 ∧ y.gearUntil = none ∧ y.watch = .absent then
        let s := if y.meter then s
          else s.setPump p { y with noFlowUntil := some (s.now + seconds s.cfg.pumps[p].noFlowTime) }
        let s := s.enterState k
          { x with
            state := .run
            startSource := x.source.map fun t => s.tanks[t].volume
            startDest := x.dest.map fun t => s.tanks[t].volume
            timeRun := some s.ccl.callTime }
        x.tanks.foldl (fun s t => s.testStep k t) s
      else s

/-- The step enters RAMP when every lineup valve has proved open, and PVA begins the ramp (R97, R120, R123). -/
def State.checkLineup (k : SlotNo) (s : State) : State :=
  match s.tsq.slots[k] with
  | none => s
  | some x =>
    match x.grantedPump with
    | none => s
    | some p =>
      if x.state = .lineup ∧ x.valves.all fun v => s.pva.valves[v].open_ && s.pva.valves[v].watch == .absent then
        let s := s.enterState k { x with state := .ramp }
        let y := s.pva.pumps[p]
        s.setPump p
          { y with
            run := true, gear := .g25
            gearUntil := some (s.now + seconds s.cfg.pumps[p].gearInterval)
            watch := if y.proof = .running then .absent else .starting (s.now + seconds s.cfg.pumps[p].startTime) }
      else s

/-! ### Feedback (R112, R120, R122, R124, R125, R128) -/

/-- What a delivered switch state shows of a valve (R26). -/
def Proved.of (active : Bool) : Proved := if active then .opened else .closed
/-- What a delivered switch state shows of a pump (R26). -/
def RunProof.of (active : Bool) : RunProof := if active then .running else .stopped

/-- The judgement of a change of proved state on a valve at rest and not FAULTED (R122). R122 gives no step number for the entry of cause UNCOMMANDED: the model gives the held step whose lineup holds the valve, in WIND_DOWN, and 0 where none does, as R129 words it for CLOSE (the model's choice, log entry 38). -/
def State.judgeAtRest (v : ValveNo) (was : Proved) (s : State) : State :=
  let y := s.pva.valves[v]
  if y.open_ then
    if was = .opened ∧ y.proved = .closed then
      match s.tsq.holder v with
      | none => s
      | some (k, x) =>
        match x.state with
        | .lineup => s.lineupFailed k v .lost x.number
        | .windDown => ((s.markValve v).reportValve v .lost x.number).markStep k
        | _ => (s.markValve v).reportValve v .lost x.number
    else s
  else if was ≠ .opened ∧ y.proved = .opened then
    ((s.markValve v).reportValve v .uncommanded (s.tsq.holderNumber v)).failedToClose v
  else s

/-- A debounced state is delivered to a valve (R112, R120, R122, R128). -/
def State.valveFeedback (v : ValveNo) (active : Bool) (s : State) : State :=
  let y := s.pva.valves[v]
  let was := y.proved
  let y := { y with proved := .of active }
  let s := s.setValve v y
  match y.watch with
  | .opening _ =>
    if active then
      let s := s.setValve v { y with watch := .absent }
      match s.tsq.holder v with
      | some (k, _) => s.checkLineup k
      | none => s
    else s
  | .closing _ =>
    if active then s
    else
      let s := s.setValve v { y with watch := .absent }
      match s.tsq.holder v with
      | some (k, _) => s.checkClosed k
      | none => s
  | .absent => if y.faulted then s else s.judgeAtRest v was

/-- Whether a pump whose run command is OFF and which has no run watch is at fault when it proves RUNNING (R125). -/
def State.uncommanded (p : PumpNo) (s : State) : Bool :=
  match s.pva.pumps[p].state with
  | .free | .tripped => true
  | .busy => (s.tsq.stepOn p).any fun kx => kx.2.state == .windDown
  | .faulted => false

/-- A debounced state is delivered to a pump's run-feedback (R124, R125). -/
def State.runFeedback (p : PumpNo) (active : Bool) (s : State) : State :=
  let y := s.pva.pumps[p]
  let was := y.proof
  let y := { y with proof := .of active }
  let s := s.setPump p y
  if y.state = .faulted then s
  else match y.watch with
  | .starting _ =>
    if active then
      let s := s.setPump p { y with watch := .absent }
      match s.tsq.stepOn p with
      | some (k, _) => s.checkRamp k
      | none => s
    else s
  | .stopping _ => if active then s else s.setPump p { y with watch := .absent }
  | .absent =>
    if y.run then
      if !active && was != .stopped then s.pumpFault p .lost else s
    else if active && was != .running && s.uncommanded p then s.pumpFault p .uncommanded
    else s

/-! ### Flow (R100, R126, R127) -/

/-- Litres are counted for the step on a pump (R100). -/
def State.countLitres (p : PumpNo) (s : State) : State :=
  match s.tsq.stepOn p with
  | none => s
  | some (k, x) =>
    s.setStep k { x with litres := satAdd Config.maxU32 x.litres s.cfg.pumps[p].litresPerPulse }

/-- The judgement of a pulse against the minimum pulse interval (R127). LSL's ALARM entry stands before the METER_FAULT entry: the model's choice, R174 leaving it open (log entry 23). -/
def State.judgePulse (p : PumpNo) (interval : Option Nat) (s : State) : State :=
  let y := s.pva.pumps[p]
  match interval with
  | none => s
  | some i =>
    if y.state = .busy ∧ y.meter = false ∧ i < s.cfg.pumps[p].minInterval then
      let s := s.setPump p { y with meter := true, noFlowUntil := none }
      (s.faultReport (.meter p)).log .meterFault [p.val, i, s.cfg.pumps[p].minInterval, y.granted.getD 0]
    else s

/-- A pulse restarts a running no-flow timer (R126). -/
def State.restartFlow (p : PumpNo) (s : State) : State :=
  let y := s.pva.pumps[p]
  if y.noFlowUntil.isSome then
    s.setPump p { y with noFlowUntil := some (s.now + seconds s.cfg.pumps[p].noFlowTime) }
  else s

/-- A flow pulse is delivered to a pump, with its interval (R100, R126, R127). -/
def State.pulse (p : PumpNo) (interval : Option Nat) (s : State) : State :=
  ((s.judgePulse p interval).restartFlow p).countLitres p

end Sys2Proof.Machine
end

