-- ==== Sys2Proof/Machine/Admission.lean ====
section
/-! DEFINITION. How steps come and go besides the plant: reservation (R88, R91), the decision on a prediction (R92, R93), gates (R94), and what RESTART and a move to SETUP do to steps and predictions (R47, R48, R108, R134). -/

namespace Sys2Proof.Machine

/-! ### Reservation (R88, R91) -/

/-- Whether a held step carries a number. -/
def Tsq.inUse (q : Tsq) (n : Nat) : Bool := (q.slotOf n).isSome

/-- The `i`-th number counting upward from the last assigned, wrapping from 255 to 1 (R88). -/
def stepNumberAfter (last i : Nat) : Nat := (last + i) % 255 + 1

/-- The number assigned at a reservation: the first, counting upward, that no held step carries (R88). -/
def Tsq.nextNumber (q : Tsq) : Nat :=
  (((List.range 255).map (stepNumberAfter q.lastNumber)).find? fun n => !q.inUse n).getD 1

/-- The lowest-numbered empty slot (R91). -/
def Tsq.freeSlot (q : Tsq) : Option SlotNo := (List.finRange 32).find? fun k => q.slots[k].isNone

/-- The record of a step at its reservation (R87, R91). -/
def StepRequest.reserved (r : StepRequest) (number : Nat) : StepRec :=
  { number := number, kind := r.kind, source := r.source, dest := r.dest, target := r.target
    choice := r.choice, cls := r.cls, gate := r.gate, state := .checking, cancelRequested := false
    grantedPump := none, outcome := none, faultMark := false, startSource := none, startDest := none
    litres := 0, timeAdmitted := none, timeRun := none, closeFailed := [] }

/-- A step is reserved in a slot, in CHECKING, and its prediction is requested (R91). -/
def State.reserveStep (r : StepRequest) (k : SlotNo) (reply : ReplyNo) (s : State) : State :=
  let n := s.tsq.nextNumber
  let s := { s with tsq := { s.tsq with
    slots := s.tsq.slots.set k (some (r.reserved n))
    checking := s.tsq.checking ++ [k], lastNumber := n } }
  s.queuePrediction { requester := .step n, reply := reply, includeAdmitted := true, overrides := [] }

/-! ### Gates (R94) -/

/-- Whether the edge a gate names has been taken (R94). -/
def Ptr.edgeTaken (p : Ptr) (g : Gate) : Bool :=
  match p.plan[g.pour - 1]? with
  | none => false
  | some e =>
    match g.edge with
    | .beginEdge => e.state != .planned
    | .endEdge => e.state == .poured

/-- A QUEUED step whose gate edge is taken moves to WAITING and is offered, and the grant decisions that its offer opens are made (R94, R95, R116). -/
def State.openGate (k : SlotNo) (s : State) : State :=
  match s.tsq.slots[k] with
  | some x => (s.enterState k { x with state := .waiting }).offer.grants
  | none => s

/-- PTR reports an edge: every QUEUED step whose gate names it moves to WAITING, in queue order (R94). -/
def State.takeEdge (g : Gate) (s : State) : State :=
  s.forSteps (fun x => x.state == .queued && x.gate == some g) State.openGate

/-! ### The decision on a prediction (R92, R93) -/

/-- Why a step in CHECKING is refused when its prediction completes; none when it is admitted (R92). -/
def State.refusal (x : StepRec) (r : ConditionRecord) (s : State) : Option Reason :=
  if x.cancelRequested then some .cancelled
  else if x.tanks.any fun t => s.tanks[t].lock != .unlocked then some .locked
  else if s.stepStale x then some .stale
  else if x.targetTank.any fun t => !within s.cfg.bounds[t].lower s.cfg.bounds[t].upper x.target then some .range
  else if r.bands.toList.contains .stop then some .limit
  else none

/-- The status of the reply of a refused step (R93). -/
def Reason.status : Reason → Status
  | .locked => .locked | .stale => .stale | .range => .range | .limit => .limit
  | .cancelled => .aborted | .restarted => .aborted | .aborted => .aborted

/-- A step in CHECKING leaves its slot, and the refusal is logged (R93, R108). -/
def State.refuseStep (k : SlotNo) (x : StepRec) (why : Reason) (s : State) : State :=
  let s := { s with tsq := { s.tsq with
    slots := s.tsq.slots.set k none
    checking := s.tsq.checking.filter fun j => j != k } }
  s.log .stepRefused [x.number, x.kind.code, why.code]

/-- A step in CHECKING is admitted: to WAITING, or to QUEUED behind a gate whose edge is not taken (R92). -/
def State.admitStep (k : SlotNo) (x : StepRec) (reply : ReplyNo) (r : ConditionRecord) (s : State) : State :=
  let waiting := x.gate.all s.ptr.edgeTaken
  let x := { x with state := if waiting then .waiting else .queued, timeAdmitted := some s.ccl.callTime }
  let s := { s with tsq := { s.tsq with
    order := s.tsq.order ++ [k]
    checking := s.tsq.checking.filter fun j => j != k } }
  let s := s.enterState k x
  let s := s.reply reply .ok (u8 x.number ++ u8 x.state.code ++ u8 r.overall.code)
  if waiting then s.offer else s

/-- TSQ decides a step in CHECKING on its prediction (R92, R93). -/
def State.decideStep (number : Nat) (reply : ReplyNo) (r : ConditionRecord) (s : State) : State :=
  match s.tsq.slotOf number with
  | none => s
  | some k =>
    match s.tsq.slots[k] with
    | none => s
    | some x =>
      match s.refusal x r with
      | none => s.admitStep k x reply r
      | some why =>
        let bands := if why = .limit then encodeBands r.bands else []
        (s.refuseStep k x why).reply reply why.status (u8 x.number ++ u8 why.code ++ bands)

/-! ### Abandoning (R47, R48, R108, R134) -/

/-- The predictions in flight and waiting, the one in flight first. -/
def Cen.requests (c : Cen) : List PredictionRequest :=
  (match c.inFlight with
    | some (.prediction q _) => [q]
    | _ => []) ++ c.queue

/-- The ABORTED reply of a prediction request: a STEP_ADD's body gives the step number and the reason (R47, R108). -/
def State.abort (why : Reason) (q : PredictionRequest) (s : State) : State :=
  match q.requester with
  | .step n => s.reply q.reply .aborted (u8 n ++ u8 why.code)
  | .predict _ => s.reply q.reply .aborted []

/-- Every prediction in flight or waiting is replied ABORTED, in queue order, the one in flight first (R47, R48). -/
def State.abortAll (why : Reason) (s : State) : State := s.cen.requests.foldl (fun s q => s.abort why q) s

/-- Every step in CHECKING is removed in order of reservation, with its refusal logged (R108). Its STEP_ADD is replied by the engine (R47, R48). -/
def State.removeChecking (why : Reason) (s : State) : State :=
  s.tsq.checking.foldl
    (fun s k =>
      match s.tsq.slots[k] with
      | none => s
      | some x => s.refuseStep k x why) s

/-- The disposition of an admitted step that RESTART removes (R108). -/
def StepRec.restartDisposition (x : StepRec) (out : StepOutcome) : Disposition :=
  if x.state.waitingOrQueued then .cancelled
  else if out = .pump ∨ out = .valve ∨ x.faultMark then .faulted else .done

/-- TSQ at RESTART: every admitted step is removed in queue order, then every step in CHECKING (R108). -/
def State.restartSteps (s : State) : State :=
  let s := s.forSteps (fun _ => true) fun k s =>
    match s.tsq.slots[k] with
    | some x =>
      let out := x.outcome.getD .restarted
      s.removeStep k x out (x.restartDisposition out)
    | none => s
  s.removeChecking .restarted

/-- The engine at RESTART: predictions are abandoned, each requester replied ABORTED in queue order, and a recompute is requested; a recompute in flight goes on (R47, R108; log entry 21). -/
def State.restartEngine (s : State) : State :=
  let s := s.abortAll .restarted
  let kept := match s.cen.inFlight with
    | some (.current snap) => some (Computation.current snap)
    | _ => none
  State.requestRecompute { s with cen := { s.cen with inFlight := kept, queue := [] } }

/-- The engine at a move into SETUP: all work is abandoned, every prediction replied ABORTED in order, and the pending flag cleared (R48). The body of a STEP_ADD's reply gives the step number and the reason ABORTED: the model's choice (log entry 40), since R108 names that reason for the entry alone. -/
def State.abandonEngine (s : State) : State :=
  let s := s.abortAll .aborted
  { s with cen := { s.cen with inFlight := none, queue := [], pendingCurrent := false } }

/-- PVA at RESTART, before the steps go: every pump is halted and every valve commanded OPEN is commanded CLOSED (R134). -/
def State.restartPlant (s : State) : State :=
  ((List.finRange 3).foldl (fun s p => s.haltPump p) s).closeValves (List.finRange 21)

/-- PVA at RESTART, once the steps are gone: BUSY pumps become FREE, the fairness memories, the pin and the candidates are cleared, the mode is IDLE and the grant counter 0 (R134). -/
def Pva.restarted (a : Pva) : Pva :=
  { a with
    pumps := Vector.ofFn fun p : Fin 3 =>
      let y := a.pumps[p]
      { y with
        state := if y.state = .busy then .free else y.state
        granted := none, fairness := none }
    mode := .idle, candidates := [], pin := none, grants := 0 }

end Sys2Proof.Machine
end

