-- ==== Sys2Proof/Machine/Metering.lean ====
section
/-! DEFINITION. The field channels and the tanks they feed: the level filter (R23, R24), the handing on of channel states (R25, R30), levels and tank figures (R31 to R34), switches (R26, R27) and pulses (R28). -/

namespace Sys2Proof.Machine

/-! ### Bindings (R19, R30) -/

/-- Whether a channel is in LEVEL mode with a bound tank. -/
def ChannelConfig.levelFor (c : ChannelConfig) (t : TankNo) : Bool :=
  match c with
  | .level _ _ _ _ bound => bound == some t
  | _ => false

/-- The LEVEL channels bound to a tank, ascending. -/
def ConfigTables.boundChannels (c : ConfigTables) (t : TankNo) : List ChannelNo :=
  (List.finRange 48).filter fun ch => c.channels[ch].levelFor t

/-- The level channel of a tank (R30). -/
def ConfigTables.levelChannel (c : ConfigTables) (t : TankNo) : Option ChannelNo :=
  if c.tanks[t].metered then (c.boundChannels t).head? else none

/-- The tank a LEVEL channel feeds (R25). -/
def ConfigTables.fedTank (c : ConfigTables) (ch : ChannelNo) : Option TankNo :=
  match c.channels[ch] with
  | .level _ _ _ _ (some t) => if c.levelChannel t = some ch then some t else none
  | _ => none

/-- The pumps whose run-feedback channel is named (R19). -/
def ConfigTables.runPumps (c : ConfigTables) (ch : ChannelNo) : List PumpNo :=
  (List.finRange 3).filter fun p => c.pumps[p].runChannel == some ch

/-- The pumps whose flow channel is named (R19). -/
def ConfigTables.flowPumps (c : ConfigTables) (ch : ChannelNo) : List PumpNo :=
  (List.finRange 3).filter fun p => c.pumps[p].flowChannel == some ch

/-- The valves whose feedback channel is named (R19). -/
def ConfigTables.boundValves (c : ConfigTables) (ch : ChannelNo) : List ValveNo :=
  (List.finRange 21).filter fun v => c.valves[v].channel == some ch

/-- Whether any pump or valve field names a channel (R19). -/
def ConfigTables.plantBound (c : ConfigTables) (ch : ChannelNo) : Bool :=
  !(c.runPumps ch).isEmpty || !(c.flowPumps ch).isEmpty || !(c.boundValves ch).isEmpty

/-- A channel's run state is replaced. -/
def State.setChannel (ch : ChannelNo) (r : ChannelRun) (s : State) : State :=
  { s with fcu := { s.fcu with channels := s.fcu.channels.set ch r } }

/-- A tank's run fields are replaced. -/
def State.setTank (t : TankNo) (x : TankRun) (s : State) : State :=
  { s with tanks := s.tanks.set t x }

/-! ### Tank figures (R31 to R34) -/

/-- A tank's figures at a level, from its sounding table and density (R31, R32). -/
def TankRun.at (table : List Point) (density level : Nat) (x : TankRun) : TankRun :=
  { x with
    level := level, volume := volumeAt table level
    mass := massOf (volumeAt table level) density, overTable := overTableAt table level }

/-- A tank's level is replaced and its figures worked out; a change of OVER_TABLE is reported or withdrawn (R31, R32). The ALARM entry of such a report is written at the update of a move to READY too, though R33 says the call log receives no entries from that work: the model's choice (log entry 32). -/
def State.figures (t : TankNo) (level : Nat) (s : State) : State :=
  let was := s.tanks[t].overTable
  let x := s.tanks[t].at s.cfg.soundings[t] s.cfg.tanks[t].density level
  let s := s.setTank t x
  if x.overTable = was then s
  else if x.overTable then s.faultReport (.overTable t)
  else s.faultWithdraw (.overTable t)

/-- A level is delivered to a tank (R34). -/
def State.deliverLevel (t : TankNo) (level : Nat) (s : State) : State :=
  if s.ccl.phase = .setup then s.setTank t { s.tanks[t] with level := level }
  else (s.figures t level).levelPassed t

/-- TKM brings every tank's figures up to date with the validated tables (R33). The tanks are taken in ascending order, which orders the ALARM entries of those whose OVER_TABLE changes and leaves the last of them in a pending ALARM notice: R33 gives no order, and this one is the model's choice (log entry 32). -/
def State.updateTanks (s : State) : State :=
  (List.finRange 16).foldl
    (fun s t => s.figures t (if s.cfg.tanks[t].metered then s.tanks[t].level else s.cfg.tanks[t].fixedLevel)) s

/-! ### Channel states handed on (R25, R30) -/

/-- The content of a SENSOR notice of a level channel: channel, tank, and VALID 0 or STALE 1 (R25, log entry 14). -/
def sensorContent (ch : Option ChannelNo) (t : Option TankNo) (stale : Bool) : List Byte :=
  u8 (ixOrNone ch) ++ u8 (ixOrNone t) ++ flag stale

/-- A tank goes stale (R25). -/
def State.goStale (ch : Option ChannelNo) (t : TankNo) (s : State) : State :=
  let s := s.setTank t { s.tanks[t] with stale := true }
  let s := s.log .sensorStale [ixOrNone ch, t.val]
  let s := s.notify .sensor (sensorContent ch (some t) true)
  (s.faultReport (.sensor t)).tankStale t

/-- A tank becomes VALID, taking a delivered level where there is one (R25, R30). -/
def State.goValid (ch : Option ChannelNo) (t : TankNo) (level : Option Nat) (s : State) : State :=
  let s := s.setTank t { s.tanks[t] with stale := false }
  let s := match level with
    | some n => s.deliverLevel t n
    | none => s
  let s := s.log .sensorValid [ixOrNone ch, t.val]
  let s := s.notify .sensor (sensorContent ch (some t) false)
  s.faultWithdraw (.sensor t)

/-- A LEVEL channel that feeds no tank changes state: the entry and the notice, and nothing else (R25). -/
def State.looseChange (ch : ChannelNo) (stale : Bool) (s : State) : State :=
  (s.log (if stale then .sensorStale else .sensorValid) [ch.val, noneCode]).notify .sensor
    (sensorContent (some ch) none stale)

/-- Whether a tank is to be STALE: it has no level channel, or its level channel is STALE (R30). -/
def State.shouldBeStale (t : TankNo) (s : State) : Bool :=
  match s.cfg.levelChannel t with
  | none => true
  | some ch =>
    match s.fcu.channels[ch] with
    | .level _ _ _ valid => !valid
    | _ => true

/-- A tank's STALE flag follows a changed binding or a reset channel, and a change is handed on (R30). -/
def State.rebindTank (t : TankNo) (s : State) : State :=
  if s.shouldBeStale t = s.tanks[t].stale then s
  else if s.shouldBeStale t then s.goStale (s.cfg.levelChannel t) t
  else s.goValid (s.cfg.levelChannel t) t none

/-- The STALE flags of all tanks follow a changed table (R30). -/
def State.rebindTanks (s : State) : State := (List.finRange 16).foldl (fun s t => s.rebindTank t) s

/-! ### Level samples (R22 to R24) -/

/-- The level of a sample; none where the sample is invalid (R23). -/
def sampleLevel (rawLo rawHi span faultBand raw : Nat) : Option Nat :=
  if rawHi ≤ rawLo ∨ raw + faultBand < rawLo ∨ rawHi + faultBand < raw then none
  else some (clampInt 0 span (roundDiv (((raw : Int) - rawLo) * span) ((rawHi : Int) - rawLo))).toNat

/-- The filtered level: the mean of a full window (R24). -/
def meanLevel (window : List Nat) : Nat := roundNat window.sum 4

/-- What a judged sample makes of a LEVEL channel (R24). -/
inductive FilterStep where
  /-- The filter takes this state; nothing is delivered. -/
  | quiet (window : List Nat) (invalidRun : Nat) (valid : Bool)
  /-- A VALID channel delivers its filtered level. -/
  | deliver (window : List Nat)
  /-- The channel becomes VALID and delivers its filtered level. -/
  | recover (window : List Nat)
  /-- The channel becomes STALE. -/
  | goStale
deriving DecidableEq, Repr

/-- The table of R24. -/
def filterStep (window : List Nat) (invalidRun : Nat) (valid : Bool) (level : Option Nat) : FilterStep :=
  match valid, level with
  | true, some n => .deliver (window.drop 1 ++ [n])
  | true, none => if invalidRun < 2 then .quiet window (invalidRun + 1) true else .goStale
  | false, some n => if window.length < 3 then .quiet (window ++ [n]) 0 false else .recover (window ++ [n])
  | false, none => .quiet [] 0 false

/-- A LEVEL channel takes a sample at a scan end; a channel in another mode takes none (R22 to R25). -/
def State.sampleChannel (ch : ChannelNo) (raw : Sample) (s : State) : State :=
  match s.cfg.channels[ch], s.fcu.channels[ch] with
  | .level lo hi span band _, .level _ window run valid =>
    let level := sampleLevel lo hi span band raw.toNat
    let last := some (raw, level.isSome)
    match filterStep window run valid level with
    | .quiet w n v => s.setChannel ch (.level last w n v)
    | .deliver w =>
      let s := s.setChannel ch (.level last w 0 true)
      match s.cfg.fedTank ch with
      | some t => s.deliverLevel t (meanLevel w)
      | none => s
    | .recover w =>
      let s := s.setChannel ch (.level last w 0 true)
      match s.cfg.fedTank ch with
      | some t => s.goValid (some ch) t (some (meanLevel w))
      | none => s.looseChange ch false
    | .goStale =>
      let s := s.setChannel ch (.level last [] 0 false)
      match s.cfg.fedTank ch with
      | some t => s.goStale (some ch) t
      | none => s.looseChange ch true
  | _, _ => s

/-- The next scan period begins where the one in progress ends, on the setting in force (R21). -/
def State.nextPeriod (s : State) : State :=
  { s with fcu := { s.fcu with scan := ⟨s.cfg.scan, s.fcu.scan.endsAt + scanPeriod s.cfg.scan⟩ } }

/-- The scan: every LEVEL channel in ascending order, each with the grant decisions it opens, and the recompute request behind them (R22, R116). -/
def State.scan (samples : Vector Sample 48) (s : State) : State :=
  ((List.finRange 48).foldl (fun s ch => (s.sampleChannel ch samples[ch]).grants) s).requestRecompute

/-! ### Switches (R26, R27) -/

/-- A debounced state is delivered to every pump field and valve field in SWITCH mode that names the channel, each delivery with the grant decisions it opens (R19, R26, R27, R116). -/
def State.deliverSwitch (ch : ChannelNo) (active : Bool) (s : State) : State :=
  let s := (s.cfg.runPumps ch).foldl (fun s p => (s.runFeedback p active).grants) s
  (s.cfg.boundValves ch).foldl (fun s v => (s.valveFeedback v active).grants) s

/-- The raw contact of a channel changes; a SWITCH channel notes the time and starts its timing afresh (R20, R26). -/
def State.contactChange (ch : ChannelNo) (s : State) : State :=
  match s.fcu.channels[ch] with
  | .switch d _ _ => s.setChannel ch (.switch d s.now (some s.now))
  | _ => s

/-- A switch channel's raw input has held a state it is not debounced to: the state is taken, and delivered or noticed (R26, R27). -/
def State.debounced (ch : ChannelNo) (s : State) : State :=
  match s.cfg.channels[ch], s.fcu.channels[ch] with
  | .switch _ notify, .switch was since changed =>
    let now := s.pins.contacts[ch]
    if was = some now then s
    else
      let s := s.setChannel ch (.switch (some now) since changed)
      if s.cfg.plantBound ch then s.deliverSwitch ch now
      else if notify && was.isSome then s.notify .sensor (u8 ch.val ++ flag now)
      else s
  | _, _ => s

/-- The state a pump's run-feedback field or a valve's field takes from a channel newly named: delivered when the channel is settled, else UNKNOWN; nothing when the channel is not in SWITCH mode (R19). -/
def ChannelRun.settled : ChannelRun → Option (Option Bool)
  | .switch d _ _ => some d
  | _ => none

/-- A pump's run-feedback field newly names a channel (R19). -/
def State.bindPump (p : PumpNo) (ch : ChannelNo) (s : State) : State :=
  match s.fcu.channels[ch].settled with
  | none => s
  | some (some active) => s.runFeedback p active
  | some none => s.setPump p { s.pva.pumps[p] with proof := .unknown }

/-- A valve's field newly names a channel (R19). -/
def State.bindValve (v : ValveNo) (ch : ChannelNo) (s : State) : State :=
  match s.fcu.channels[ch].settled with
  | none => s
  | some (some active) => s.valveFeedback v active
  | some none => s.setValve v { s.pva.valves[v] with proved := .unknown }

/-! ### Pulses (R28) -/

/-- A rising edge at a channel: a PULSE channel counts it, notes its time, and delivers it to each pump whose flow channel it is (R28). -/
def State.countPulse (ch : ChannelNo) (s : State) : State :=
  match s.fcu.channels[ch] with
  | .pulse count last =>
    let interval := last.map fun t => s.now - t
    let s := s.setChannel ch (.pulse (count + 1) (some s.now))
    (s.cfg.flowPumps ch).foldl (fun s p => s.pulse p interval) s
  | _ => s

end Sys2Proof.Machine
end

