-- ==== Sys2Proof/Machine/PlantCommands.lean ====
section
/-! DEFINITION. The commands of chapter 6: STEP_PIN (R118), FAULT_CLEAR (R132), PLANT_STATUS (R133), the emergency stop input (R130, R131), and the expiries of the plant's watches and timers (R121, R123 to R126, R128, R129). -/

namespace Sys2Proof.Machine

/-! ### The pin and the faults -/

/-- STEP_PIN (R118). -/
def judgeStepPin (number : Nat) (s : State) : Judged :=
  if number = 0 then taken (State.grants { s with pva := { s.pva with pin := none } })
  else match s.tsq.slotOf number with
    | none => refuse .unknown s
    | some k =>
      if s.tsq.slots[k].any fun x => x.state == .waiting then
        taken (State.grants { s with pva := { s.pva with pin := some number } })
      else refuse .state s

/-- A cleared pump's state (R132). -/
def clearedState (emergency : Bool) : PumpState := if emergency then .tripped else .free

/-- Whether a valve's proved state equals its commanded state (R132). -/
def Valve.agrees (y : Valve) : Bool := if y.open_ then y.proved == .opened else y.proved == .closed

/-- FAULT_CLEAR by its kind: the state it leaves, or none where it is refused with STATE (R132). -/
def State.clearFault (item : ClearItem) (s : State) : Option State :=
  match item with
  | .pump p =>
    let y := s.pva.pumps[p]
    if y.state = .faulted ∧ y.proof ≠ .running then
      some ((s.setPump p { y with state := clearedState s.pins.emergency }).faultWithdraw (.pump p))
    else none
  | .meter p =>
    let y := s.pva.pumps[p]
    if y.meter then
      let running := (s.tsq.stepOn p).any fun kx => kx.2.state == .run
      let timer := if running then some (s.now + seconds s.cfg.pumps[p].noFlowTime) else y.noFlowUntil
      some ((s.setPump p { y with meter := false, noFlowUntil := timer }).faultWithdraw (.meter p))
    else none
  | .valve v =>
    let y := s.pva.valves[v]
    if y.faulted ∧ y.watch = .absent ∧ y.agrees then
      some ((s.setValve v { y with faulted := false }).faultWithdraw (.valve v))
    else none
  | .trip =>
    if s.pins.emergency = false ∧ (List.finRange 3).any fun p => s.pva.pumps[p].state == .tripped then
      some { s with pva := { s.pva with
        pumps := Vector.ofFn fun p : Fin 3 =>
          let y := s.pva.pumps[p]
          { y with state := if y.state = .tripped then .free else y.state } } }
    else none

/-- FAULT_CLEAR (R132). -/
def judgeFaultClear (item : ClearItem) (s : State) : Judged :=
  match s.clearFault item with
  | none => refuse .state s
  | some s' => taken s'.grants

/-! ### PLANT_STATUS (R133) -/

/-- The code of a pump state, its place in R111. -/
def PumpState.code : PumpState → Nat | .free => 0 | .busy => 1 | .faulted => 2 | .tripped => 3
/-- The code of a run proof, its place in R111. -/
def RunProof.code : RunProof → Nat | .running => 0 | .stopped => 1 | .unknown => 2
/-- The code of a proved state, its place in R112. -/
def Proved.code : Proved → Nat | .opened => 0 | .closed => 1 | .unknown => 2
/-- The code of the main-line mode, its place in R113. -/
def MainMode.code : MainMode → Nat | .idle => 0 | .fill => 1 | .drain => 2 | .shift => 3

/-- A watch as PLANT_STATUS shows it: its place in its rule's list, and the seconds left; both NONE when it is absent (log entry 14). -/
def watchBytes (code : Nat) (until_ : Option Nat) (now : Nat) : List Byte :=
  match until_ with
  | none => u8 noneCode ++ u8 noneCode
  | some t => u8 code ++ u8 (shownSeconds (t - now))

/-- A run watch (R133). -/
def RunWatch.encode (now : Nat) : RunWatch → List Byte
  | .absent => watchBytes 0 none now
  | .starting t => watchBytes 1 (some t) now
  | .stopping t => watchBytes 2 (some t) now

/-- A travel watch (R133). -/
def TravelWatch.encode (now : Nat) : TravelWatch → List Byte
  | .absent => watchBytes 0 none now
  | .opening t => watchBytes 1 (some t) now
  | .closing t => watchBytes 2 (some t) now

/-- A pump in PLANT_STATUS (R133). -/
def Pump.encode (now : Nat) (y : Pump) : List Byte :=
  u8 y.state.code ++ u8 (y.granted.getD 0) ++ flag y.run ++ u8 y.gear.percent ++ u8 y.proof.code
    ++ y.watch.encode now ++ flag y.meter
    ++ u8 (orNone (fun m => m.1.code) y.fairness) ++ u32 (orNone (fun m => m.2) y.fairness)

/-- A valve in PLANT_STATUS (R133); OPEN is 0 and CLOSED 1, their places in R112. -/
def Valve.encode (now : Nat) (y : Valve) : List Byte :=
  flag (!y.open_) ++ u8 y.proved.code ++ y.watch.encode now ++ flag y.faulted

/-- The reply body of PLANT_STATUS (R133). -/
def State.plantBody (part : PlantPart) (s : State) : List Byte :=
  match part with
  | .pumps =>
    (List.finRange 3).flatMap (fun p => s.pva.pumps[p].encode s.now)
      ++ u8 s.pva.mode.code ++ u8 (s.pva.pin.getD 0) ++ flag s.pins.emergency ++ u32 s.pva.grants
  | .valves => (List.finRange 21).flatMap fun v => s.pva.valves[v].encode s.now
  | .candidates =>
    u8 s.candidateList.length
      ++ s.candidateList.flatMap fun e =>
          u8 e.2.1.number ++ u8 e.2.1.cls.code ++ u32 e.2.2.mark ++ flag e.2.2.withheld

/-! ### The emergency stop input -/

/-- A pump at a trip (R130). -/
def Pump.tripped (y : Pump) : Pump :=
  if y.state = .faulted then y else { y with state := .tripped, granted := none }

/-- The number of pumps that become TRIPPED (R130, log entry 12). -/
def Pva.toTrip (a : Pva) : Nat :=
  ((List.finRange 3).filter fun p => a.pumps[p].state == .free || a.pumps[p].state == .busy).length

/-- Every pump trips (R130). -/
def State.tripPumps (s : State) : State :=
  { s with pva := { s.pva with pumps := Vector.ofFn fun p : Fin 3 => s.pva.pumps[p].tripped } }

/-- PVA reports the activation to LSL and logs it with the pumps tripped and the steps sent to WIND_DOWN (R130). LSL and PMU take the report before the entry is written, so that a STOP_ON entry and a PERMIT_CHANGE entry stand before EMERGENCY_ON; R130 and R174 leave that order open, and it is the model's choice (log entry 23). -/
def State.reportEmergency (pumps steps : Nat) (s : State) : State :=
  (s.emergencyReport true).log .emergencyOn [pumps, steps]

/-- The steps at an activation: those in LINEUP, RAMP or RUN wind down as TRIPPED, and a wind-down that is complete is ended (R107, R130). -/
def State.tripSteps (s : State) : State :=
  s.forSteps (fun x => x.state.active) fun k s => (s.windDown k .tripped).checkClosed k

/-- The activation of the emergency stop input (R130). -/
def State.emergencyOn (s : State) : State :=
  let pumps := s.pva.toTrip
  let steps := (s.tsq.active.filter fun kx => kx.2.state.running).length
  let s := ((List.finRange 3).foldl (fun s p => s.haltPump p) s).tripPumps
  let s := s.tsq.active.foldl (fun s kx => s.closeValves kx.2.valves) s
  (s.tripSteps).reportEmergency pumps steps

/-- The release of the emergency stop input (R131). A STOP_OFF entry and a PERMIT_CHANGE entry that the report brings stand before EMERGENCY_OFF; R131 and R174 leave that order open, and it is the model's choice (log entry 23). -/
def State.emergencyOff (s : State) : State := (s.emergencyReport false).log .emergencyOff []

/-! ### Expiries -/

/-- The OPENING watch of a valve expires: its lineup fails (R121). -/
def State.openTimeout (v : ValveNo) (s : State) : State :=
  match s.pva.valves[v].watch, s.tsq.holder v with
  | .opening _, some (k, x) => s.lineupFailed k v .open_ x.number
  | _, _ => s

/-- A lineup valve of a step in WIND_DOWN failed to close (R102, R129). -/
def State.addCloseFailed (v : ValveNo) (k : SlotNo) (s : State) : State :=
  match s.tsq.slots[k] with
  | some x => s.setStep k { x with closeFailed := x.closeFailed ++ [v] }
  | none => s

/-- The CLOSING watch of a valve expires (R129). -/
def State.closeTimeout (v : ValveNo) (s : State) : State :=
  match s.pva.valves[v].watch with
  | .closing _ =>
    let holder := s.tsq.holder v
    let number := s.tsq.holderNumber v
    let s := s.setValve v { s.pva.valves[v] with watch := .absent, faulted := true }
    let s := (s.reportValve v .close number).failedToClose v
    match holder with
    | some (k, _) => (s.addCloseFailed v k).checkClosed k
    | none => s
  | _ => s

/-- The gear timer of a pump expires in RAMP (R123). -/
def State.rampExpiry (p : PumpNo) (s : State) : State :=
  let y := s.pva.pumps[p]
  match y.gearUntil, s.tsq.stepOn p with
  | some _, some (k, x) =>
    if x.state = .ramp then
      if y.gear = .g100 then (s.setPump p { y with gearUntil := none }).checkRamp k
      else s.setPump p
        { y with gear := y.gear.up, gearUntil := some (s.now + seconds s.cfg.pumps[p].gearInterval) }
    else s
  | _, _ => s

/-- The gear timer of a pump expires in WIND_DOWN (R128). -/
def State.windDownExpiry (p : PumpNo) (s : State) : State :=
  let y := s.pva.pumps[p]
  match y.gearUntil, s.tsq.stepOn p with
  | some _, some (k, x) =>
    if x.state = .windDown then
      if y.gear.down = .g0 then ((s.haltPump p).closeLineup k).checkClosed k
      else s.setPump p
        { y with gear := y.gear.down, gearUntil := some (s.now + seconds s.cfg.pumps[p].gearInterval) }
    else s
  | _, _ => s

/-- The STARTING watch of a pump expires (R124). -/
def State.startTimeout (p : PumpNo) (s : State) : State :=
  match s.pva.pumps[p].watch with
  | .starting _ => s.pumpFault p .start
  | _ => s

/-- The STOPPING watch of a pump expires (R125). -/
def State.stopTimeout (p : PumpNo) (s : State) : State :=
  match s.pva.pumps[p].watch with
  | .stopping _ => s.pumpFault p .stop
  | _ => s

/-- The no-flow timer of a pump expires: the timer goes, and the step in RUN winds down (R126). -/
def State.flowTimeout (p : PumpNo) (s : State) : State :=
  match s.pva.pumps[p].noFlowUntil, s.tsq.stepOn p with
  | none, _ => s
  | some _, none => s.setPump p { s.pva.pumps[p] with noFlowUntil := none }
  | some _, some (k, _) =>
    (s.setPump p { s.pva.pumps[p] with noFlowUntil := none }).windDown k .noFlow

/-! ### The commands -/

/-- STEP_PIN (R118). -/
def execStepPin (tag : Tag) (body : List Byte) (s : State) : Result :=
  .next (s.serve 0x61 tag fun _ => anyPhase (lengthIs 1 body) (some (field body 0 1)) judgeStepPin)

/-- FAULT_CLEAR (R132). -/
def execFaultClear (tag : Tag) (body : List Byte) (s : State) : Result :=
  .next (s.serve 0x62 tag fun _ => anyPhase (lengthIs 2 body) (parseFaultClear body) judgeFaultClear)

/-- PLANT_STATUS (R133). -/
def execPlantStatus (tag : Tag) (body : List Byte) (s : State) : Result :=
  .next (s.serve 0x63 tag fun _ =>
    anyPhase (lengthIs 1 body) (parsePlantStatus body) fun part s => taken s (s.plantBody part))

/-- EMERGENCY_STOP_ACTIVATION: the input becomes active with or without power; a powered controller trips (R130). -/
def execEmergencyStopActivation (s : State) : Result :=
  if s.pins.emergency then .next s
  else .next (State.event State.emergencyOn { s with pins := { s.pins with emergency := true } })

/-- EMERGENCY_STOP_RELEASE (R131). -/
def execEmergencyStopRelease (s : State) : Result :=
  if s.pins.emergency then
    .next (State.event State.emergencyOff { s with pins := { s.pins with emergency := false } })
  else .next s

/-- VALVE_OPEN_TIMEOUT (R121). -/
def execValveOpenTimeout (valve : ValveNo) (s : State) : Result :=
  .next (s.event fun s => (s.openTimeout valve).grants)

/-- VALVE_CLOSE_TIMEOUT (R129). -/
def execValveCloseTimeout (valve : ValveNo) (s : State) : Result :=
  .next (s.event fun s => (s.closeTimeout valve).grants)

/-- RAMP_GEAR_EXPIRY (R123). A ramp that completes may at once meet its target, whose wind-down opens no grant. -/
def execRampGearExpiry (pump : PumpNo) (s : State) : Result :=
  .next (s.event fun s => s.rampExpiry pump)

/-- WIND_DOWN_GEAR_EXPIRY (R128). -/
def execWindDownGearExpiry (pump : PumpNo) (s : State) : Result :=
  .next (s.event fun s => (s.windDownExpiry pump).grants)

/-- PUMP_START_TIMEOUT (R124). -/
def execPumpStartTimeout (pump : PumpNo) (s : State) : Result :=
  .next (s.event fun s => (s.startTimeout pump).grants)

/-- PUMP_STOP_TIMEOUT (R125). -/
def execPumpStopTimeout (pump : PumpNo) (s : State) : Result :=
  .next (s.event fun s => (s.stopTimeout pump).grants)

/-- NO_FLOW_EXPIRY (R126). The step it winds down gears down first, which opens no grant. -/
def execNoFlowExpiry (pump : PumpNo) (s : State) : Result :=
  .next (s.event fun s => s.flowTimeout pump)

end Sys2Proof.Machine
end

