-- ==== Sys2Proof/Machine/Store.lean ====
section
/-! DEFINITION. The items of the settings store: what an item consists of, how it is formed when its write completes, and how it is read and checked at power-on (R212 to R214). -/

namespace Sys2Proof.Machine

/-- How a kind of item is stored: its format version, and its content as bytes. -/
structure ItemFormat (α : Type) where
  version : Byte
  bytes : α → List Byte

/-- The CONFIG item (R212, log entry 7). -/
def configFormat : ItemFormat ConfigTables := ⟨Config.configVersion, Config.configBytes⟩

/-- The REPORT item: the report record byte for byte, and behind it the slot serial it carried (R212, log entry 7). -/
def reportFormat : ItemFormat Report := ⟨Config.reportVersion, fun r => r.bytes ++ u16 r.serial⟩

/-- The length of an item with a content, in bytes (R212). -/
def ItemFormat.length {α : Type} (f : ItemFormat α) (content : α) : BitVec 16 :=
  BitVec.ofNat 16 (f.bytes content).length

/-- The CRC-32 over an item's format version, length and content, in that order (R187, R212; log entry 7). -/
def ItemFormat.crc {α : Type} (f : ItemFormat α) (version : Byte) (length : BitVec 16) (content : α) : BitVec 32 :=
  crc32 (version :: (u16 length.toNat ++ f.bytes content))

/-- The item formed of a content (R212). -/
def ItemFormat.form {α : Type} (f : ItemFormat α) (content : α) : StoredItem α :=
  { version := f.version, length := f.length content, content := content
    crc := f.crc f.version (f.length content) content }

/-- Whether an item passes the check of power-on: its format version is known, its length fits the item, and its CRC agrees (R212). -/
def ItemFormat.passes {α : Type} (f : ItemFormat α) (x : StoredItem α) : Bool :=
  x.version == f.version && x.length == f.length x.content && x.crc == f.crc x.version x.length x.content

/-- An item as it is read, with what the read shows changed in it. -/
def StoredItem.read {α : Type} (e : StoreErrors) (x : StoredItem α) : StoredItem α :=
  { x with version := x.version ^^^ e.version, length := x.length ^^^ e.length, crc := x.crc ^^^ e.crc }

/-- An item whose write completes: VALID when the item read back agrees with the snapshot, else INVALID (R213). -/
def Stored.written {α : Type} (f : ItemFormat α) (agrees : Bool) : Stored α → Stored α
  | .writing x => if agrees then .valid (f.form x) else .invalid
  | x => x

/-- An item after a loss of power: one that was being written is INVALID, its CRC not yet written (R214). -/
def Stored.kept {α : Type} : Stored α → Stored α
  | .valid x => .valid x
  | _ => .invalid

/-- An item as power-on finds it: VALID when it was kept whole and passes its check as it is read (R212). -/
def Stored.read {α : Type} (f : ItemFormat α) (e : StoreErrors) : Stored α → Stored α
  | .valid x => if f.passes (x.read e) then .valid (x.read e) else .invalid
  | _ => .invalid

/-- The content of an item that is VALID. -/
def Stored.content? {α : Type} : Stored α → Option α
  | .valid x => some x.content
  | _ => none

/-- The code of an item's state, its place in R212. -/
def Stored.code {α : Type} : Stored α → Nat
  | .invalid => 0 | .writing _ => 1 | .valid _ => 2

/-- The store after a loss of power (R214). -/
def Sst.powerLost (x : Sst) : Sst := { writer := none, config := x.config.kept, report := x.report.kept }

/-- The store as power-on finds it, its writer IDLE (R212). -/
def Sst.atPowerOn (config report : StoreErrors) (x : Sst) : Sst :=
  { writer := none, config := x.config.read configFormat config, report := x.report.read reportFormat report }

end Sys2Proof.Machine
end

