-- ==== Sys2Proof/Machine/CallCommands.lean ====
section
/-! DEFINITION. The commands of chapter 11: PHASE_SET with the validation of the tables (R17, R207 to R211), the settings store (R213 to R215), power (R214, R216) and RESTART (R217). -/

namespace Sys2Proof.Machine

/-! ### Validation (R17) -/

/-- The levels of a sounding table increase strictly and its volumes do not decrease (R17, item 6). -/
def risingPoints : List Point → Bool
  | a :: b :: l => decide (a.level < b.level ∧ a.volume ≤ b.volume) && risingPoints (b :: l)
  | _ => true

/-- Whether a sounding table passes (R17, item 6). -/
def soundingOk (l : List Point) : Bool :=
  decide (2 ≤ l.length) && (l.head?.map (·.level)).getD 0 == 0 && risingPoints l

/-- Whether a span lies in the hull (R17, items 5 and 7). -/
def spanOk (first count : Nat) : Bool := count != 0 && decide (first + count ≤ 20)

/-- Whether a tank passes (R17, item 5). -/
def TankConfig.ok (c : TankConfig) : Bool :=
  spanOk c.first c.count && !(c.side == .port && decide (0 < c.arm)) && !(c.side == .starboard && decide (c.arm < 0))

/-- Whether a channel is in SWITCH mode. -/
def ChannelConfig.isSwitch : ChannelConfig → Bool
  | .switch .. => true
  | _ => false

/-- Whether a channel is in PULSE mode. -/
def ChannelConfig.isPulse : ChannelConfig → Bool
  | .pulse => true
  | _ => false

/-- Whether a channel's points pass (R17, item 9). -/
def ChannelConfig.pointsOk : ChannelConfig → Bool
  | .level lo hi _ _ _ => decide (lo < hi)
  | _ => true

/-- The fields that name a channel (R17, item 13). -/
def ConfigTables.namings (c : ConfigTables) (ch : ChannelNo) : Nat :=
  (c.runPumps ch).length + (c.flowPumps ch).length + (c.boundValves ch).length

/-- The thirteen items of R17, each with the indices checked, in order, and whether an index passes. -/
def ConfigTables.checks (c : ConfigTables) : List (List Nat × (Nat → Bool)) :=
  let at_ {α : Type} {n : Nat} (v : Vector α n) (ok : α → Bool) (i : Nat) : Bool := (v[i]?).all ok
  [ ([0], fun _ => decide (2 ≤ (c.segments.toList.filter fun g => g.immersion != 0).length)),
    ([0], fun _ => (c.segments.toList.map (·.mass)).sum != 0),
    ([0], fun _ => c.ship.ls != 0),
    ((List.range 19).map (· + 1), fun j =>
      at_ c.stations (fun x => x.shear != 0 && x.hogging != 0 && x.sagging != 0) (j - 1)),
    (List.range 16, at_ c.tanks TankConfig.ok),
    (List.range 16, at_ c.soundings soundingOk),
    (List.range 9, at_ c.holds fun h => spanOk h.first h.count),
    (List.range 7, at_ c.thresholds fun t => decide (t.caution < t.stop)),
    (List.range 48, at_ c.channels ChannelConfig.pointsOk),
    (List.range 16, fun i =>
      (index i 16).all fun t : TankNo =>
        if c.tanks[t].metered then (c.boundChannels t).length == 1 else (c.boundChannels t).isEmpty),
    (List.range 3, at_ c.pumps fun p =>
      (p.runChannel.any fun ch => c.channels[ch].isSwitch) && (p.flowChannel.any fun ch => c.channels[ch].isPulse)),
    (List.range 21, at_ c.valves fun v => v.channel.any fun ch => c.channels[ch].isSwitch),
    (List.range 48, fun i => (index i 48).all fun ch : ChannelNo => decide (c.namings ch ≤ 1)) ]

/-- The first failing index of one item. -/
def firstFailing (x : List Nat × (Nat → Bool)) : Option Nat := x.1.find? fun i => !x.2 i

/-- The first failing item of a list, by its order number from `order`, with its index. -/
def firstFailure (order : Nat) : List (List Nat × (Nat → Bool)) → Option (Nat × Nat)
  | [] => none
  | x :: l =>
    match firstFailing x with
    | some i => some (order, i)
    | none => firstFailure (order + 1) l

/-- The validation of the tables: the first failing item and index, or none (R17). -/
def ConfigTables.validate (c : ConfigTables) : Option (Nat × Nat) := firstFailure 1 c.checks

/-! ### The five moves (R207 to R211) -/

/-- The phase is set, the move is reported to PMU, and the PHASE entry is written (R172, R207). -/
def State.enterPhase (dest : Phase) (s : State) : State :=
  let from_ := s.ccl.phase
  let s := { s with ccl := { s.ccl with phase := dest } }
  (s.evalPermit .phase).log .phase [from_.code, dest.code]

/-- The call time is set to 0 (R206). -/
def State.zeroCallTime (s : State) : State := { s with ccl := { s.ccl with callTime := 0 } }

/-- SETUP to READY, behind the validation (R208). -/
def State.moveReady (s : State) : State :=
  ((s.updateTanks.zeroCallTime).enterPhase .ready).requestRecompute

/-- READY to SETUP (R209). -/
def State.moveBack (s : State) : State :=
  (s.abandonEngine.removeChecking .aborted).enterPhase .setup

/-- The volumes of the tanks as TKM holds them. -/
def State.volumes (s : State) : Vector Nat 16 := Vector.ofFn fun t : Fin 16 => s.tanks[t].volume

/-- PTR takes the loading-start snapshot (R146, R147). -/
def State.takeStart (s : State) : State :=
  let start := match s.cen.current with
    | some r => StartSnapshot.taken r.startFigures s.volumes
    | none => .pending s.volumes
  { s with ptr := { s.ptr with start := start } }

/-- RCU takes the arrival condition and the tanks' start volumes (R177). -/
def State.takeArrival (s : State) : State :=
  let arrival := match s.cen.current with
    | some r => Arrival.taken s.ccl.shipTime r.reportFigures
    | none => .pending s.ccl.shipTime
  { s with rcu := { s.rcu with
    arrival := arrival
    totals := Vector.ofFn fun t : Fin 16 => { s.rcu.totals[t] with start := s.tanks[t].volume } } }

/-- READY to LOADING (R210). -/
def State.moveLoading (s : State) : State :=
  ((s.takeStart.takeArrival).enterPhase .loading).requestRecompute

/-- LOADING to FINAL (R210). -/
def State.moveFinal (s : State) : State := (s.enterPhase .final).requestRecompute

/-- RCU at a new call: everything as at power-on but the band memory (R173, R175, R177, R179, R180, R182). -/
def Rcu.newCall (r : Rcu) : Rcu :=
  { Rcu.initial with memoryBands := r.memoryBands, memoryOverall := r.memoryOverall }

/-- PVA at a new call: the grant counter 0 and the fairness memories absent (R114, R117). -/
def Pva.newCall (a : Pva) : Pva :=
  { a with grants := 0, pumps := Vector.ofFn fun p : Fin 3 => { a.pumps[p] with fairness := none } }

/-- LSL at a new call: pace lagging is cleared, and the PACE cause and the ALARM line follow (R68, R80). -/
def State.clearPace (s : State) : State := State.paceCause { s with lsl := { s.lsl with paceLagging := false } }

/-- FINAL to SETUP, the start of a new call (R211). -/
def State.moveNewCall (s : State) : State :=
  let s := s.abandonEngine.clearPace
  let s := { s with
    rcu := s.rcu.newCall, ptr := .initial, tsq := { s.tsq with lastNumber := 0 }, pva := s.pva.newCall }
  s.zeroCallTime.enterPhase .setup

/-- Whether no loader is pouring. -/
def Ptr.idle (p : Ptr) : Bool := p.loaders.toList.all Option.isNone

/-- Whether the transfer queue holds no step. -/
def Tsq.isEmpty (q : Tsq) : Bool := q.slots.toList.all Option.isNone

/-- The reply to a move that is taken: the phase left and the phase entered (R207). -/
def moved (dest : Phase) (before after : State) : Judged := taken after (u8 before.ccl.phase.code ++ u8 dest.code)

/-- PHASE_SET, behind FORMAT and RANGE (R207). -/
def judgePhaseSet (dest : Phase) (s : State) : Judged :=
  match s.ccl.phase, dest with
  | .setup, .ready =>
    match s.cfg.validate with
    | some (order, i) => (s, some ⟨.invalidTables, u8 order ++ u8 i⟩)
    | none => moved dest s s.moveReady
  | .ready, .setup => if s.tsq.order.isEmpty then moved dest s s.moveBack else refuse .inUse s
  | .ready, .loading => moved dest s s.moveLoading
  | .loading, .final => if s.ptr.idle then moved dest s s.moveFinal else refuse .inUse s
  | .final, .setup => if s.tsq.isEmpty then moved dest s s.moveNewCall else refuse .inUse s
  | _, _ => refuse .phase s

/-! ### The settings store (R213 to R215) -/

/-- STORE_WRITE, behind FORMAT and RANGE (R213). -/
def judgeStoreWrite (item : StoreItem) (s : State) : Judged :=
  if s.sst.writer.isSome then refuse .busy s
  else match item, s.rcu.slot with
    | .config, _ => taken { s with sst := { s.sst with writer := some .config, config := .writing s.cfg } }
    | .report, none => refuse .state s
    | .report, some r => taken { s with sst := { s.sst with writer := some .report, report := .writing r } }

/-- The code of a stored item, its place in R213. -/
def StoreItem.code : StoreItem → Nat | .config => 0 | .report => 1

/-- The store write in flight completes: the writer is IDLE, the item is VALID or INVALID, CONFIG_ABSENT follows a CONFIG write, and STORE_DONE is made pending (R213). -/
def State.storeDone (agrees : Bool) (s : State) : State :=
  match s.sst.writer with
  | none => s
  | some item =>
    let s := match item with
      | .config =>
        { s with
          sst := { s.sst with writer := none, config := s.sst.config.written configFormat agrees }
          ccl := { s.ccl with configAbsent := !agrees } }
      | .report => { s with sst := { s.sst with writer := none, report := s.sst.report.written reportFormat agrees } }
    s.notify .storeDone (u8 item.code ++ flag (!agrees))

/-- The reply body of STORE_STATUS (R215). -/
def Sst.statusBody (x : Sst) : List Byte :=
  flag x.writer.isSome ++ u8 (orNone StoreItem.code x.writer) ++ u8 x.config.code ++ u8 x.report.code
    ++ (match x.report with
      | .valid x => u16 x.content.callNumber ++ flag x.content.interim ++ u16 x.content.serial
      | _ => [])
    ++ match x.config with
      | .valid x => u16 x.length.toNat
      | _ => []

/-! ### Power (R212, R214, R216) -/

/-- The emergency stop input at power-on: when it is active, every pump trips, and LSL and RCU are told (R130, R216). -/
def State.emergencyAtPowerOn (s : State) : State :=
  if s.pins.emergency then s.tripPumps.reportEmergency s.pva.toTrip 0 else s

/-- The start of the controller at power-on (R216). -/
def State.start (config report : StoreErrors) (s : State) : State :=
  let store := s.sst.atPowerOn config report
  (State.powerUp (store.config.content?.getD emptyTables) store.config.content?.isNone store s.pins s.now s.choices
    s.pending).emergencyAtPowerOn

/-! ### RESTART (R217) -/

/-- PMU at RESTART (R171). -/
def State.restartPermit (s : State) : State :=
  let s := s.withdraw .challengeDue
  State.evalPermit .restart { s with pmu := { s.pmu with unit := .idle, hysteresis := false } }

/-- RCU at RESTART (R185). -/
def State.restartRecords (s : State) : State :=
  State.log .restart [s.ccl.phase.code] { s with rcu := { s.rcu with composing := none } }

/-- RESTART, in the order of R217. -/
def State.restart (s : State) : State :=
  let s := s.restartPlant.restartSteps
  let s := { s with pva := s.pva.restarted }
  let s := s.restartEngine.restartPermit.restartRecords
  { s with ccl := { s.ccl with startCause := .restart } }

/-! ### The commands -/

/-- PHASE_SET (R207 to R211). -/
def execPhaseSet (tag : Tag) (body : List Byte) (s : State) : Result :=
  .next (s.serve 0xB1 tag fun _ => anyPhase (lengthIs 1 body) (ofCode Phase.all (field body 0 1)) judgePhaseSet)

/-- STORE_WRITE (R213). -/
def execStoreWrite (tag : Tag) (body : List Byte) (s : State) : Result :=
  .next (s.serve 0xB2 tag fun _ => anyPhase (lengthIs 1 body) (parseStoreWrite body) judgeStoreWrite)

/-- STORE_STATUS (R215). -/
def execStoreStatus (tag : Tag) (body : List Byte) (s : State) : Result :=
  .next (s.serve 0xB3 tag fun _ => anyPhase (lengthIs 0 body) (some ()) fun _ s => taken s s.sst.statusBody)

/-- RESTART (R217). -/
def execRestart (tag : Tag) (body : List Byte) (s : State) : Result :=
  .next (s.serve 0xB4 tag fun _ => anyPhase (lengthIs 0 body) (some ()) fun _ s => taken s.restart)

/-- STORE_WRITE_COMPLETE (R213). -/
def execStoreWriteComplete (agrees : Bool) (s : State) : Result := .next (s.event fun s => s.storeDone agrees)

/-- POWER_ON: the controller starts, from the store as it stands (R216). -/
def execPowerOn (config report : StoreErrors) (s : State) : Result := .next (s.start config report)

/-- POWER_LOSS: an item being written is left INVALID, and everything the store does not keep is lost (R214). -/
def execPowerLoss (s : State) : Result :=
  .next (if s.powered then { s with powered := false, sst := s.sst.powerLost } else s)

end Sys2Proof.Machine
end

