-- ==== Sys2Proof/Machine/ChannelCommands.lean ====
section
/-! DEFINITION. The commands of chapter 2: CHANNEL_SET (R18), SCAN_SET (R21), CHANNEL_GET (R29), the tank locks (R35, R36), TANK_GET (R39), the scan end (R22), switch changes (R26, R27) and pulses (R28). -/

namespace Sys2Proof.Machine

/-- CHANNEL_SET replaces a channel's configuration and puts its run state at the power-on values of its mode (R18, R20); the STALE flags follow (R30). -/
def writeChannel (x : ChannelNo × ChannelConfig) (s : State) : State :=
  let s := { s with cfg := { s.cfg with channels := s.cfg.channels.set x.1 x.2 } }
  (s.setChannel x.1 (freshChannel s.now x.2)).rebindTanks

/-- SCAN_SET replaces the scan setting; the period in progress keeps its own (R21). -/
def writeScan (x : ScanSetting) (s : State) : State := { s with cfg := { s.cfg with scan := x } }

/-- The configuration fields of a channel, its mode first (R18, R29). -/
def ChannelConfig.encode : ChannelConfig → List Byte
  | .off => u8 0
  | .level lo hi span band bound => u8 1 ++ u16 lo ++ u16 hi ++ u16 span ++ u16 band ++ u8 (ixOrNone bound)
  | .switch debounce notify => u8 2 ++ u16 debounce ++ flag notify
  | .pulse => u8 3

/-- The bound tank in the binding of a LEVEL channel; a channel in another mode has none (R29). -/
def ChannelConfig.boundTank : ChannelConfig → List Byte
  | .level _ _ _ _ bound => u8 (ixOrNone bound)
  | _ => []

/-- The binding of a channel: the bound tank of a LEVEL channel, and the pump and valve fields that name it as a count, then each field's kind (run-feedback 0, flow 1, valve 2) and number (R29, log entry 14). -/
def ConfigTables.bindings (c : ConfigTables) (ch : ChannelNo) : List Byte :=
  c.channels[ch].boundTank ++ u8 ((c.runPumps ch).length + (c.flowPumps ch).length + (c.boundValves ch).length)
    ++ (c.runPumps ch).flatMap (fun p => u8 0 ++ u8 p.val)
    ++ (c.flowPumps ch).flatMap (fun p => u8 1 ++ u8 p.val)
    ++ (c.boundValves ch).flatMap (fun v => u8 2 ++ u8 v.val)

/-- A reading of the controller's millisecond clock, in 4 bytes (log entry 6). -/
def clockBytes (t : Nat) : List Byte := u32 (Config.clockOrigin + t)

/-- The run state of a channel (R20, R29). The filtered level of a LEVEL channel whose window is not full is left out of the body, not carried as 255: the model's choice (log entry 14). -/
def ChannelRun.encode (ch : ChannelNo) : ChannelRun → List Byte
  | .off => []
  | .level last window run valid =>
    u16 (orNone (fun x => x.1.toNat) last) ++ u8 (orNone (fun x => x.2.toNat) last)
      ++ u8 window.length ++ window.flatMap u16 ++ u8 run ++ flag (!valid)
      ++ if window.length = 4 then u16 (meanLevel window) else []
  | .switch debounced _ changed =>
    (match debounced with
      | some a => flag a
      | none => u8 2)
      ++ match changed with
        | some t => clockBytes t
        | none => u32 (Config.noChangeTime ch)
  | .pulse count last =>
    u32 count.toNat ++ match last with
      | some t => clockBytes t
      | none => u32 noneCode

/-- The reply body of CHANNEL_GET (R29). -/
def State.channelBody (ch : ChannelNo) (s : State) : List Byte :=
  s.cfg.channels[ch].encode ++ s.cfg.bindings ch ++ s.fcu.channels[ch].encode ch
    ++ u8 s.fcu.scan.running.prescale ++ u8 s.fcu.scan.running.reload ++ u16 (scanPeriod s.fcu.scan.running)

/-- TANK_LOCK on an unlocked tank locks it with reason OPERATOR; on a locked one it changes nothing (R35). -/
def takeLock (t : TankNo) (s : State) : State :=
  if s.tanks[t].lock = .unlocked then (s.lockTank t .operator).grants else s

/-- An unlock that is made: logged, and a recompute requested (R36). -/
def State.unlockTank (t : TankNo) (s : State) : State :=
  let s := s.setTank t { s.tanks[t] with lock := .unlocked }
  (s.log .tankUnlock [t.val]).requestRecompute

/-- TANK_UNLOCK by the tank's lock state (R36). -/
def judgeUnlock (t : TankNo) (s : State) : Judged :=
  match s.tanks[t].lock with
  | .unlocked => taken s
  | .operator => taken (s.unlockTank t)
  | .valve => if s.pva.valves[tankValve t].faulted then refuse .state s else taken (s.unlockTank t)

/-- The state code of a tank's level channel: VALID 0, STALE 1, or NONE (R39). -/
def State.levelChannelState (t : TankNo) (s : State) : Nat :=
  match s.cfg.levelChannel t with
  | none => noneCode
  | some ch =>
    match s.fcu.channels[ch] with
    | .level _ _ _ valid => (!valid).toNat
    | _ => noneCode

/-- The reply body of TANK_GET (R39). -/
def State.tankBody (t : TankNo) (s : State) : List Byte :=
  let x := s.tanks[t]
  u16 x.level ++ u32 x.volume ++ u16 x.mass ++ flag x.stale ++ flag x.overTable
    ++ flag (x.lock != .unlocked) ++ u8 x.lock.reasonCode
    ++ u8 (ixOrNone (s.cfg.levelChannel t)) ++ u8 (s.levelChannelState t)

/-! ### The commands -/

/-- CHANNEL_SET (R3, R18, R20, R30). -/
def execChannelSet (tag : Tag) (body : List Byte) (s : State) : Result :=
  .next (s.serve 0x21 tag fun _ => tableWrite (channelSetLength body) (parseChannelSet body) writeChannel)

/-- SCAN_SET (R3, R21). -/
def execScanSet (tag : Tag) (body : List Byte) (s : State) : Result :=
  .next (s.serve 0x22 tag fun _ => tableWrite (lengthIs 2 body) (parseScanSet body) writeScan)

/-- CHANNEL_GET (R29). -/
def execChannelGet (tag : Tag) (body : List Byte) (s : State) : Result :=
  .next (s.serve 0x23 tag fun _ =>
    anyPhase (lengthIs 1 body) (index (field body 0 1) 48) fun ch s => taken s (s.channelBody ch))

/-- TANK_LOCK (R35). -/
def execTankLock (tag : Tag) (body : List Byte) (s : State) : Result :=
  .next (s.serve 0x24 tag fun _ =>
    anyPhase (lengthIs 1 body) (index (field body 0 1) 16) fun t s => taken (takeLock t s))

/-- TANK_UNLOCK (R36). -/
def execTankUnlock (tag : Tag) (body : List Byte) (s : State) : Result :=
  .next (s.serve 0x25 tag fun _ =>
    anyPhase (lengthIs 1 body) (index (field body 0 1) 16) judgeUnlock)

/-- TANK_GET (R39). -/
def execTankGet (tag : Tag) (body : List Byte) (s : State) : Result :=
  .next (s.serve 0x26 tag fun _ =>
    anyPhase (lengthIs 1 body) (index (field body 0 1) 16) fun t s => taken s (s.tankBody t))

/-- SCAN_END: the scan at the end of the period in progress, and the next period (R21, R22). Before that end there is no scan end (log entry 18). -/
def execScanEnd (samples : Vector Sample 48) (s : State) : Result :=
  .next (s.event fun s => if s.fcu.scan.endsAt ≤ s.now then (s.scan samples).nextPeriod else s)

/-- SWITCH_INPUT_CHANGE: the contact changes with or without power; a powered SWITCH channel starts its timing (R26). -/
def execSwitchInputChange (channel : ChannelNo) (closed : Bool) (s : State) : Result :=
  if s.pins.contacts[channel] = closed then .next s
  else
    let s := { s with pins := { s.pins with contacts := s.pins.contacts.set channel closed } }
    .next (s.event fun s => s.contactChange channel)

/-- SWITCH_DEBOUNCE_EXPIRY: the state is taken and delivered (R26, R27). -/
def execSwitchDebounceExpiry (channel : ChannelNo) (s : State) : Result :=
  .next (s.event fun s => s.debounced channel)

/-- FLOW_PULSE (R28). -/
def execFlowPulse (channel : ChannelNo) (s : State) : Result :=
  .next (s.event fun s => s.countPulse channel)

end Sys2Proof.Machine
end

