-- ==== Sys2Proof/Machine/EngineCommands.lean ====
section
/-! DEFINITION. The commands of chapter 3: PREDICT (R62), CONDITION_GET (R64, R65), and the completions of computations (R43, R45, R46, R63). -/

namespace Sys2Proof.Machine

/-- PREDICT (R62): length, phase, ranges, room in the prediction queue; a request taken is replied when its prediction completes. -/
def judgePredict (tag : Tag) (body : List Byte) (reply : ReplyNo) (s : State) : Judged :=
  if !lengthCounted 2 6 1 body then refuse .format s
  else if s.ccl.phase = .setup then refuse .phase s
  else match parsePredict body with
    | none => refuse .range s
    | some (includeAdmitted, overrides) =>
      if s.cen.takesPrediction then
        (s.queuePrediction
          { requester := .predict tag, reply := reply, includeAdmitted := includeAdmitted
            overrides := overrides }, none)
      else refuse .busy s

/-- The kind in flight and its requester (R65, R200). -/
def Cen.flightBytes (c : Cen) : List Byte :=
  match c.inFlight with
  | none => u8 noneCode ++ u8 noneCode ++ u16 0
  | some (.current _) => u8 1 ++ u8 noneCode ++ u16 0
  | some (.prediction q _) =>
    u8 2 ++ match q.requester with
      | .step n => u8 0 ++ u16 n
      | .predict t => u8 1 ++ u16 t.toNat

/-- The reply body of CONDITION_GET naming ENGINE (R65). -/
def Cen.engineBody (c : Cen) : List Byte :=
  c.flightBytes ++ flag c.pendingCurrent ++ u8 c.queue.length ++ u32 c.sequence

/-- CONDITION_GET by its part (R64, R65, R202). -/
def judgeConditionGet (part : ConditionPart) (s : State) : Judged :=
  match part, s.cen.current with
  | .engine, _ => taken s s.cen.engineBody
  | _, none => refuse .state s
  | .summary, some r => taken s r.summary
  | .stations first count, some r =>
    taken s (u32 r.sequence ++ ((r.stations.drop (first - 1)).take count).flatMap StationFigures.encode)
  | .segments first count, some r =>
    taken s (u32 r.sequence ++ ((r.segments.drop first).take count).flatMap SegmentFigures.encode)

/-- The current recompute in flight completes; the engine then chooses what begins next (R43, R45). -/
def State.completeCurrent (s : State) : State :=
  match s.cen.inFlight with
  | some (.current snap) => (s.putRecord (s.completedRecord snap)).chooseNext true
  | _ => s

/-- A completed prediction's record goes to its requester (R46, R63, R92). -/
def State.deliverPrediction (q : PredictionRequest) (r : ConditionRecord) (s : State) : State :=
  match q.requester with
  | .step n => s.decideStep n q.reply r
  | .predict _ => s.reply q.reply .ok r.summary

/-- The prediction in flight completes; the engine then chooses what begins next, and the grant decisions that an admission opens are made (R43, R46, R116). -/
def State.completePrediction (s : State) : State :=
  match s.cen.inFlight with
  | some (.prediction q snap) => ((s.deliverPrediction q (q.record snap)).chooseNext false).grants
  | _ => s

/-! ### The commands -/

/-- PREDICT (R62). -/
def execPredict (tag : Tag) (body : List Byte) (s : State) : Result :=
  .next (s.serve 0x31 tag (judgePredict tag body))

/-- CONDITION_GET (R64, R65). -/
def execConditionGet (tag : Tag) (body : List Byte) (s : State) : Result :=
  .next (s.serve 0x32 tag fun _ =>
    anyPhase (partLength (fun p => p == 1 || p == 2) 4 body) (parseConditionGet body) judgeConditionGet)

/-- CURRENT_RECOMPUTE_COMPLETE (R43, R45). -/
def execCurrentRecomputeComplete (s : State) : Result := .next (s.event State.completeCurrent)

/-- PREDICTION_COMPLETE (R43, R46). -/
def execPredictionComplete (s : State) : Result := .next (s.event State.completePrediction)

end Sys2Proof.Machine
end

