-- ==== Sys2Proof/Machine/LimitCommands.lean ====
section
/-! DEFINITION. The commands of chapter 4: STOP_ACK (R76), STOP_SET (R77), ALARM_ACK (R83), ALARM_SET (R84), LIMIT_STATUS (R85), and the expiry of the alarm pulse (R82). -/

namespace Sys2Proof.Machine

/-- STOP_ACK while the line is ON is taken; it acknowledges the stop, where that is not yet done (R76). -/
def judgeStopAck (s : State) : Judged :=
  if !s.lsl.line then refuse .state s
  else if s.lsl.acknowledged then taken s
  else taken (s.stopChange fun l => { l with acknowledged := true })

/-- STOP_SET replaces the settings and re-evaluates the EMERGENCY cause and the line (R77). -/
def writeStop (x : StopSettings) (s : State) : State :=
  State.stopChange (fun l => l.emergencyCause x.emergencyEnabled) { s with cfg := { s.cfg with stop := x } }

/-- ALARM_ACK clears every group's unacknowledged flag and stops a running pulse (R83). -/
def takeAlarmAck (s : State) : State :=
  State.evalAlarm
    { s with lsl := { s.lsl with
      groups := Vector.ofFn fun g : Fin 4 => { s.lsl.groups[g] with unacknowledged := false }
      pulseUntil := none } }

/-- ALARM_SET replaces the settings; LAMP discards the pulse timer (R84). -/
def takeAlarmSet (x : AlarmSettings) (s : State) : State :=
  State.evalAlarm
    { s with
      cfg := { s.cfg with alarm := x }
      lsl := { s.lsl with pulseUntil := if x.mode = .lamp then none else s.lsl.pulseUntil } }

/-- The code of an alarm mode, its place in R82. -/
def AlarmMode.code : AlarmMode → Nat | .lamp => 0 | .pulse => 1

/-- The whole seconds left of a timer, as replies show them; 0 when it is absent (R85, log entry 5). -/
def State.remaining (until_ : Option Nat) (s : State) : Nat :=
  match until_ with
  | none => 0
  | some t => shownSeconds (t - s.now)

/-- The reply body of LIMIT_STATUS (R85). -/
def State.limitBody (s : State) : List Byte :=
  let l := s.lsl
  flag l.line ++ flag l.causes.condition ++ flag l.causes.counter ++ flag l.causes.emergency
    ++ flag l.acknowledged ++ u8 l.stopRun ++ flag l.emergencyInput
    ++ u8 s.cfg.stop.tolerance ++ flag s.cfg.stop.emergencyEnabled
    ++ encodeBands l.classBands ++ u8 l.overallBand.code ++ u32 l.bandSequence
    ++ (List.finRange 4).flatMap (fun g =>
        u8 (maskCode s.cfg.alarm.masked[g]) ++ flag l.groups[g].causePresent ++ flag l.groups[g].unacknowledged)
    ++ flag l.paceLagging ++ flag l.counterLow
    ++ u8 l.faults.list.length ++ l.faults.list.flatMap (fun e => u8 e.code ++ u8 e.item)
    ++ flag l.alarmLine ++ u8 s.cfg.alarm.mode.code ++ u8 s.cfg.alarm.pulseLength
    ++ u8 (s.remaining l.pulseUntil)

/-- The alarm pulse timer runs out, and the line goes OFF (R82). -/
def State.pulseEnd (s : State) : State :=
  match s.lsl.pulseUntil with
  | none => s
  | some _ => State.evalAlarm { s with lsl := { s.lsl with pulseUntil := none } }

/-! ### The commands -/

/-- STOP_ACK (R76). -/
def execStopAck (tag : Tag) (body : List Byte) (s : State) : Result :=
  .next (s.serve 0x41 tag fun _ => anyPhase (lengthIs 0 body) (some ()) fun _ => judgeStopAck)

/-- STOP_SET (R3, R77). -/
def execStopSet (tag : Tag) (body : List Byte) (s : State) : Result :=
  .next (s.serve 0x42 tag fun _ => tableWrite (lengthIs 2 body) (parseStopSet body) writeStop)

/-- ALARM_ACK (R83). -/
def execAlarmAck (tag : Tag) (body : List Byte) (s : State) : Result :=
  .next (s.serve 0x43 tag fun _ => anyPhase (lengthIs 0 body) (some ()) fun _ s => taken (takeAlarmAck s))

/-- ALARM_SET (R84). -/
def execAlarmSet (tag : Tag) (body : List Byte) (s : State) : Result :=
  .next (s.serve 0x44 tag fun _ => anyPhase (lengthIs 6 body) (parseAlarmSet body) fun x s => taken (takeAlarmSet x s))

/-- LIMIT_STATUS (R85). -/
def execLimitStatus (tag : Tag) (body : List Byte) (s : State) : Result :=
  .next (s.serve 0x45 tag fun _ => anyPhase (lengthIs 0 body) (some ()) fun _ s => taken s s.limitBody)

/-- ALARM_PULSE_EXPIRY (R82). -/
def execAlarmPulseExpiry (s : State) : Result := .next (s.event State.pulseEnd)

end Sys2Proof.Machine
end

