-- ==== Sys2Proof/Machine/LinkCommands.lean ====
section
/-! DEFINITION. The commands of chapter 10: frames discarded and timed out (R190), unknown kinds (R191), the end of a sent frame (R193, R196), IDENTIFY (R197), CLOCK_SET (R198), CALL_SET (R199), NOTICE_SELECT (R195), and the second (R198, R206). -/

namespace Sys2Proof.Machine

/-- The request kinds of section 10.3. -/
def requestKinds : List Nat :=
  [0x11, 0x12, 0x13, 0x14, 0x15, 0x16, 0x17, 0x18, 0x19, 0x1A, 0x1B, 0x1C, 0x21, 0x22, 0x23, 0x24, 0x25, 0x26,
    0x31, 0x32, 0x41, 0x42, 0x43, 0x44, 0x45, 0x51, 0x52, 0x53, 0x61, 0x62, 0x63, 0x71, 0x72, 0x73, 0x74, 0x75, 0x76,
    0x81, 0x82, 0x83, 0x84, 0x91, 0x92, 0x93, 0x94, 0xA1, 0xA2, 0xA3, 0xA4, 0xB1, 0xB2, 0xB3, 0xB4]

/-- Whether a kind is a request kind (R191). -/
def knownKind (kind : Byte) : Bool := requestKinds.contains kind.toNat

/-- The receive assembler is in a state. -/
def State.setRx (r : Rx) (s : State) : State := { s with lnk := { s.lnk with rx := r } }

/-- The transmitter finishes its frame; a reply's slot becomes FREE (R193, R196). -/
def State.frameSent (s : State) : State :=
  match s.lnk.tx with
  | .idle => s
  | .reply r _ => { s with lnk := { s.lnk with slots := s.lnk.slots.set r .free, tx := .idle } }
  | .notice _ => { s with lnk := { s.lnk with tx := .idle } }

/-- The code of a start cause, its place in R206. -/
def StartCause.code : StartCause → Nat | .power => 0 | .restart => 1

/-- The reply body of IDENTIFY (R197). -/
def Ccl.identity (c : Ccl) : List Byte :=
  u16 0x0B24 ++ u8 240 ++ u8 3 ++ u8 c.startCause.code ++ flag c.configAbsent ++ u8 c.phase.code

/-- CLOCK_SET replaces the ship time (R198). -/
def setShipTime (t : Nat) (s : State) : State := { s with ccl := { s.ccl with shipTime := t } }

/-- CALL_SET replaces the call identity (R199). -/
def setIdentity (x : CallIdentity) (s : State) : State :=
  { s with ccl := { s.ccl with callNumber := x.number, portCode := x.portCode, berthText := x.berthText } }

/-- Whether the body of a CALL_SET has the length its text length declares (R199). -/
def callSetLength (b : List Byte) : Bool := decide (8 ≤ b.length) && b.length == 8 + field b 7 1

/-- CALL_SET (R199): length, phase, ranges. -/
def judgeCallSet (body : List Byte) (s : State) : Judged :=
  if !callSetLength body then refuse .format s
  else if s.ccl.phase ≠ .setup ∧ s.ccl.phase ≠ .ready then refuse .phase s
  else match parseCallSet body with
    | none => refuse .range s
    | some x => taken (setIdentity x s)

/-- The selection of notice kinds is replaced, and the pending notices it disables are withdrawn (R195). -/
def selectNotices (mask : BitVec 16) (s : State) : State :=
  { s with lnk := { s.lnk with
    enabled := mask
    notices := Vector.ofFn fun p : PlaceNo =>
      if mask.getLsbD (placeCode p - 1) then s.lnk.notices[p] else none } }

/-- One second passes: the ship time when it is set, and the call time outside SETUP (R198, R206). -/
def Ccl.second (now : Nat) (c : Ccl) : Ccl :=
  { c with
    shipTime := if c.shipTime = 0 then 0 else satAdd Config.maxU32 c.shipTime 1
    callTime := if c.phase = .setup then c.callTime else satAdd Config.maxU32 c.callTime 1
    secondAt := now + 1000 }

/-! ### The commands -/

/-- FRAME_DISCARDED: a complete frame that fails is discarded, and the assembler is in HUNT (R190). Bytes that are no such frame are no event. -/
def execFrameDiscarded (frame : List Byte) (s : State) : Result :=
  .next (if frameComplete frame && !frameAccepted frame then s.event fun s => s.setRx .hunt else s)

/-- RX_GAP_TIMEOUT: the frame in progress is discarded, and the bytes after the gap are handled in HUNT (R190). -/
def execRxGapTimeout (after : List Byte) (s : State) : Result :=
  .next (s.event fun s => s.setRx (Rx.takeAll .hunt after))

/-- RX_FRAMING_ERROR: the frame in progress is discarded, and the bytes after it are handled in HUNT (R190). -/
def execRxFramingError (after : List Byte) (s : State) : Result :=
  .next (s.event fun s => s.setRx (Rx.takeAll .hunt after))

/-- LENGTH_BYTE_ABOVE_240: the frame in progress is discarded (R190). A length of at most 240 is no such event. -/
def execLengthByteAbove240 (length : Byte) (s : State) : Result :=
  .next (if Config.maxBody < length.toNat then s.event fun s => s.setRx .hunt else s)

/-- UNKNOWN_KIND_REQUEST: replied UNKNOWN_KIND (R191). A kind of the request list is no such event. -/
def execUnknownKindRequest (kind : Byte) (tag : Tag) (body : List Byte) (s : State) : Result :=
  .next (if knownKind kind || decide (Config.maxBody < body.length) then s
    else s.serve kind tag fun _ => refuse .unknownKind)

/-- TX_FRAME_DONE (R193, R196). -/
def execTxFrameDone (s : State) : Result := .next (s.event State.frameSent)

/-- IDENTIFY (R197). -/
def execIdentify (tag : Tag) (body : List Byte) (s : State) : Result :=
  .next (s.serve 0xA1 tag fun _ => anyPhase (lengthIs 0 body) (some ()) fun _ s => taken s s.ccl.identity)

/-- CLOCK_SET (R198). -/
def execClockSet (tag : Tag) (body : List Byte) (s : State) : Result :=
  .next (s.serve 0xA2 tag fun _ =>
    anyPhase (lengthIs 4 body) (whenever (field body 0 4 != 0) (field body 0 4)) fun t s => taken (setShipTime t s))

/-- CALL_SET (R199). -/
def execCallSet (tag : Tag) (body : List Byte) (s : State) : Result :=
  .next (s.serve 0xA3 tag fun _ => judgeCallSet body)

/-- NOTICE_SELECT: the reply gives the mask now held (R195). -/
def execNoticeSelect (tag : Tag) (body : List Byte) (s : State) : Result :=
  .next (s.serve 0xA4 tag fun _ =>
    anyPhase (lengthIs 2 body) (parseNoticeSelect body) fun m s => taken (selectNotices m s) (u16 m.toNat))

/-- CLOCK_SECOND_ADVANCE (R198, R206). -/
def execClockSecondAdvance (s : State) : Result :=
  .next (s.event fun s => { s with ccl := s.ccl.second s.now })

end Sys2Proof.Machine
end

