-- ==== Sys2Proof/Machine/PermitCommands.lean ====
section
/-! DEFINITION. The commands of chapter 8: PERMIT_SET (R154, R155), CHALLENGE (R158, R161, R163), ANSWER (R159, R163), PERMIT_STATUS (R170), and the attendance timers (R160 to R162). -/

namespace Sys2Proof.Machine

/-! ### PERMIT_SET -/

/-- The timing of the window in progress restarts (R155). -/
def State.retime (s : State) : State :=
  match s.pmu.unit with
  | .idle => s
  | .awaitAnswer _ => s.startAnswerTimer
  | .awaitChallenge .. => (s.withdraw .challengeDue).startChallengeTimer

/-- The permit unit's configuration is replaced. -/
def State.setPermitConfig (c : PermitConfig) (s : State) : State := { s with cfg := { s.cfg with permit := c } }

/-- PERMIT_SET, behind FORMAT and RANGE (R154, R155). The bad event of a retiming is no attendance event: of itself it sets no flag, raises no alarm event and writes no entry. The consequences of the counter's change follow all the same, as of any bad event (R165): COUNTER_ZERO (log entry 36), and the counter-low PACE alarm event with its ALARM entry, STOP_ON and PERMIT_CHANGE (R168, R169; log entry 39). R155's words leave that open: the model's choice. -/
def judgePermitSet (c : PermitConfig) (s : State) : Judged :=
  let held := s.cfg.permit
  if s.pmu.unit = .idle then taken ((s.setPermitConfig c).reportConditions.stopTaken s.lsl.line)
  else if { c with aOpen := held.aOpen, rOpen := held.rOpen } ≠ held then refuse .inUse s
  else if c = held then taken s
  else taken ((s.setPermitConfig c).retime.permitEvent false)

/-! ### CHALLENGE -/

/-- The judgements of challenges and answers, with their codes: the places in the lists of R159 and R161 (log entry 14). -/
inductive Judgement where | none | good | early | late | wrong
deriving DecidableEq, Repr

/-- The code of a challenge's judgement: GOOD, EARLY, LATE, or NONE (R161). -/
def Judgement.challengeCode : Judgement → Nat
  | .good => 0 | .early => 1 | .late => 2 | _ => noneCode

/-- The code of an answer's judgement: GOOD, EARLY, WRONG or LATE (R159). -/
def Judgement.answerCode : Judgement → Nat
  | .good => 0 | .early => 1 | .wrong => 2 | .late => 3 | .none => noneCode

/-- A CHALLENGE in IDLE starts the check (R158). With the initial value 0 the setting of the counter sets COUNTER_ZERO by step 2 of R165, though R158 says the status flags are not changed: the model's choice (log entry 35). -/
def State.startCheck (s : State) : State :=
  let c := s.cfg.permit
  ((s.setCounter c.initial).counterSettled (hysteresisAfter c c.initial false)).startAnswerTimer

/-- The judgement of a CHALLENGE in AWAIT_CHALLENGE at `e` elapsed seconds (R161). -/
def judgeChallenge (c : PermitConfig) (e : Nat) : Judgement :=
  if c.challengeCheck then
    match windowPlace c.rOpen c.rWidth e with
    | .early => .early
    | .within => .good
    | .late => .late
  else .none

/-- The event a judged challenge brings (R161). -/
def State.challengeEvent (j : Judgement) (e : Nat) (s : State) : State :=
  match j with
  | .early => s.attendanceEvent .earlyChallenge e
  | .late => s.attendanceEvent .lateChallenge e
  | .good => s.permitEvent true
  | _ => s

/-- The reply body of a CHALLENGE (R158, R200). -/
def State.challengeBody (j : Judgement) (s : State) : List Byte :=
  u16 (seedOf s.pmu.seed).toNat ++ u8 s.pmu.unit.code ++ u8 j.challengeCode ++ u8 s.pmu.counter

/-- CHALLENGE by the unit state (R158, R161, R163). -/
def takeChallenge (s : State) : State × Judgement :=
  match s.pmu.unit with
  | .idle => (s.startCheck, .none)
  | .awaitAnswer since => ((s.attendanceEvent .earlyChallenge (s.elapsed since)).startAnswerTimer, .early)
  | .awaitChallenge since _ =>
    let e := s.elapsed since
    let j := judgeChallenge s.cfg.permit e
    (((s.challengeEvent j e).withdraw .challengeDue).startAnswerTimer, j)

/-! ### ANSWER -/

/-- The judgement of an ANSWER in AWAIT_ANSWER at `e` elapsed seconds (R159). -/
def judgeAnswer (c : PermitConfig) (seed : BitVec 15) (value e : Nat) : Judgement :=
  match windowPlace c.aOpen c.aWidth e with
  | .early => .early
  | .late => .late
  | .within => if value = (expectedAnswer (seedOf seed)).toNat then .good else .wrong

/-- The event a judged answer brings; a good one advances the seed (R156, R159). -/
def State.answerEvent (j : Judgement) (e : Nat) (s : State) : State :=
  match j with
  | .good => State.permitEvent true { s with pmu := { s.pmu with seed := seedStep s.pmu.seed } }
  | .early => s.attendanceEvent .earlyAnswer e
  | .late => s.attendanceEvent .lateAnswer e
  | .wrong => s.attendanceEvent .wrongAnswer e
  | .none => s

/-- ANSWER by the unit state (R159, R163). -/
def judgeAnswerRequest (value : Nat) (s : State) : Judged :=
  match s.pmu.unit with
  | .idle => refuse .state s
  | .awaitChallenge since _ => refuse .state (s.attendanceEvent .lateAnswer (s.elapsed since))
  | .awaitAnswer since =>
    let e := s.elapsed since
    let j := judgeAnswer s.cfg.permit s.pmu.seed value e
    let s := (s.answerEvent j e).startChallengeTimer
    taken s (u8 j.answerCode ++ u8 s.pmu.counter)

/-! ### Status and timers -/

/-- The fourteen configuration fields (R154). -/
def PermitConfig.encode (c : PermitConfig) : List Byte :=
  u8 c.aOpen ++ u8 c.aWidth ++ u8 c.aExtra ++ u8 c.rOpen ++ u8 c.rWidth ++ u8 c.rExtra
    ++ flag c.challengeCheck ++ flag c.timeoutTrip ++ flag c.zeroStop
    ++ u8 c.initial ++ u8 c.lower ++ u8 c.upper ++ u8 c.goodStep ++ u8 c.badStep

/-- The elapsed whole seconds of the timer present, 0 in IDLE (R170). -/
def State.unitElapsed (s : State) : Nat :=
  match s.pmu.unit with
  | .idle => 0
  | .awaitAnswer since => s.elapsed since
  | .awaitChallenge since _ => s.elapsed since

/-- The reply body of PERMIT_STATUS (R170). -/
def State.permitBody (s : State) : List Byte :=
  u8 s.pmu.unit.code ++ u16 s.unitElapsed ++ u8 s.pmu.counter ++ flag s.pmu.hysteresis ++ flag s.pmu.permit
    ++ u8 s.pmu.trips ++ flag s.pmu.lowReported ++ flag s.pmu.zeroAsserted
    ++ s.pmu.flags.toList.flatMap flag ++ s.cfg.permit.encode

/-- The nine status flags are cleared (R170). -/
def State.clearFlags (s : State) : State := { s with pmu := { s.pmu with flags := Vector.replicate 9 false } }

/-- The answer timeout (R160). -/
def State.answerExpiry (s : State) : State :=
  match s.pmu.unit with
  | .awaitAnswer _ =>
    let figure := s.cfg.permit.answerTimeout
    if s.cfg.permit.timeoutTrip then s.tripCheck .timeoutAnswer figure
    else (s.attendanceEvent .timeoutAnswer figure).startAnswerTimer
  | _ => s

/-- The challenge timeout (R162). -/
def State.challengeExpiry (s : State) : State :=
  match s.pmu.unit with
  | .awaitChallenge .. =>
    let figure := s.cfg.permit.challengeTimeout
    if s.cfg.permit.timeoutTrip then (s.tripCheck .timeoutChallenge figure).withdraw .challengeDue
    else (s.attendanceEvent .timeoutChallenge figure).startChallengeTimer
  | _ => s

/-- The challenge timer reaches R_open, once for each start of the timer (R161). -/
def State.windowOpens (s : State) : State :=
  match s.pmu.unit with
  | .awaitChallenge _ false => s.challengeDue
  | _ => s

/-! ### The commands -/

/-- PERMIT_SET (R154, R155). -/
def execPermitSet (tag : Tag) (body : List Byte) (s : State) : Result :=
  .next (s.serve 0x81 tag fun _ => anyPhase (lengthIs 14 body) (parsePermitSet body) judgePermitSet)

/-- CHALLENGE (R158, R161, R163). -/
def execChallenge (tag : Tag) (body : List Byte) (s : State) : Result :=
  .next (s.serve 0x82 tag fun _ => anyPhase (lengthIs 0 body) (some ()) fun _ s =>
    taken (takeChallenge s).1 ((takeChallenge s).1.challengeBody (takeChallenge s).2))

/-- ANSWER (R159, R163). -/
def execAnswer (tag : Tag) (body : List Byte) (s : State) : Result :=
  .next (s.serve 0x83 tag fun _ => anyPhase (lengthIs 2 body) (some (field body 0 2)) judgeAnswerRequest)

/-- PERMIT_STATUS: the reply is formed, and the status flags are cleared (R170). -/
def execPermitStatus (tag : Tag) (body : List Byte) (s : State) : Result :=
  .next (s.serve 0x84 tag fun _ => anyPhase (lengthIs 0 body) (some ()) fun _ s => taken s.clearFlags s.permitBody)

/-- ANSWER_TIMEOUT (R160). -/
def execAnswerTimeout (s : State) : Result := .next (s.event State.answerExpiry)

/-- CHALLENGE_TIMEOUT (R162). -/
def execChallengeTimeout (s : State) : Result := .next (s.event State.challengeExpiry)

/-- CHALLENGE_WINDOW_OPENS (R161). -/
def execChallengeWindowOpens (s : State) : Result := .next (s.event State.windowOpens)

end Sys2Proof.Machine
end

