-- ==== Sys2Proof/Machine/PourCommands.lean ====
section
/-! DEFINITION. The commands of chapter 7: PLAN_LOAD (R137), POUR_BEGIN (R140, R141), POUR_PROGRESS (R143), POUR_END (R144, R145), PACE_SET (R150) and POUR_STATUS (R152). -/

namespace Sys2Proof.Machine

/-! ### The plan and the loaders -/

/-- PLAN_LOAD (R137): length, phase, ranges; the reply gives the number of entries now held. -/
def judgePlanLoad (body : List Byte) (s : State) : Judged :=
  if !lengthCounted 2 9 1 body then refuse .format s
  else if s.ccl.phase ≠ .ready then refuse .phase s
  else match parsePlanLoad s.ptr.plan body with
    | none => refuse .range s
    | some plan => taken { s with ptr := { s.ptr with plan := plan } } (u8 plan.length)

/-- The plan entry of a pour number; none for pour 0 (R136). -/
def Ptr.entry (p : Ptr) (pour : Nat) : Option PlanEntry := if pour = 0 then none else p.plan[pour - 1]?

/-- A plan entry is changed. -/
def Ptr.setEntry (p : Ptr) (pour : Nat) (e : PlanEntry) : Ptr := { p with plan := p.plan.set (pour - 1) e }

/-- A loader's slot is set (R138). -/
def Ptr.setLoader (p : Ptr) (l : Loader) (x : Option Pour) : Ptr := { p with loaders := p.loaders.set l.ix x }

/-- The number of the lowest PLANNED entry; 0 where there is none (R140). -/
def Ptr.lowestPlanned (p : Ptr) : Nat :=
  match p.plan.findIdx? fun e => e.state == .planned with
  | none => 0
  | some i => i + 1

/-- A hold's cargo mass changes by the difference of a loader's figures, held at 9,999,999 (R139). -/
def HoldRun.credit (h : HoldRun) (new old : Nat) : HoldRun := { h with mass := min 9999999 (h.mass + new - old) }

/-! ### Beginning (R140 to R142) -/

/-- The effects of a POUR_BEGIN that is taken, in the order of R141. -/
def State.beginPour (l : Loader) (pour : Nat) (hold : HoldNo) (s : State) : State :=
  let permit := s.pmu.permit
  let slot : Pour :=
    { number := pour, hold := hold, credited := 0, permitAtBegin := permit
      beginShipTime := s.ccl.shipTime, beginCallTime := s.ccl.callTime }
  let s := { s with ptr := s.ptr.setLoader l (some slot) }
  let s := match s.ptr.entry pour with
    | none => s
    | some e => { s with ptr := s.ptr.setEntry pour { e with state := .pouring, begun := some (l, permit) } }
  let s := s.log .pourBegin [l.code, pour, hold.val, permit.toNat]
  let s := if permit then s else s.permitEvent false
  let s := if pour = 0 then s else s.takeEdge ⟨pour, .beginEdge⟩
  s.requestRecompute.grants

/-- The hold of a pour: its plan entry's, or the one named for pour 0; none where the plan has no such entry (R140). -/
def Ptr.holdFor (p : Ptr) (pour : Nat) (named : Option HoldNo) : Option HoldNo :=
  if pour = 0 then named else (p.entry pour).map (·.hold)

/-- POUR_BEGIN, behind FORMAT, PHASE and RANGE (R140, R141). -/
def judgePourBegin (x : Loader × Nat × Option HoldNo) (s : State) : Judged :=
  let (l, pour, named) := x
  match s.ptr.holdFor pour named with
  | none => refuse .unknown s
  | some hold =>
    if s.ptr.loaders[l.ix].isSome then refuse .order s
    else if pour ≠ 0 ∧ pour ≠ s.ptr.lowestPlanned then refuse .order s
    else taken (s.beginPour l pour hold) (u8 l.code ++ u8 pour ++ u8 hold.val ++ flag s.pmu.permit)

/-! ### Progress (R143) -/

/-- POUR_PROGRESS on a pouring loader: a rising figure is credited, a falling one held (R143). -/
def State.creditPour (l : Loader) (x : Pour) (running : Nat) (s : State) : State :=
  if running < x.credited then s
  else
    let p := s.ptr.setLoader l (some { x with credited := running })
    { s with ptr := { p with holds := p.holds.set x.hold (p.holds[x.hold].credit running x.credited) } }

/-- POUR_PROGRESS, behind FORMAT, PHASE and RANGE (R143). -/
def judgePourProgress (a : Loader × Nat) (s : State) : Judged :=
  match s.ptr.loaders[a.1.ix] with
  | none => refuse .state s
  | some x =>
    let s := (s.creditPour a.1 x a.2).requestRecompute
    taken s (u32 (max a.2 x.credited) ++ u32 s.ptr.holds[x.hold].mass)

/-! ### Ending (R144, R145, R148, R149) -/

/-- The ballast out figure of a pace check (R148). -/
def State.ballastOut (s : State) : Int :=
  match s.ptr.start, s.cen.current with
  | .taken f _, some r => (f.ballast : Int) - r.ballast
  | _, _ => 0

/-- The pace check of a plan entry: the final tonnes, the ballast out, the lag and the result (R148). -/
def State.paceCheck (e : PlanEntry) (final : Nat) (s : State) : PourResult :=
  let out := s.ballastOut
  let lag := (e.due : Int) - max out 0
  { final := final, ballastOut := out, lag := lag, good := decide (lag ≤ s.cfg.pace) }

/-- PMU takes a pace result: a lag sets PACE_LAG, and the event is applied while the check runs (R149, R166). -/
def State.paceEvent (good : Bool) (s : State) : State :=
  (if good then s else s.setFlag .paceLag).permitEvent good

/-- A pace result is handed to PMU and to LSL, in either order (R149, log entry 4). -/
def State.handPace (good : Bool) (pour : Nat) (s : State) : State :=
  let (limitsFirst, s) := s.choose Config.limitsFirst
  if limitsFirst then (s.paceReport (!good) pour).paceEvent good
  else (s.paceEvent good).paceReport (!good) pour

/-- The code of a pace result, NONE for pour 0 (R201). -/
def paceCode : Option PourResult → Nat
  | none => noneCode
  | some r => if r.good then 0 else 1

/-- The due, the ballast out and the lag of a planned pour; all 0 for pour 0 (R151). -/
def paceFigures (e : Option (PlanEntry × PourResult)) : List Byte :=
  match e with
  | none => u32 0 ++ i32 0 ++ i32 0
  | some (e, r) => u32 e.due ++ i32 r.ballastOut ++ i32 r.lag

/-- The hold takes the final figure, and the loader's slot becomes IDLE (R144, R145 step 1). -/
def State.closePour (l : Loader) (x : Pour) (final : Nat) (s : State) : State :=
  let h := s.ptr.holds[x.hold].credit final x.credited
  let p := s.ptr.setLoader l none
  { s with ptr := { p with holds := p.holds.set x.hold { h with pours := satAdd 255 h.pours 1 } } }

/-- The result of a POUR_END is recorded in its plan entry, and handed on (R145 step 2). -/
def State.recordPour (pour : Nat) (e : PlanEntry) (r : PourResult) (s : State) : State :=
  State.handPace r.good pour
    { s with ptr := s.ptr.setEntry pour { e with state := .poured, result := some r } }

/-- The effects of a POUR_END that is taken, in the order of R144 and R145. The entries that the handing of the pace result brings (LSL's ALARM, PMU's PERMIT_CHANGE, LSL's STOP_ON) stand before the POUR_END entry: the model's choice, since R149 lets each block take the result in its own time (log entry 4). -/
def State.endPour (l : Loader) (x : Pour) (final : Nat) (s : State) : State × Option (PlanEntry × PourResult) :=
  let checked := (s.ptr.entry x.number).map fun e => (e, s.paceCheck e final)
  let s := s.closePour l x final
  let mass := s.ptr.holds[x.hold].mass
  let s := match checked with
    | none => s
    | some (e, r) => s.recordPour x.number e r
  let code := paceCode (checked.map (·.2))
  let s := s.log .pourEnd [l.code, x.number, final, code]
  let s := if x.number = 0 then s else s.takeEdge ⟨x.number, .endEdge⟩
  let s := s.notify .pourResult
    (u8 l.code ++ u8 x.number ++ u8 x.hold.val ++ u32 final ++ u32 mass ++ u8 code ++ paceFigures checked)
  (s.requestRecompute.grants, checked)

/-- POUR_END, behind FORMAT, PHASE and RANGE (R144, R145). -/
def judgePourEnd (a : Loader × Nat) (s : State) : Judged :=
  match s.ptr.loaders[a.1.ix] with
  | none => refuse .state s
  | some x =>
    let (s, checked) := s.endPour a.1 x a.2
    taken s (u8 x.number ++ u8 x.hold.val ++ u32 s.ptr.holds[x.hold].mass ++ u8 (paceCode (checked.map (·.2)))
      ++ if checked.isSome then paceFigures checked else [])

/-- A pour request of LOADING: length, phase, ranges, in this order (R140, R143, R144). -/
def pourRequest {α : Type} (lengthOk : Bool) (operands : Option α) (act : α → State → Judged) (s : State) : Judged :=
  if !lengthOk then refuse .format s
  else if s.ccl.phase ≠ .loading then refuse .phase s
  else match operands with
    | none => refuse .range s
    | some x => act x s

/-! ### The pace allowance and the status -/

/-- PACE_SET replaces the pace allowance (R150). -/
def writePace (x : Nat) (s : State) : State := { s with cfg := { s.cfg with pace := x } }

/-- The code of a plan entry's state, its place in R136. -/
def PlanState.code : PlanState → Nat | .planned => 0 | .pouring => 1 | .poured => 2

/-- A plan entry in POUR_STATUS: every field of R136, absent ones NONE or 0 (R152). -/
def PlanEntry.encode (pour : Nat) (e : PlanEntry) : List Byte :=
  u8 pour ++ u8 e.hold.val ++ u32 e.planned ++ u32 e.due ++ u8 e.state.code
    ++ u8 (orNone (fun b => b.1.code) e.begun) ++ u8 (orNone (fun b => b.2.toNat) e.begun)
    ++ u32 ((e.result.map (·.final)).getD 0) ++ i32 ((e.result.map (·.ballastOut)).getD 0)
    ++ i32 ((e.result.map (·.lag)).getD 0) ++ u8 (paceCode e.result)

/-- A loader slot in POUR_STATUS (R138, R152). -/
def encodeLoader : Option Pour → List Byte
  | none => u8 0
  | some x =>
    u8 1 ++ u8 x.number ++ u8 x.hold.val ++ u32 x.credited ++ flag x.permitAtBegin
      ++ u32 x.beginShipTime ++ u32 x.beginCallTime

/-- The record figures of the loading-start snapshot (R146, R152). -/
def StartFigures.encode (f : StartFigures) : List Byte :=
  u32 f.ballast ++ u32 f.cargo ++ u32 f.displacement ++ u16 f.tm ++ u16 f.ta ++ u16 f.tf ++ i32 f.trim
    ++ u32 f.sequence

/-- The loading-start snapshot in POUR_STATUS (R152). -/
def StartSnapshot.encode : StartSnapshot → List Byte
  | .absent => u8 0
  | .pending v => u8 1 ++ v.toList.flatMap u32
  | .taken f v => u8 2 ++ f.encode ++ v.toList.flatMap u32

/-- The reply body of POUR_STATUS (R152). The entries of PLAN stand behind the number of entries in the plan alone, without a count of their own: the model's choice, since R200 puts a count before a list of varying length (log entry 14). -/
def State.pourBody (part : PourPart) (s : State) : List Byte :=
  match part with
  | .plan first count =>
    u8 s.ptr.plan.length
      ++ (List.range count).flatMap fun i =>
          match s.ptr.plan[first - 1 + i]? with
          | none => []
          | some e => e.encode (first + i)
  | .loaders => encodeLoader s.ptr.loaders[Loader.a.ix] ++ encodeLoader s.ptr.loaders[Loader.b.ix]
  | .holds => (List.finRange 9).flatMap fun h => u32 s.ptr.holds[h].mass ++ u8 s.ptr.holds[h].pours
  | .start => s.ptr.start.encode ++ u16 s.cfg.pace

/-! ### The commands -/

/-- PLAN_LOAD (R137). -/
def execPlanLoad (tag : Tag) (body : List Byte) (s : State) : Result :=
  .next (s.serve 0x71 tag fun _ => judgePlanLoad body)

/-- POUR_BEGIN (R140, R141, R142). -/
def execPourBegin (tag : Tag) (body : List Byte) (s : State) : Result :=
  .next (s.serve 0x72 tag fun _ => pourRequest (lengthIs 3 body) (parsePourBegin body) judgePourBegin)

/-- POUR_PROGRESS (R143). -/
def execPourProgress (tag : Tag) (body : List Byte) (s : State) : Result :=
  .next (s.serve 0x73 tag fun _ => pourRequest (lengthIs 5 body) (parsePourTonnes body) judgePourProgress)

/-- POUR_END (R144, R145). -/
def execPourEnd (tag : Tag) (body : List Byte) (s : State) : Result :=
  .next (s.serve 0x74 tag fun _ => pourRequest (lengthIs 5 body) (parsePourTonnes body) judgePourEnd)

/-- PACE_SET (R3, R150). -/
def execPaceSet (tag : Tag) (body : List Byte) (s : State) : Result :=
  .next (s.serve 0x75 tag fun _ => tableWrite (lengthIs 2 body) (parsePaceSet body) writePace)

/-- POUR_STATUS (R152). -/
def execPourStatus (tag : Tag) (body : List Byte) (s : State) : Result :=
  .next (s.serve 0x76 tag fun _ =>
    anyPhase (partLength (fun p => p == 0) 4 body) (parsePourStatus body) fun part s => taken s (s.pourBody part))

end Sys2Proof.Machine
end

