-- ==== Sys2Proof/Machine/RecordCommands.lean ====
section
/-! DEFINITION. The commands of chapter 9: LOG_READ (R176), TOTALS_GET (R181), REPORT_COMPOSE (R183), REPORT_READ (R188), and the completion of a composition (R184). -/

namespace Sys2Proof.Machine

/-! ### The log and the totals -/

/-- The entries held whose sequence numbers lie in a range (R176). -/
def Rcu.entries (r : Rcu) (first count : Nat) : List LogEntry :=
  r.log.filter fun e => within first (first + count - 1) e.sequence

/-- The sequence number of the first entry of a list, or 0. -/
def firstSequence (l : List LogEntry) : Nat := (l.head?.map (·.sequence)).getD 0

/-- The reply body of LOG_READ (R176, R205). -/
def Rcu.logBody (r : Rcu) (first count : Nat) : List Byte :=
  let l := r.entries first count
  u32 (firstSequence r.log) ++ u32 ((r.log.getLast?.map (·.sequence)).getD 0) ++ u32 (r.nextSequence.getD 0)
    ++ flag r.wrapped ++ u8 l.length ++ u32 (firstSequence l) ++ l.flatMap LogEntry.encode

/-- A tank in TOTALS_GET (R181). -/
def TankTotals.encode (x : TankTotals) : List Byte :=
  u32 x.start ++ u32 x.intake ++ u32 x.discharge ++ u32 x.shiftIn ++ u32 x.shiftOut

/-- The eight event counts, in the order of R180. -/
def Counts.encode (c : Counts) : List Byte :=
  u16 c.stopAssertions ++ u16 c.permitDrops ++ u16 c.paceLags ++ u16 c.attendanceBad
    ++ u16 c.emergencyTrips ++ u16 c.unplannedPours ++ u16 c.stepsDone ++ u16 c.stepsFaulted

/-- The arrival condition in TOTALS_GET: ABSENT 0, PENDING 1, TAKEN 2 with its ship time and figures (R177, R181). -/
def Arrival.encode : Arrival → List Byte
  | .absent => u8 0
  | .pending _ => u8 1
  | .taken t f => u8 2 ++ u32 t ++ f.encode

/-- The reply body of TOTALS_GET (R181). The tanks stand one after another without a count of their own, though R200 puts a count before a list of varying length: the model's choice (log entry 14), since the request gives the number. -/
def Rcu.totalsBody (r : Rcu) : TotalsPart → List Byte
  | .tanks first count => ((r.totals.toList.drop first).take count).flatMap TankTotals.encode
  | .summary => r.peaks.encode ++ r.counts.encode ++ flag r.wrapped ++ r.arrival.encode

/-! ### Reports -/

/-- Whether a report of a kind may be asked for in a phase (R183). -/
def composePhase (interim : Bool) (p : Phase) : Bool :=
  if interim then p == .loading || p == .final else p == .final

/-- REPORT_COMPOSE, behind FORMAT and RANGE (R183). -/
def judgeReportCompose (interim : Bool) (s : State) : Judged :=
  if !composePhase interim s.ccl.phase then refuse .phase s
  else if s.rcu.composing.isSome ∨ s.sst.writer = some .report then refuse .busy s
  else match s.cen.current with
    | none => refuse .state s
    | some record =>
      taken { s with rcu := { s.rcu with composing := some (s.composeSnapshot interim record) } }
        (flag interim ++ u16 (nextSerial s.rcu.serial))

/-- The content of a REPORT_DONE notice (R184). -/
def Report.doneContent (r : Report) : List Byte :=
  flag r.interim ++ u16 r.serial ++ u16 r.callNumber ++ u16 r.bytes.length ++ r.bytes.drop (r.bytes.length - 4)

/-- The composition in flight completes: the slot's content is replaced whole, the composer is IDLE, and REPORT_DONE is made pending (R184). -/
def State.completeComposition (s : State) : State :=
  match s.rcu.composing with
  | none => s
  | some c =>
    let serial := nextSerial s.rcu.serial
    let r := c.report serial
    State.notify .reportDone r.doneContent
      { s with rcu := { s.rcu with slot := some r, serial := serial, composing := none } }

/-- A source of REPORT_READ: its state code, and its report where it holds one (R188). -/
def State.reportSource (stored : Bool) (s : State) : Nat × Option Report :=
  if stored then
    match s.sst.report with
    | .invalid => (0, none)
    | .writing _ => (1, none)
    | .valid x => (2, some x.content)
  else (s.rcu.slot.isSome.toNat, s.rcu.slot)

/-- The reply body of REPORT_READ (R188). -/
def State.reportBody (x : Bool × Nat × Nat) (s : State) : List Byte :=
  let (code, report) := s.reportSource x.1
  let bytes := (report.map (·.bytes)).getD []
  let part := (bytes.drop x.2.1).take x.2.2
  u8 code ++ flag s.rcu.composing.isSome ++ u16 ((report.map (·.serial)).getD 0) ++ u16 bytes.length
    ++ u8 part.length ++ part

/-! ### The commands -/

/-- LOG_READ (R176). -/
def execLogRead (tag : Tag) (body : List Byte) (s : State) : Result :=
  .next (s.serve 0x91 tag fun _ =>
    anyPhase (lengthIs 5 body) (parseLogRead body) fun x s => taken s (s.rcu.logBody x.1 x.2))

/-- TOTALS_GET (R181). -/
def execTotalsGet (tag : Tag) (body : List Byte) (s : State) : Result :=
  .next (s.serve 0x92 tag fun _ =>
    anyPhase (partLength (fun p => p == 0) 2 body) (parseTotalsGet body) fun x s => taken s (s.rcu.totalsBody x))

/-- REPORT_COMPOSE (R183). -/
def execReportCompose (tag : Tag) (body : List Byte) (s : State) : Result :=
  .next (s.serve 0x93 tag fun _ => anyPhase (lengthIs 1 body) (parseReportCompose body) judgeReportCompose)

/-- REPORT_READ (R188). -/
def execReportRead (tag : Tag) (body : List Byte) (s : State) : Result :=
  .next (s.serve 0x94 tag fun _ =>
    anyPhase (lengthIs 4 body) (parseReportRead body) fun x s => taken s (s.reportBody x))

/-- REPORT_COMPOSITION_COMPLETE (R184). -/
def execReportCompositionComplete (s : State) : Result := .next (s.event State.completeComposition)

end Sys2Proof.Machine
end

