-- ==== Sys2Proof/Machine/StepCommands.lean ====
section
/-! DEFINITION. The commands of chapter 5: STEP_ADD (R90, R91), STEP_CANCEL (R103) and STEP_LIST (R110). -/

namespace Sys2Proof.Machine

/-- The status that the checks of R90 behind FORMAT, PHASE and the ranges give a step; none when it passes them all. -/
def State.stepCheck (r : StepRequest) (s : State) : Option Status :=
  let tanks := r.source.toList ++ r.dest.toList
  let target := if r.kind = .ballast then r.dest else r.source
  if target.any fun t => !within s.cfg.bounds[t].lower s.cfg.bounds[t].upper r.target then some .range
  else if r.gate.any fun g => decide (s.ptr.plan.length < g.pour) then some .unknown
  else if tanks.any fun t => s.tanks[t].lock != .unlocked then some .locked
  else if tanks.any fun t => s.tanks[t].stale then some .stale
  else if s.tsq.freeSlot = none then some .full
  else if !s.cen.takesPrediction then some .busy
  else none

/-- STEP_ADD (R90, R91): a step that passes every check is reserved, and its reply waits for its prediction. -/
def judgeStepAdd (body : List Byte) (reply : ReplyNo) (s : State) : Judged :=
  if !lengthIs 9 body then refuse .format s
  else if s.ccl.phase = .setup then refuse .phase s
  else match parseStepAdd body with
    | none => refuse .range s
    | some r =>
      match s.stepCheck r, s.tsq.freeSlot with
      | some st, _ => refuse st s
      | none, some k => (s.reserveStep r k reply, none)
      | none, none => refuse .full s

/-- A step in CHECKING has its cancel requested (R103). -/
def State.requestCancel (k : SlotNo) (x : StepRec) (s : State) : State :=
  s.setStep k { x with cancelRequested := true }

/-- STEP_CANCEL by the step's state (R103). -/
def judgeStepCancel (number : Nat) (s : State) : Judged :=
  match s.tsq.slotOf number with
  | none => refuse .unknown s
  | some k =>
    match s.tsq.slots[k] with
    | none => refuse .unknown s
    | some x =>
      match x.state with
      | .checking => taken (s.requestCancel k x)
      | .windDown => refuse .state s
      | _ => taken (s.endStep k .cancelled).grants

/-- The held steps: the admitted ones in queue order, then those in CHECKING in order of reservation (R110). -/
def Tsq.held (q : Tsq) : List (SlotNo × StepRec) :=
  (q.order ++ q.checking).filterMap fun k => q.slots[k].map fun x => (k, x)

/-- The reply body of STEP_LIST (R110, R203). -/
def Tsq.listBody (q : Tsq) (first count : Nat) : List Byte :=
  u8 q.held.length ++ ((q.held.drop (first - 1)).take count).flatMap fun kx => kx.2.summary kx.1

/-! ### The commands -/

/-- STEP_ADD (R90, R91). -/
def execStepAdd (tag : Tag) (body : List Byte) (s : State) : Result :=
  .next (s.serve 0x51 tag (judgeStepAdd body))

/-- STEP_CANCEL (R103). -/
def execStepCancel (tag : Tag) (body : List Byte) (s : State) : Result :=
  .next (s.serve 0x52 tag fun _ =>
    anyPhase (lengthIs 1 body) (whenever (within 1 255 (field body 0 1)) (field body 0 1)) judgeStepCancel)

/-- STEP_LIST (R110). -/
def execStepList (tag : Tag) (body : List Byte) (s : State) : Result :=
  .next (s.serve 0x53 tag fun _ =>
    anyPhase (lengthIs 2 body) (parseStepList body) fun x s => taken s (s.tsq.listBody x.1 x.2))

end Sys2Proof.Machine
end

