-- ==== Sys2Proof/Machine/TableCommands.lean ====
section
/-! DEFINITION. The commands of chapter 1: the table-writing requests (R3 to R8, R11 to R14), BOUNDS_SET (R9, R38), BERTH_SET (R15) and TABLE_GET (R16). -/

namespace Sys2Proof.Machine

/-- A vector with the entries of a list in place from an index on (R5, R6). -/
def overwrite {α : Type} {n : Nat} (v : Vector α n) (first : Nat) (l : List α) : Vector α n :=
  Vector.ofFn fun i : Fin n => if first ≤ i.val then (l[i.val - first]?).getD v[i] else v[i]

/-- SHIP_SET writes the four ship figures (R4). -/
def writeShip (f : ShipFigures) (s : State) : State := { s with cfg := { s.cfg with ship := f } }

/-- SEGMENT_SET writes consecutive segments (R5). -/
def writeSegments (x : Nat × List Segment) (s : State) : State :=
  { s with cfg := { s.cfg with segments := overwrite s.cfg.segments x.1 x.2 } }

/-- STATION_SET writes consecutive stations (R6). -/
def writeStations (x : Nat × List Station) (s : State) : State :=
  { s with cfg := { s.cfg with stations := overwrite s.cfg.stations (x.1 - 1) x.2 } }

/-- TANK_SET writes a tank's configuration (R7); the STALE flags follow its metering (R30). -/
def writeTank (x : TankNo × TankConfig) (s : State) : State :=
  State.rebindTanks { s with cfg := { s.cfg with tanks := s.cfg.tanks.set x.1 x.2 } }

/-- SOUNDING_SET replaces a tank's sounding table (R8). -/
def writeSounding (x : TankNo × List Point) (s : State) : State :=
  { s with cfg := { s.cfg with soundings := s.cfg.soundings.set x.1 x.2 } }

/-- HOLD_SET writes a hold's configuration (R11). -/
def writeHold (x : HoldNo × HoldConfig) (s : State) : State :=
  { s with cfg := { s.cfg with holds := s.cfg.holds.set x.1 x.2 } }

/-- PUMP_SET writes a pump's configuration (R12); a run-feedback channel newly named gives its present state (R19). -/
def writePump (x : PumpNo × PumpConfig) (s : State) : State :=
  let was := s.cfg.pumps[x.1].runChannel
  let s := { s with cfg := { s.cfg with pumps := s.cfg.pumps.set x.1 x.2 } }
  match x.2.runChannel with
  | none => s
  | some ch => if was = some ch then s else s.bindPump x.1 ch

/-- VALVE_SET writes a valve's configuration (R13); a feedback channel newly named gives its present state (R19). -/
def writeValve (x : ValveNo × ValveConfig) (s : State) : State :=
  let was := s.cfg.valves[x.1].channel
  let s := { s with cfg := { s.cfg with valves := s.cfg.valves.set x.1 x.2 } }
  match x.2.channel with
  | none => s
  | some ch => if was = some ch then s else s.bindValve x.1 ch

/-- BAND_SET writes the thresholds of a class (R14). -/
def writeThresholds (x : Fin 7 × Thresholds) (s : State) : State :=
  { s with cfg := { s.cfg with thresholds := s.cfg.thresholds.set x.1 x.2 } }

/-- The bounds of a tank are replaced, TSQ is told, and a recompute is requested (R38). -/
def takeBounds (x : TankNo × Bounds) (s : State) : State :=
  let s := { s with cfg := { s.cfg with bounds := s.cfg.bounds.set x.1 x.2 } }
  ((s.boundsPassed x.1).requestRecompute).grants

/-- The berth limits are replaced and logged, and a recompute is requested (R15). -/
def takeBerth (b : BerthLimits) (s : State) : State :=
  let s := { s with berth := b }
  (s.log .berthSet [b.maxDraft, b.clearance, b.gm]).requestRecompute

/-- The code of a side, its place in R7. -/
def Side.code : Side → Nat | .port => 0 | .centre => 1 | .starboard => 2

/-- The fields of a table item, as TABLE_GET gives them (R16, R200). -/
def State.tableItem (s : State) : TableItem → List Byte
  | .ship => u16 s.cfg.ship.ls ++ u16 s.cfg.ship.trimStern ++ u16 s.cfg.ship.trimHead ++ u16 s.cfg.ship.listLimit
  | .segment i => u16 s.cfg.segments[i].mass ++ u16 s.cfg.segments[i].immersion
  | .station i => u32 s.cfg.stations[i].shear ++ u32 s.cfg.stations[i].hogging ++ u32 s.cfg.stations[i].sagging
  | .tank t =>
    let c := s.cfg.tanks[t]
    u8 c.side.code ++ u8 c.first ++ u8 c.count ++ i16 c.arm ++ u16 c.density ++ flag (!c.metered)
      ++ u16 c.fixedLevel ++ u16 s.cfg.bounds[t].lower ++ u16 s.cfg.bounds[t].upper
  | .sounding t =>
    u8 s.cfg.soundings[t].length ++ s.cfg.soundings[t].flatMap fun p => u16 p.level ++ u32 p.volume
  | .hold h =>
    let c := s.cfg.holds[h]
    u8 c.first ++ u8 c.count ++ i16 c.arm ++ u16 c.coaming ++ u32 c.maxMass
  | .pump p =>
    let c := s.cfg.pumps[p]
    u8 c.gearInterval ++ u8 c.startTime ++ u8 c.noFlowTime ++ u16 c.litresPerPulse ++ u16 c.minInterval
      ++ u8 (ixOrNone c.runChannel) ++ u8 (ixOrNone c.flowChannel)
  | .valve v => u8 s.cfg.valves[v].travel ++ u8 (ixOrNone s.cfg.valves[v].channel)
  | .threshold c => u16 s.cfg.thresholds[c].caution ++ u16 s.cfg.thresholds[c].stop
  | .berth => u16 s.berth.maxDraft ++ u16 s.berth.clearance ++ u16 s.berth.gm

/-! ### The commands -/

/-- SHIP_SET (R3, R4). -/
def execShipSet (tag : Tag) (body : List Byte) (s : State) : Result :=
  .next (s.serve 0x11 tag fun _ => tableWrite (lengthIs 8 body) (parseShipSet body) writeShip)

/-- SEGMENT_SET (R3, R5). -/
def execSegmentSet (tag : Tag) (body : List Byte) (s : State) : Result :=
  .next (s.serve 0x12 tag fun _ => tableWrite (lengthCounted 2 4 1 body) (parseSegmentSet body) writeSegments)

/-- STATION_SET (R3, R6). -/
def execStationSet (tag : Tag) (body : List Byte) (s : State) : Result :=
  .next (s.serve 0x13 tag fun _ => tableWrite (lengthCounted 2 12 1 body) (parseStationSet body) writeStations)

/-- TANK_SET (R3, R7, R30). -/
def execTankSet (tag : Tag) (body : List Byte) (s : State) : Result :=
  .next (s.serve 0x14 tag fun _ => tableWrite (lengthIs 11 body) (parseTankSet body) writeTank)

/-- SOUNDING_SET (R3, R8). -/
def execSoundingSet (tag : Tag) (body : List Byte) (s : State) : Result :=
  .next (s.serve 0x15 tag fun _ => tableWrite (lengthCounted 2 6 1 body) (parseSoundingSet body) writeSounding)

/-- HOLD_SET (R3, R11). -/
def execHoldSet (tag : Tag) (body : List Byte) (s : State) : Result :=
  .next (s.serve 0x16 tag fun _ => tableWrite (lengthIs 11 body) (parseHoldSet body) writeHold)

/-- PUMP_SET (R3, R12, R19). -/
def execPumpSet (tag : Tag) (body : List Byte) (s : State) : Result :=
  .next (s.serve 0x17 tag fun _ => tableWrite (lengthIs 10 body) (parsePumpSet body) writePump)

/-- VALVE_SET (R3, R13, R19). -/
def execValveSet (tag : Tag) (body : List Byte) (s : State) : Result :=
  .next (s.serve 0x18 tag fun _ => tableWrite (lengthIs 3 body) (parseValveSet body) writeValve)

/-- BAND_SET (R3, R14). -/
def execBandSet (tag : Tag) (body : List Byte) (s : State) : Result :=
  .next (s.serve 0x19 tag fun _ => tableWrite (lengthIs 5 body) (parseBandSet body) writeThresholds)

/-- BOUNDS_SET (R9, R38). -/
def execBoundsSet (tag : Tag) (body : List Byte) (s : State) : Result :=
  .next (s.serve 0x1A tag fun _ =>
    anyPhase (lengthIs 5 body) (parseBoundsSet body) fun x s => taken (takeBounds x s))

/-- BERTH_SET (R15). -/
def execBerthSet (tag : Tag) (body : List Byte) (s : State) : Result :=
  .next (s.serve 0x1B tag fun _ =>
    anyPhase (lengthIs 6 body) (parseBerthSet body) fun x s => taken (takeBerth x s))

/-- TABLE_GET (R16). -/
def execTableGet (tag : Tag) (body : List Byte) (s : State) : Result :=
  .next (s.serve 0x1C tag fun _ =>
    anyPhase (lengthIs 2 body) (parseTableGet body) fun x s => taken s (s.tableItem x))

end Sys2Proof.Machine
end

