-- ==== Sys2Proof/Machine/Dispatch.lean ====
section
/-! DEFINITION. The meaning of each command, one arm a constructor. -/

namespace Sys2Proof.Machine

def exec (i : Instr) (s : State) : Host.Outcome State Fault Refusal :=
  match i with
  | .powerOn config report => Sys2Proof.Machine.execPowerOn config report s
  | .powerLoss => Sys2Proof.Machine.execPowerLoss s
  | .frameDiscarded frame => Sys2Proof.Machine.execFrameDiscarded frame s
  | .rxGapTimeout after => Sys2Proof.Machine.execRxGapTimeout after s
  | .rxFramingError after => Sys2Proof.Machine.execRxFramingError after s
  | .unknownKindRequest kind tag body => Sys2Proof.Machine.execUnknownKindRequest kind tag body s
  | .txFrameDone => Sys2Proof.Machine.execTxFrameDone s
  | .shipSet tag body => Sys2Proof.Machine.execShipSet tag body s
  | .segmentSet tag body => Sys2Proof.Machine.execSegmentSet tag body s
  | .stationSet tag body => Sys2Proof.Machine.execStationSet tag body s
  | .tankSet tag body => Sys2Proof.Machine.execTankSet tag body s
  | .soundingSet tag body => Sys2Proof.Machine.execSoundingSet tag body s
  | .holdSet tag body => Sys2Proof.Machine.execHoldSet tag body s
  | .pumpSet tag body => Sys2Proof.Machine.execPumpSet tag body s
  | .valveSet tag body => Sys2Proof.Machine.execValveSet tag body s
  | .bandSet tag body => Sys2Proof.Machine.execBandSet tag body s
  | .boundsSet tag body => Sys2Proof.Machine.execBoundsSet tag body s
  | .berthSet tag body => Sys2Proof.Machine.execBerthSet tag body s
  | .tableGet tag body => Sys2Proof.Machine.execTableGet tag body s
  | .channelSet tag body => Sys2Proof.Machine.execChannelSet tag body s
  | .scanSet tag body => Sys2Proof.Machine.execScanSet tag body s
  | .channelGet tag body => Sys2Proof.Machine.execChannelGet tag body s
  | .tankLock tag body => Sys2Proof.Machine.execTankLock tag body s
  | .tankUnlock tag body => Sys2Proof.Machine.execTankUnlock tag body s
  | .tankGet tag body => Sys2Proof.Machine.execTankGet tag body s
  | .predict tag body => Sys2Proof.Machine.execPredict tag body s
  | .conditionGet tag body => Sys2Proof.Machine.execConditionGet tag body s
  | .stopAck tag body => Sys2Proof.Machine.execStopAck tag body s
  | .stopSet tag body => Sys2Proof.Machine.execStopSet tag body s
  | .alarmAck tag body => Sys2Proof.Machine.execAlarmAck tag body s
  | .alarmSet tag body => Sys2Proof.Machine.execAlarmSet tag body s
  | .limitStatus tag body => Sys2Proof.Machine.execLimitStatus tag body s
  | .stepAdd tag body => Sys2Proof.Machine.execStepAdd tag body s
  | .stepCancel tag body => Sys2Proof.Machine.execStepCancel tag body s
  | .stepList tag body => Sys2Proof.Machine.execStepList tag body s
  | .stepPin tag body => Sys2Proof.Machine.execStepPin tag body s
  | .faultClear tag body => Sys2Proof.Machine.execFaultClear tag body s
  | .plantStatus tag body => Sys2Proof.Machine.execPlantStatus tag body s
  | .planLoad tag body => Sys2Proof.Machine.execPlanLoad tag body s
  | .pourBegin tag body => Sys2Proof.Machine.execPourBegin tag body s
  | .pourProgress tag body => Sys2Proof.Machine.execPourProgress tag body s
  | .pourEnd tag body => Sys2Proof.Machine.execPourEnd tag body s
  | .paceSet tag body => Sys2Proof.Machine.execPaceSet tag body s
  | .pourStatus tag body => Sys2Proof.Machine.execPourStatus tag body s
  | .permitSet tag body => Sys2Proof.Machine.execPermitSet tag body s
  | .challenge tag body => Sys2Proof.Machine.execChallenge tag body s
  | .answer tag body => Sys2Proof.Machine.execAnswer tag body s
  | .permitStatus tag body => Sys2Proof.Machine.execPermitStatus tag body s
  | .logRead tag body => Sys2Proof.Machine.execLogRead tag body s
  | .totalsGet tag body => Sys2Proof.Machine.execTotalsGet tag body s
  | .reportCompose tag body => Sys2Proof.Machine.execReportCompose tag body s
  | .reportRead tag body => Sys2Proof.Machine.execReportRead tag body s
  | .identify tag body => Sys2Proof.Machine.execIdentify tag body s
  | .clockSet tag body => Sys2Proof.Machine.execClockSet tag body s
  | .callSet tag body => Sys2Proof.Machine.execCallSet tag body s
  | .noticeSelect tag body => Sys2Proof.Machine.execNoticeSelect tag body s
  | .phaseSet tag body => Sys2Proof.Machine.execPhaseSet tag body s
  | .storeWrite tag body => Sys2Proof.Machine.execStoreWrite tag body s
  | .storeStatus tag body => Sys2Proof.Machine.execStoreStatus tag body s
  | .restart tag body => Sys2Proof.Machine.execRestart tag body s
  | .scanEnd samples => Sys2Proof.Machine.execScanEnd samples s
  | .switchInputChange channel closed => Sys2Proof.Machine.execSwitchInputChange channel closed s
  | .switchDebounceExpiry channel => Sys2Proof.Machine.execSwitchDebounceExpiry channel s
  | .flowPulse channel => Sys2Proof.Machine.execFlowPulse channel s
  | .emergencyStopActivation => Sys2Proof.Machine.execEmergencyStopActivation s
  | .emergencyStopRelease => Sys2Proof.Machine.execEmergencyStopRelease s
  | .valveOpenTimeout valve => Sys2Proof.Machine.execValveOpenTimeout valve s
  | .valveCloseTimeout valve => Sys2Proof.Machine.execValveCloseTimeout valve s
  | .rampGearExpiry pump => Sys2Proof.Machine.execRampGearExpiry pump s
  | .windDownGearExpiry pump => Sys2Proof.Machine.execWindDownGearExpiry pump s
  | .pumpStartTimeout pump => Sys2Proof.Machine.execPumpStartTimeout pump s
  | .pumpStopTimeout pump => Sys2Proof.Machine.execPumpStopTimeout pump s
  | .noFlowExpiry pump => Sys2Proof.Machine.execNoFlowExpiry pump s
  | .alarmPulseExpiry => Sys2Proof.Machine.execAlarmPulseExpiry s
  | .answerTimeout => Sys2Proof.Machine.execAnswerTimeout s
  | .challengeTimeout => Sys2Proof.Machine.execChallengeTimeout s
  | .challengeWindowOpens => Sys2Proof.Machine.execChallengeWindowOpens s
  | .currentRecomputeComplete => Sys2Proof.Machine.execCurrentRecomputeComplete s
  | .predictionComplete => Sys2Proof.Machine.execPredictionComplete s
  | .reportCompositionComplete => Sys2Proof.Machine.execReportCompositionComplete s
  | .storeWriteComplete agrees => Sys2Proof.Machine.execStoreWriteComplete agrees s
  | .clockSecondAdvance => Sys2Proof.Machine.execClockSecondAdvance s
  | .lengthByteAbove240 length => Sys2Proof.Machine.execLengthByteAbove240 length s

end Sys2Proof.Machine
end

