-- ==== Sys2Proof/Machine/Tick.lean ====
section
/-! DEFINITION. The passing of time while no command waits (log entry 2): the expiries that are due, and the tick of one millisecond. -/

namespace Sys2Proof.Machine

/-- A command where a deadline is present and reached. -/
def dueAt (now : Nat) (until_ : Option Nat) (c : Instr) : Option Instr :=
  match until_ with
  | none => none
  | some t => if t ≤ now then some c else none

/-- The debounce of a channel: when its raw input will have held a state it is not debounced to (R26). -/
def State.debounceAt (ch : ChannelNo) (s : State) : Option Nat :=
  match s.cfg.channels[ch], s.fcu.channels[ch] with
  | .switch debounce _, .switch was since _ => if was = some s.pins.contacts[ch] then none else some (since + debounce)
  | _, _ => none

/-- The gear timer of a pump whose step is in a state. -/
def State.gearAt (p : PumpNo) (state : StepState) (s : State) : Option Nat :=
  match s.tsq.stepOn p with
  | none => none
  | some kx => if kx.2.state = state then s.pva.pumps[p].gearUntil else none

/-- A STARTING watch. -/
def RunWatch.startingAt : RunWatch → Option Nat
  | .starting t => some t
  | _ => none

/-- A STOPPING watch. -/
def RunWatch.stoppingAt : RunWatch → Option Nat
  | .stopping t => some t
  | _ => none

/-- An OPENING watch. -/
def TravelWatch.openingAt : TravelWatch → Option Nat
  | .opening t => some t
  | _ => none

/-- A CLOSING watch. -/
def TravelWatch.closingAt : TravelWatch → Option Nat
  | .closing t => some t
  | _ => none

/-- When the answer timer reaches its timeout (R160). -/
def State.answerAt (s : State) : Option Nat :=
  match s.pmu.unit with
  | .awaitAnswer since => some (since + seconds s.cfg.permit.answerTimeout)
  | _ => none

/-- When the challenge timer reaches R_open, where that is still to come (R161). -/
def State.windowAt (s : State) : Option Nat :=
  match s.pmu.unit with
  | .awaitChallenge since false => some (since + seconds s.cfg.permit.rOpen)
  | _ => none

/-- When the challenge timer reaches its timeout (R162). -/
def State.challengeAt (s : State) : Option Nat :=
  match s.pmu.unit with
  | .awaitChallenge since _ => some (since + seconds s.cfg.permit.challengeTimeout)
  | _ => none

/-- The expiries that are due, in the order the model takes those of one millisecond (log entry 2). -/
def State.due (s : State) : List Instr :=
  let pumps (at_ : PumpNo → Option Nat) (c : PumpNo → Instr) : List (Option Instr) :=
    (List.finRange 3).map fun p => dueAt s.now (at_ p) (c p)
  let valves (at_ : ValveNo → Option Nat) (c : ValveNo → Instr) : List (Option Instr) :=
    (List.finRange 21).map fun v => dueAt s.now (at_ v) (c v)
  List.reduceOption
    ([dueAt s.now (some s.ccl.secondAt) .clockSecondAdvance]
      ++ (List.finRange 48).map (fun ch => dueAt s.now (s.debounceAt ch) (.switchDebounceExpiry ch))
      ++ pumps (fun p => s.gearAt p .ramp) .rampGearExpiry
      ++ pumps (fun p => s.gearAt p .windDown) .windDownGearExpiry
      ++ pumps (fun p => s.pva.pumps[p].watch.startingAt) .pumpStartTimeout
      ++ pumps (fun p => s.pva.pumps[p].watch.stoppingAt) .pumpStopTimeout
      ++ pumps (fun p => s.pva.pumps[p].noFlowUntil) .noFlowExpiry
      ++ valves (fun v => s.pva.valves[v].watch.openingAt) .valveOpenTimeout
      ++ valves (fun v => s.pva.valves[v].watch.closingAt) .valveCloseTimeout
      ++ [dueAt s.now s.lsl.pulseUntil .alarmPulseExpiry,
          dueAt s.now s.answerAt .answerTimeout,
          dueAt s.now s.windowAt .challengeWindowOpens,
          dueAt s.now s.challengeAt .challengeTimeout])

/-- The scan end that the scan timer raises, with the raw samples that stand at the channels (R21, R22; log entry 27). -/
def State.scanEnding (s : State) : Instr := .scanEnd (Vector.ofFn fun ch => Config.levelSample s.choices ch)

/-- One tick: the first expiry that is due is put in the queue, and behind them the end of a scan period; when nothing is due, a millisecond passes. Without power nothing runs out (log entry 2). -/
def State.tick (s : State) : State :=
  if s.powered then
    match s.due with
    | c :: _ => { s with pending := s.pending ++ [c] }
    | [] =>
      if s.fcu.scan.endsAt ≤ s.now then
        { s with pending := s.pending ++ [s.scanEnding], choices := s.choices + 1 }
      else { s with now := s.now + 1 }
  else { s with now := s.now + 1 }

end Sys2Proof.Machine
end

