-- ==== Sys2Proof/Safety.lean ====
section
/-! DEFINITION. What a safe run of the controller is: the promises its state keeps between commands, block by block. Each is a decidable property of one state, in the words of the rules. -/

namespace Sys2Proof.Machine

/-! ### What a command leaves alone -/

/-- The nineteen parts of the state. -/
inductive Part where
  | powered | cfg | berth | fcu | tanks | ptr | cen | lsl | tsq | pva
  | pmu | rcu | sst | lnk | ccl | pins | now | choices | pending
deriving DecidableEq, Repr

/-- A part of one state is as it is in another. -/
def Same (s t : State) : Part → Prop
  | .powered => t.powered = s.powered
  | .cfg => t.cfg = s.cfg
  | .berth => t.berth = s.berth
  | .fcu => t.fcu = s.fcu
  | .tanks => t.tanks = s.tanks
  | .ptr => t.ptr = s.ptr
  | .cen => t.cen = s.cen
  | .lsl => t.lsl = s.lsl
  | .tsq => t.tsq = s.tsq
  | .pva => t.pva = s.pva
  | .pmu => t.pmu = s.pmu
  | .rcu => t.rcu = s.rcu
  | .sst => t.sst = s.sst
  | .lnk => t.lnk = s.lnk
  | .ccl => t.ccl = s.ccl
  | .pins => t.pins = s.pins
  | .now => t.now = s.now
  | .choices => t.choices = s.choices
  | .pending => t.pending = s.pending

/-- Every part outside a list is unchanged. -/
structure Touches (l : List Part) (s t : State) : Prop where
  same : ∀ p, p ∉ l → Same s t p

/-! ### How a request is answered (R190 to R193, R196) -/

/-- A controller that can take a request: it has power, and a reply slot is FREE (R191). -/
abbrev State.serving (s : State) : Prop := s.powered = true ∧ s.lnk.freeSlot.isSome = true

/-- A request has been answered at once: the assembler is in HUNT; a slot that was FREE holds the reply; the reply stands behind those filled before it while a frame is being sent, and is itself begun when the transmitter was IDLE with nothing waiting (R190 to R193, R196). -/
def Answered (s t : State) (kind : Byte) (tag : Tag) (st : Status) (body : List Byte) : Prop :=
  ∃ r : ReplyNo, s.lnk.slots[r] = .free ∧ t.lnk.rx = .hunt
    ∧ t.lnk.slots = s.lnk.slots.set r (.filled kind tag st body)
    ∧ (s.lnk.tx ≠ .idle → t.lnk.tx = s.lnk.tx ∧ t.lnk.filled = s.lnk.filled ++ [r])
    ∧ (s.lnk.tx = .idle → s.lnk.filled = [] →
        t.lnk.tx = .reply r { cls := 2, kind := kind, tag := tag, body := u8 st.code ++ body } ∧ t.lnk.filled = [])

/-- No notice is made or withdrawn, and no kind is enabled or disabled. -/
def Quiet (s t : State) : Prop := t.lnk.notices = s.lnk.notices ∧ t.lnk.enabled = s.lnk.enabled

/-- A request has been answered at once and nothing else has changed. -/
def Replied (s t : State) (kind : Byte) (tag : Tag) (st : Status) (body : List Byte) : Prop :=
  { t with lnk := s.lnk } = s ∧ Quiet s t ∧ Answered s t kind tag st body

/-- A table has been written, the request answered OK, and nothing else has changed. -/
def Wrote (s t : State) (cfg : ConfigTables) (kind : Byte) (tag : Tag) : Prop :=
  { t with lnk := s.lnk } = { s with cfg := cfg } ∧ Quiet s t ∧ Answered s t kind tag .ok []

/-- A request has been taken with its reply deferred: a slot that was FREE is reserved, and no reply is filled (R191, R192). -/
def Deferred (s t : State) (r : ReplyNo) (kind : Byte) (tag : Tag) : Prop :=
  s.lnk.slots[r] = .free ∧ t.lnk.rx = .hunt ∧ t.lnk.slots = s.lnk.slots.set r (.reserved kind tag)
    ∧ t.lnk.enabled = s.lnk.enabled
    ∧ (s.lnk.tx ≠ .idle → t.lnk.tx = s.lnk.tx ∧ t.lnk.filled = s.lnk.filled ∧ t.lnk.notices = s.lnk.notices)

/-- The transmitter is busy, or nothing waits for it: so it stands with power between any two commands (R196). -/
abbrev Settled (s : State) : Prop :=
  s.lnk.tx = .idle → s.lnk.filled = [] ∧ ∀ p : PlaceNo, s.lnk.notices[p] = none

/-- The kind, tag and body of a request of the list of section 10.3 (R200). -/
def requestOf : Instr → Option (Byte × Tag × List Byte)
  | .shipSet tag body => some (0x11, tag, body)
  | .segmentSet tag body => some (0x12, tag, body)
  | .stationSet tag body => some (0x13, tag, body)
  | .tankSet tag body => some (0x14, tag, body)
  | .soundingSet tag body => some (0x15, tag, body)
  | .holdSet tag body => some (0x16, tag, body)
  | .pumpSet tag body => some (0x17, tag, body)
  | .valveSet tag body => some (0x18, tag, body)
  | .bandSet tag body => some (0x19, tag, body)
  | .boundsSet tag body => some (0x1A, tag, body)
  | .berthSet tag body => some (0x1B, tag, body)
  | .tableGet tag body => some (0x1C, tag, body)
  | .channelSet tag body => some (0x21, tag, body)
  | .scanSet tag body => some (0x22, tag, body)
  | .channelGet tag body => some (0x23, tag, body)
  | .tankLock tag body => some (0x24, tag, body)
  | .tankUnlock tag body => some (0x25, tag, body)
  | .tankGet tag body => some (0x26, tag, body)
  | .predict tag body => some (0x31, tag, body)
  | .conditionGet tag body => some (0x32, tag, body)
  | .stopAck tag body => some (0x41, tag, body)
  | .stopSet tag body => some (0x42, tag, body)
  | .alarmAck tag body => some (0x43, tag, body)
  | .alarmSet tag body => some (0x44, tag, body)
  | .limitStatus tag body => some (0x45, tag, body)
  | .stepAdd tag body => some (0x51, tag, body)
  | .stepCancel tag body => some (0x52, tag, body)
  | .stepList tag body => some (0x53, tag, body)
  | .stepPin tag body => some (0x61, tag, body)
  | .faultClear tag body => some (0x62, tag, body)
  | .plantStatus tag body => some (0x63, tag, body)
  | .planLoad tag body => some (0x71, tag, body)
  | .pourBegin tag body => some (0x72, tag, body)
  | .pourProgress tag body => some (0x73, tag, body)
  | .pourEnd tag body => some (0x74, tag, body)
  | .paceSet tag body => some (0x75, tag, body)
  | .pourStatus tag body => some (0x76, tag, body)
  | .permitSet tag body => some (0x81, tag, body)
  | .challenge tag body => some (0x82, tag, body)
  | .answer tag body => some (0x83, tag, body)
  | .permitStatus tag body => some (0x84, tag, body)
  | .logRead tag body => some (0x91, tag, body)
  | .totalsGet tag body => some (0x92, tag, body)
  | .reportCompose tag body => some (0x93, tag, body)
  | .reportRead tag body => some (0x94, tag, body)
  | .identify tag body => some (0xA1, tag, body)
  | .clockSet tag body => some (0xA2, tag, body)
  | .callSet tag body => some (0xA3, tag, body)
  | .noticeSelect tag body => some (0xA4, tag, body)
  | .phaseSet tag body => some (0xB1, tag, body)
  | .storeWrite tag body => some (0xB2, tag, body)
  | .storeStatus tag body => some (0xB3, tag, body)
  | .restart tag body => some (0xB4, tag, body)
  | _ => none

/-- Whether a request's body has the length its rule gives (R3, R200). -/
def requestLengthOk : Instr → Bool
  | .stopAck _ b | .alarmAck _ b | .limitStatus _ b | .challenge _ b | .permitStatus _ b | .identify _ b
  | .storeStatus _ b | .restart _ b => b.length == 0
  | .channelGet _ b | .tankLock _ b | .tankUnlock _ b | .tankGet _ b | .stepCancel _ b | .stepPin _ b
  | .plantStatus _ b | .reportCompose _ b | .phaseSet _ b | .storeWrite _ b => b.length == 1
  | .tableGet _ b | .scanSet _ b | .stopSet _ b | .stepList _ b | .faultClear _ b | .paceSet _ b
  | .answer _ b | .noticeSelect _ b => b.length == 2
  | .valveSet _ b | .pourBegin _ b => b.length == 3
  | .reportRead _ b | .clockSet _ b => b.length == 4
  | .bandSet _ b | .boundsSet _ b | .pourProgress _ b | .pourEnd _ b | .logRead _ b => b.length == 5
  | .berthSet _ b | .alarmSet _ b => b.length == 6
  | .shipSet _ b => b.length == 8
  | .stepAdd _ b => b.length == 9
  | .pumpSet _ b => b.length == 10
  | .tankSet _ b | .holdSet _ b => b.length == 11
  | .permitSet _ b => b.length == 14
  | .segmentSet _ b => decide (2 ≤ b.length) && b.length == 2 + 4 * field b 1 1
  | .stationSet _ b => decide (2 ≤ b.length) && b.length == 2 + 12 * field b 1 1
  | .soundingSet _ b | .predict _ b => decide (2 ≤ b.length) && b.length == 2 + 6 * field b 1 1
  | .planLoad _ b => decide (2 ≤ b.length) && b.length == 2 + 9 * field b 1 1
  | .channelSet _ b => channelSetLength b
  | .conditionGet _ b => partLength (fun p => p == 1 || p == 2) 4 b
  | .pourStatus _ b => partLength (fun p => p == 0) 4 b
  | .totalsGet _ b => partLength (fun p => p == 0) 2 b
  | .callSet _ b => decide (8 ≤ b.length) && b.length == 8 + field b 7 1
  | _ => true

/-- The table-writing requests (R3, R18, R21, R77, R150). -/
def writesTables : Instr → Bool
  | .shipSet .. | .segmentSet .. | .stationSet .. | .tankSet .. | .soundingSet .. | .holdSet .. | .pumpSet ..
  | .valveSet .. | .bandSet .. | .channelSet .. | .scanSet .. | .stopSet .. | .paceSet .. => true
  | _ => false

/-! ### The call log (R173, R174) -/

/-- The sequence number the next entry would take; one above the greatest when the log is EXHAUSTED. -/
def Rcu.upcoming (r : Rcu) : Nat := r.nextSequence.getD (Config.maxU32 + 1)

/-- The log holds at most 1024 entries, whose sequence numbers rise by one up to the last one given; WRAPPED is set exactly when an entry has been dropped, the number of the next entry being above the count of the entries by more than one, and a wrapped log is full (R173, R174). -/
abbrev LogSafe (s : State) : Prop :=
  s.rcu.log.length ≤ Config.logCapacity
    ∧ s.rcu.nextSequence ≠ some (Config.maxU32 + 1) ∧ s.rcu.upcoming ≤ Config.maxU32 + 1
    ∧ s.rcu.log.length < s.rcu.upcoming
    ∧ s.rcu.log.map (·.sequence) = List.range' (s.rcu.upcoming - s.rcu.log.length) s.rcu.log.length
    ∧ (s.rcu.wrapped = true ↔ s.rcu.log.length + 1 < s.rcu.upcoming)
    ∧ (s.rcu.wrapped = true → s.rcu.log.length = Config.logCapacity)

/-- The entries of the log numbered from `n` on, each with its kind and parameters. -/
def Rcu.entriesFrom (r : Rcu) (n : Nat) : List (EntryKind × Vector Nat 4) :=
  (r.log.filter fun e => decide (n ≤ e.sequence)).map fun e => (e.kind, e.params)

/-- The entries a command has written satisfy a test, where the log was well formed and not near its last number (R173, R174). -/
def NewEntries (s t : State) (test : List (EntryKind × Vector Nat 4) → Prop) : Prop :=
  LogSafe s → ∀ n, s.rcu.nextSequence = some n → n + 64 ≤ Config.maxU32 → test (t.rcu.entriesFrom n)

/-! ### LOADER PERMIT (R153, R154, R167, R169) -/

/-- A configuration of the permit unit within the ranges of R154. -/
abbrev PermitConfig.legal (c : PermitConfig) : Prop :=
  (1 ≤ c.aWidth ∧ c.aWidth ≤ 63) ∧ c.aExtra ≤ 63 ∧ (1 ≤ c.rWidth ∧ c.rWidth ≤ 63) ∧ c.rExtra ≤ 63
    ∧ c.initial ≤ 15 ∧ (1 ≤ c.lower ∧ c.lower ≤ 14) ∧ (c.lower < c.upper ∧ c.upper ≤ 15)
    ∧ (1 ≤ c.goodStep ∧ c.goodStep ≤ 7) ∧ (1 ≤ c.badStep ∧ c.badStep ≤ 7)

/-- The tables a stored CONFIG item holds, VALID or being written. -/
def Stored.tables {α : Type} : Stored α → Option α
  | .invalid => none
  | .writing x => some x
  | .valid x => some x.content

/-- LOADER PERMIT is ON exactly in LOADING with the hysteresis state ON and LOADER STOP OFF; the hysteresis state is ON only in a running check whose counter is at Tl or above, and is ON whenever that counter is at Th or above; the counter and the trip count are in range, the seed state is not 0, and every permit configuration is legal (R153, R154, R156, R165, R167, R169). -/
abbrev PermitSafe (s : State) : Prop :=
  s.pmu.permit = permitLine s.ccl.phase s.pmu.hysteresis s.lsl.line
    ∧ (s.pmu.unit = .idle → s.pmu.hysteresis = false)
    ∧ (s.pmu.unit ≠ .idle → s.pmu.hysteresis = s.hysteresisNow)
    ∧ s.pmu.counter ≤ 15 ∧ s.pmu.trips ≤ 15 ∧ s.pmu.seed ≠ 0
    ∧ s.cfg.permit.legal ∧ (s.sst.config.tables.all fun c => decide c.permit.legal) = true

/-! ### LOADER STOP and ALARM (R73 to R75, R78 to R82) -/

/-- LOADER STOP is ON while any cause is active, and a line that stays ON without a cause is not yet acknowledged; the EMERGENCY cause is the input and its enable, the input LSL holds is the pin's, and the COUNTER cause and counter low are what PMU reported (R68, R73 to R75, R80, R168). -/
abbrev StopSafe (s : State) : Prop :=
  (s.lsl.causes.any = true → s.lsl.line = true)
    ∧ (s.lsl.line = true → s.lsl.acknowledged = true → s.lsl.causes.any = true)
    ∧ s.lsl.causes.emergency = (s.lsl.emergencyInput && s.cfg.stop.emergencyEnabled)
    ∧ (s.powered = true → s.lsl.emergencyInput = s.pins.emergency)
    ∧ s.lsl.causes.counter = s.pmu.zeroAsserted ∧ s.lsl.counterLow = s.pmu.lowReported
    ∧ s.lsl.stopRun ≤ 8

/-- The band classes of the STRESS and BERTH groups. -/
def AlarmGroup.classes : AlarmGroup → List BandClass
  | .stress => [.shear, .bending]
  | .berth => [.draft, .air]
  | .pace | .equipment => []

/-- ALARM is what the mode, the group flags and the pulse timer make of it; a pulse runs only in PULSE mode; and each group's cause-present flag says what its rule says (R79 to R82, R84). -/
abbrev AlarmSafe (s : State) : Prop :=
  s.lsl.alarmLine = alarmLine s.cfg.alarm s.lsl.groups s.lsl.pulseUntil
    ∧ (s.cfg.alarm.mode = .lamp → s.lsl.pulseUntil = none)
    ∧ s.lsl.groups[AlarmGroup.stress.ix].causePresent
        = AlarmGroup.stress.classes.any fun c => s.lsl.classBands[c.ix] != .clear
    ∧ s.lsl.groups[AlarmGroup.berth.ix].causePresent
        = AlarmGroup.berth.classes.any fun c => s.lsl.classBands[c.ix] != .clear
    ∧ s.lsl.groups[AlarmGroup.pace.ix].causePresent = (s.lsl.paceLagging || s.lsl.counterLow)
    ∧ s.lsl.groups[AlarmGroup.equipment.ix].causePresent = !s.lsl.faults.isEmpty

/-- A fault of PVA's has been reported and logged: it is present at LSL; one already there has changed nothing at LSL; one new there is an EQUIPMENT alarm event, which leaves the group's cause present and the group unacknowledged unless masked, is noticed with its source and item, and has its ALARM entry; and PVA's entry is the first of the command, or the first behind that ALARM entry (R78, R81). The order of the two entries is the model's choice (log entry 23). -/
def FaultTaken (s t : State) (e : Equipment) (entry : EntryKind × Vector Nat 4) : Prop :=
  let masked := s.cfg.alarm.masked[AlarmGroup.equipment.ix]
  let loud := s.lsl.groups[AlarmGroup.equipment.ix].unacknowledged || !masked
  t.lsl.faults = s.lsl.faults.put true e
    ∧ if s.lsl.faults.has e then t.lsl = s.lsl ∧ NewEntries s t ([entry] <+: ·)
      else t.lsl.groups[AlarmGroup.equipment.ix] = ⟨true, loud⟩
        ∧ NewEntries s t ([(.alarm, #v[3, 30 + e.code, e.item, masked.toNat]), entry] <+: ·)
        ∧ (s.lnk.enables 3 = true → s.lnk.tx ≠ .idle → (t.lnk.notices[Notice.alarm.place]).map (·.content)
            = some (u8 3 ++ u8 (30 + e.code) ++ u8 e.item ++ flag masked ++ flag (!masked) ++ flag true ++ flag loud))

/-- An attendance bad event has been taken: its flag is set; LSL has taken it as a PACE alarm event with the flag as source, which leaves the group unacknowledged unless masked, and an ALARM notice pending; and the ATTENDANCE_BAD entry, which RCU counts, gives the flag, the elapsed seconds, the counter after the event and whether the check tripped (R80, R164). LSL's ALARM entry stands before it, and both before every other entry of the event: the model's choice (log entry 23). -/
def AttendanceTaken (s t : State) (f : StatusFlag) (elapsed : Nat) (tripped : Bool) : Prop :=
  let masked := s.cfg.alarm.masked[AlarmGroup.pace.ix]
  t.pmu.flags[f.ix] = true
    ∧ t.lsl.groups[AlarmGroup.pace.ix].unacknowledged = (s.lsl.groups[AlarmGroup.pace.ix].unacknowledged || !masked)
    ∧ (s.lnk.enables 3 = true → s.lnk.tx ≠ .idle → t.lnk.notices[Notice.alarm.place] ≠ none)
    ∧ t.rcu.counts.attendanceBad = min 65535 (s.rcu.counts.attendanceBad + 1)
    ∧ NewEntries s t ([(.alarm, #v[2, 10 + f.code, 255, masked.toNat]),
        (.attendanceBad, #v[f.code, elapsed, t.pmu.counter, tripped.toNat])] <+: ·)

/-! ### The condition engine (R40 to R48) -/

/-- The engine never idles over work, its queue holds at most four predictions, it does nothing in SETUP, and the record in place carries the engine's sequence number (R40 to R45, R48). -/
abbrev EngineSafe (s : State) : Prop :=
  s.cen.queue.length ≤ Config.predictionQueueSize
    ∧ (s.cen.inFlight = none → s.cen.queue = [] ∧ s.cen.pendingCurrent = false)
    ∧ (s.ccl.phase = .setup → s.cen.inFlight = none)
    ∧ (s.cen.current.all fun r => r.sequence == s.cen.sequence) = true

/-! ### The transfer queue (R86 to R88, R91) -/

/-- The numbers of the steps whose predictions are in flight or waiting. -/
def Cen.stepNumbers (c : Cen) : List Nat :=
  c.requests.filterMap fun q =>
    match q.requester with
    | .step n => some n
    | .predict _ => none

/-- Whether a slot holds a step that a test picks. -/
def Tsq.holds (q : Tsq) (k : SlotNo) (test : StepRec → Bool) : Bool := q.slots[k].any test

/-- Whether a step's tanks fit its kind (R87, R89). -/
def StepRec.shaped (x : StepRec) : Bool :=
  match x.kind with
  | .ballast => x.source.isNone && x.dest.isSome
  | .deballast | .strip => x.source.isSome && x.dest.isNone
  | .shift => x.source.isSome && x.dest.isSome && decide (x.source ≠ x.dest)

/-- The queue order lists each admitted step's slot once, the CHECKING list each reserved step's; no two held steps share a number, and each number is 1 to 255; a step's tanks fit its kind, and it has a granted pump exactly when it is active; and each CHECKING step awaits exactly one prediction (R86 to R88, R91, R92, R96). -/
abbrev QueueSafe (s : State) : Prop :=
  s.tsq.order.Nodup ∧ s.tsq.checking.Nodup
    ∧ (∀ k : SlotNo, k ∈ s.tsq.order ↔ s.tsq.holds k (fun x => x.state != .checking) = true)
    ∧ (∀ k : SlotNo, k ∈ s.tsq.checking ↔ s.tsq.holds k (fun x => x.state == .checking) = true)
    ∧ (∀ j k : SlotNo, j ≠ k → s.tsq.holds j (fun x => s.tsq.holds k fun y => x.number == y.number) = false)
    ∧ (∀ k : SlotNo, (s.tsq.slots[k].all fun x =>
        within 1 255 x.number && x.shaped && x.grantedPump.isSome == x.state.active) = true)
    ∧ s.tsq.lastNumber ≤ 255
    ∧ s.cen.stepNumbers.Nodup
    ∧ (∀ n ∈ s.cen.stepNumbers, ∃ k ∈ s.tsq.checking, s.tsq.holds k (·.number == n) = true)
    ∧ (∀ k ∈ s.tsq.checking, s.tsq.holds k (fun x => s.cen.stepNumbers.contains x.number) = true)

/-- The edge of a pour, or none, has been reported to the queue: every QUEUED step whose gate names it is WAITING and, with no named tank stale, a candidate of PVA's, or has been granted a pump at once and is in LINEUP; its STEP_STATE notice is pending where the kind is enabled; and every other QUEUED step stands as it stood (R94, R95, R96). -/
def EdgeReported (s t : State) (edge : Option Gate) : Prop :=
  ∀ (k : SlotNo) (x : StepRec), s.tsq.slots[k] = some x → x.state = .queued →
    if edge ≠ none ∧ x.gate = edge then
      (t.tsq.slots[k] = some { x with state := .waiting }
          ∧ (s.stepStale x = false → ∃ c ∈ t.pva.candidates, c.step = x.number ∧ c.withheld = false)
        ∨ ∃ p, t.tsq.slots[k] = some { x with state := .lineup, grantedPump := some p, litres := 0 })
      ∧ (s.lnk.enables 4 = true → s.lnk.tx ≠ .idle → t.lnk.notices[(Notice.stepState k).place] ≠ none)
    else t.tsq.slots[k] = some x

/-- The wind-down of a step has completed with an outcome and a disposition: the step is in no slot and not in the queue order, and its STEP_END entry is written; the pump that was BUSY for it is no longer its own, and is FREE where no other step waits; and the main-line mode is IDLE when it was a main step and none is active now (R102, R113, R128). -/
def StepEnded (s t : State) (k : SlotNo) (x : StepRec) (out : StepOutcome) (d : Disposition) : Prop :=
  t.tsq.slots[k] = none ∧ k ∉ t.tsq.order
    ∧ NewEntries s t ((.stepEnd, #v[x.number, x.kind.code, out.code, d.code]) ∈ ·)
    ∧ (∀ p : PumpNo, t.pva.pumps[p].granted ≠ some x.number)
    ∧ ((∀ (j : SlotNo) (y : StepRec), s.tsq.slots[j] = some y → y.state ≠ .waiting) →
        ∀ p : PumpNo, s.pva.pumps[p].granted = some x.number →
          t.pva.pumps[p] = { s.pva.pumps[p] with state := .free, granted := none })
    ∧ (x.kind.main = true → (∀ a ∈ t.tsq.active, a.2.kind.main = false) → t.pva.mode = .idle)

/-! ### The plant (R113 to R119, R130) -/

/-- Whether two active steps share nothing: no tank, no pump, and no SHIFT beside another main step (R113, R115). -/
def StepRec.apart (x y : StepRec) : Bool :=
  (x.tanks.all fun t => !y.names t) && decide (x.grantedPump ≠ y.grantedPump)
    && !(x.kind == .shift && y.kind.main) && !(y.kind == .shift && x.kind.main)

/-- The main-line mode that an active step of a kind needs; none for a stripping step (R113). -/
def StepKind.mode : StepKind → Option MainMode
  | .ballast => some .fill
  | .deballast => some .drain
  | .shift => some .shift
  | .strip => none

/-- Whether a held step is WAITING under a number. -/
def Tsq.waits (q : Tsq) (n : Nat) : Bool :=
  (List.finRange 32).any fun k => q.holds k fun x => x.number == n && x.state == .waiting

/-- The active steps are pairwise apart, each on a pump that fits its kind; the main line is in the mode its main steps need, and IDLE exactly when it has none; the arbiter's candidates and its pin are WAITING steps, no candidate listed twice (R113 to R118). -/
abbrev LineSafe (s : State) : Prop :=
  s.tsq.active.Pairwise (fun a b => a.2.apart b.2 = true)
    ∧ (∀ a ∈ s.tsq.active, a.2.grantedPump.all (fun p => (a.2.kind == .strip) == (p == 2)) = true
        ∧ a.2.kind.mode.all (· == s.pva.mode) = true)
    ∧ (s.pva.mode ≠ .idle → (s.tsq.active.any fun a => a.2.kind.main) = true)
    ∧ (∀ c ∈ s.pva.candidates, s.tsq.waits c.step = true) ∧ (s.pva.candidates.map (·.step)).Nodup
    ∧ s.pva.pin.all s.tsq.waits = true

/-- A pump has a granted step exactly when it is BUSY, and that step is active on it; every step in LINEUP, RAMP or RUN has its pump BUSY, its run command OFF in LINEUP and ON in RAMP and RUN; a pump's gear is above 0 exactly while its run command is ON; and a run command is ON only on a BUSY pump (R96, R97, R111, R123, R128). -/
abbrev PumpSafe (s : State) : Prop :=
  (∀ p : PumpNo, (s.pva.pumps[p].state = .busy ↔ s.pva.pumps[p].granted.isSome = true)
      ∧ s.pva.pumps[p].granted.all (fun n => (s.tsq.stepOn p).any fun a => a.2.number == n) = true
      ∧ s.pva.pumps[p].run = (s.pva.pumps[p].gear != .g0)
      ∧ (s.pva.pumps[p].run = true → s.pva.pumps[p].state = .busy))
    ∧ (∀ a ∈ s.tsq.active, a.2.state.running = true →
        a.2.grantedPump.all (fun p => s.pva.pumps[p].granted == some a.2.number
          && s.pva.pumps[p].run == (a.2.state != .lineup)) = true)

/-- A pump runs only with every lineup valve of its step commanded OPEN; a valve is commanded OPEN only in the lineup of an active step; and while the emergency stop input is active no run command is ON and no step is in LINEUP, RAMP or RUN (R119, R128, R130). -/
abbrev ValveSafe (s : State) : Prop :=
  (∀ p : PumpNo, s.pva.pumps[p].run = true →
      ((s.tsq.stepOn p).any fun a => a.2.valves.all fun v => s.pva.valves[v].open_) = true)
    ∧ (∀ v : ValveNo, s.pva.valves[v].open_ = true → (s.tsq.holder v).isSome = true)
    ∧ (s.powered = true → s.pins.emergency = true →
        (∀ p : PumpNo, s.pva.pumps[p].run = false) ∧ ∀ a ∈ s.tsq.active, a.2.state = .windDown)

/-- The plant as a whole. -/
abbrev PlantSafe (s : State) : Prop := LineSafe s ∧ PumpSafe s ∧ ValveSafe s

/-! ### The field (R20, R21, R24, R30) -/

/-- Whether a channel's run state is one of its mode, its level window and invalid run within the bounds the filter keeps: a VALID channel has a full window, a STALE one fewer than four levels (R20, R24). -/
def ChannelRun.fits : ChannelConfig → ChannelRun → Bool
  | .off, .off => true
  | .level .., .level _ window run valid =>
    if valid then window.length == 4 && decide (run ≤ 2) else decide (window.length ≤ 3) && run == 0
  | .switch .., .switch .. => true
  | .pulse, .pulse .. => true
  | _, _ => false

/-- Every channel's run state is one of its mode; every tank is STALE exactly when it has no level channel or its level channel is STALE; and with power no scan period runs on past its end (R20, R21, R24, R30). -/
abbrev FieldSafe (s : State) : Prop :=
  (∀ ch : ChannelNo, ChannelRun.fits s.cfg.channels[ch] s.fcu.channels[ch] = true)
    ∧ (∀ t : TankNo, s.tanks[t].stale = s.shouldBeStale t)
    ∧ (s.powered = true → s.now ≤ s.fcu.scan.endsAt)

/-! ### The pours (R135 to R142) -/

/-- Whether a plan entry is POURING on a loader with the hold and permit its slot holds. -/
def PlanEntry.pouredBy (e : PlanEntry) (l : Loader) (x : Pour) : Bool :=
  e.state == .pouring && e.hold == x.hold && e.begun == some (l, x.permitAtBegin)

/-- Whether a loader is pouring the plan entry of an index. -/
def Ptr.pours (p : Ptr) (i : Nat) : Bool :=
  [Loader.a, .b].any fun l => p.loaders[l.ix].any fun x => x.number == i + 1

/-- Pours begin in plan order; a planned pour in progress is POURING in the plan on its loader, and no other entry is; an entry is POURED exactly when it holds a result; no pour runs outside LOADING and none has begun before it; the plan holds at most 48 entries and a hold at most 9,999,999 t (R135 to R142). -/
abbrev PourSafe (s : State) : Prop :=
  s.ptr.plan.length ≤ 48
    ∧ s.ptr.plan.Pairwise (fun a b => a.state = .planned → b.state = .planned)
    ∧ (∀ l ∈ [Loader.a, .b], s.ptr.loaders[l.ix].all (fun x =>
        x.number == 0 || (s.ptr.plan[x.number - 1]?).any fun e => e.pouredBy l x) = true)
    ∧ (∀ e ∈ s.ptr.plan.zipIdx, e.1.state = .pouring → s.ptr.pours e.2 = true)
    ∧ (∀ e ∈ s.ptr.plan, e.state = .poured ↔ e.result.isSome = true)
    ∧ (s.ccl.phase ≠ .loading → ∀ l ∈ [Loader.a, .b], s.ptr.loaders[l.ix] = none)
    ∧ (s.ccl.phase = .setup ∨ s.ccl.phase = .ready → ∀ e ∈ s.ptr.plan, e.state = .planned)
    ∧ ∀ h : HoldNo, s.ptr.holds[h].mass ≤ 9999999 ∧ s.ptr.holds[h].pours ≤ 255

/-! ### The link (R191 to R196) -/

/-- Whether a slot holds a reply. -/
def ReplySlot.isFilled : ReplySlot → Bool
  | .filled .. => true
  | _ => false

/-- Whether a slot is reserved for a reply still to come. -/
def ReplySlot.isReserved : ReplySlot → Bool
  | .reserved .. => true
  | _ => false

/-- The slot whose reply is being sent. -/
def Tx.slot : Tx → Option ReplyNo
  | .reply r _ => some r
  | _ => none

/-- Every filled slot waits its turn once or is being sent; every reserved slot is awaited by exactly one prediction; only enabled notices are pending; and with power the transmitter is never IDLE while something waits (R191 to R196). -/
abbrev LinkSafe (s : State) : Prop :=
  s.lnk.filled.Nodup
    ∧ (∀ r ∈ s.lnk.filled, s.lnk.tx.slot ≠ some r)
    ∧ (∀ r : ReplyNo, s.lnk.slots[r].isFilled = true ↔ r ∈ s.lnk.filled ∨ s.lnk.tx.slot = some r)
    ∧ (s.cen.requests.map (·.reply)).Nodup
    ∧ (∀ r : ReplyNo, s.lnk.slots[r].isReserved = true ↔ r ∈ s.cen.requests.map (·.reply))
    ∧ (∀ p : PlaceNo, s.lnk.notices[p].isSome = true → s.lnk.enables (placeCode p) = true)
    ∧ (s.powered = true → s.lnk.tx = .idle →
        s.lnk.filled = [] ∧ ∀ p : PlaceNo, s.lnk.notices[p] = none)

/-! ### The settings store (R212 to R214) -/

/-- Whether a stored item is being written. -/
def Stored.isWriting {α : Type} : Stored α → Bool
  | .writing _ => true
  | _ => false

/-- Whether an item that is VALID passes the check of power-on. -/
def Stored.sound {α : Type} (f : ItemFormat α) : Stored α → Bool
  | .valid x => f.passes x
  | _ => true

/-- The item named by the writer is the one being written, and no other; and an item that is VALID passes its check (R212 to R214). -/
abbrev StoreSafe (s : State) : Prop :=
  (s.sst.config.isWriting = true ↔ s.sst.writer = some .config)
    ∧ (s.sst.report.isWriting = true ↔ s.sst.writer = some .report)
    ∧ s.sst.config.sound configFormat = true ∧ s.sst.report.sound reportFormat = true

/-! ### A safe state -/

/-- All the promises together: what holds between any two commands of a run. -/
abbrev Safe (s : State) : Prop :=
  LogSafe s ∧ PermitSafe s ∧ StopSafe s ∧ AlarmSafe s ∧ EngineSafe s ∧ QueueSafe s ∧ PlantSafe s
    ∧ FieldSafe s ∧ PourSafe s ∧ LinkSafe s ∧ StoreSafe s

end Sys2Proof.Machine
end

