-- ==== Sys2Proof/Certificates/Slice0/Obligations.lean ====
section
/-! DEFINITION. The statements for the provers. Requests are given by their body bytes as R200 lays them out; what a command leaves alone is said by an equation between whole states, or by the list of the parts it may touch. -/

open Sys2Proof Sys2Proof.Machine

/-! ### The machine -/

/-- One step of the machine carries out the command at the front of the queue, on the state with the queue's rest: the queue and its order are the model's choice (log entries 1 and 29). Every command is carried out to a next state, none ending in a fault or a refusal: the model's reading (log entry 26). -/
def Obligations.StepCarriesOutFront : Prop :=
  ∀ (c : Instr) (s : State), step { s with pending := c :: s.pending } = exec c s ∧ ∃ t, exec c s = .next t

/-- On an empty queue the machine's clock runs: the first expiry that is due is put in the queue; when none is due and the scan period in progress has run to its end, its SCAN_END is, with samples that are the field's, and a free choice is drawn; otherwise, or without power, a millisecond passes (the model's choice, log entries 2 and 27). The expiries due are exactly these: a second of the clocks; a SWITCH channel whose contact has held for its debounce time a state it is not debounced to; a gear timer run out, in RAMP or in WIND_DOWN; a STARTING, STOPPING, OPENING or CLOSING watch run out; a no-flow timer run out; an alarm pulse run out; the answer timer and the challenge timer at their timeouts, and the challenge timer at an R_open not yet taken (R26, R82, R121, R123 to R126, R128, R129, R160 to R162). Those of one millisecond stand in one fixed order: the model's choice (log entry 2). -/
def Obligations.EmptyQueueTicks : Prop :=
  ∀ s : State,
    let past (u : Nat) : Prop := u ≤ s.now
    let runOut (p : PumpNo) (st : StepState) : Prop :=
      ∃ k x u, s.tsq.stepOn p = some (k, x) ∧ x.state = st ∧ s.pva.pumps[p].gearUntil = some u ∧ past u
    let due (c : Instr) : Prop :=
      match c with
      | .clockSecondAdvance => past s.ccl.secondAt
      | .switchDebounceExpiry ch => ∃ debounce notify was since changed, s.cfg.channels[ch] = .switch debounce notify
          ∧ s.fcu.channels[ch] = .switch was since changed ∧ was ≠ some s.pins.contacts[ch] ∧ past (since + debounce)
      | .rampGearExpiry p => runOut p .ramp
      | .windDownGearExpiry p => runOut p .windDown
      | .pumpStartTimeout p => ∃ u, s.pva.pumps[p].watch = .starting u ∧ past u
      | .pumpStopTimeout p => ∃ u, s.pva.pumps[p].watch = .stopping u ∧ past u
      | .noFlowExpiry p => ∃ u, s.pva.pumps[p].noFlowUntil = some u ∧ past u
      | .valveOpenTimeout v => ∃ u, s.pva.valves[v].watch = .opening u ∧ past u
      | .valveCloseTimeout v => ∃ u, s.pva.valves[v].watch = .closing u ∧ past u
      | .alarmPulseExpiry => ∃ u, s.lsl.pulseUntil = some u ∧ past u
      | .answerTimeout => ∃ since, s.pmu.unit = .awaitAnswer since
          ∧ past (since + 1000 * (s.cfg.permit.aOpen + s.cfg.permit.aWidth + s.cfg.permit.aExtra))
      | .challengeWindowOpens => ∃ since, s.pmu.unit = .awaitChallenge since false
          ∧ past (since + 1000 * s.cfg.permit.rOpen)
      | .challengeTimeout => ∃ since opened, s.pmu.unit = .awaitChallenge since opened
          ∧ past (since + 1000 * (s.cfg.permit.rOpen + s.cfg.permit.rWidth + s.cfg.permit.rExtra))
      | _ => False
    let place (c : Instr) : Nat :=
      match c with
      | .switchDebounceExpiry ch => 1 + ch.val
      | .rampGearExpiry p => 50 + p.val
      | .windDownGearExpiry p => 60 + p.val
      | .pumpStartTimeout p => 70 + p.val
      | .pumpStopTimeout p => 80 + p.val
      | .noFlowExpiry p => 90 + p.val
      | .valveOpenTimeout v => 100 + v.val
      | .valveCloseTimeout v => 130 + v.val
      | .alarmPulseExpiry => 160
      | .answerTimeout => 161
      | .challengeWindowOpens => 162
      | .challengeTimeout => 163
      | _ => 0
    (s.pending = [] → ∃ t, step s = .next t
      ∧ (s.powered = false → t = { s with now := s.now + 1 })
      ∧ (s.powered = true → s.due = [] → s.now < s.fcu.scan.endsAt → t = { s with now := s.now + 1 })
      ∧ (s.powered = true → s.due = [] → s.fcu.scan.endsAt ≤ s.now →
          ∃ v, t = { s with pending := [.scanEnd v], choices := s.choices + 1 })
      ∧ ∀ c l, s.powered = true → s.due = c :: l → t = { s with pending := [c] })
    ∧ (∀ c, c ∈ s.due ↔ due c)
    ∧ s.due.Pairwise fun a b => place a < place b

/-- At reset, which the model makes a power-on with a store never written, every contact open and the emergency stop input inactive (the model's choice, log entry 13): SETUP with CONFIG absent, both loader lines and ALARM OFF, the attendance check IDLE with counter 8 and seed state 1, every tank STALE and UNLOCKED at figures of 0, no step, no pour, every pump FREE with its run command OFF, every valve commanded CLOSED, an empty log whose first entry will be number 1, every reply slot FREE and no notice enabled (R2, R10, R40, R68, R86, R111, R112, R135, R153, R173, R193 to R195, R206, R216). -/
def Obligations.ResetState : Prop :=
  State.reset.ccl.phase = .setup ∧ State.reset.ccl.configAbsent = true ∧ State.reset.ccl.startCause = .power
    ∧ State.reset.ccl.shipTime = 0 ∧ State.reset.ccl.callNumber = 0
    ∧ State.reset.pmu.permit = false ∧ State.reset.lsl.line = false ∧ State.reset.lsl.alarmLine = false
    ∧ State.reset.pmu.unit = .idle ∧ State.reset.pmu.counter = 8 ∧ State.reset.pmu.seed = 1
    ∧ (∀ t : TankNo, State.reset.tanks[t] = ⟨0, 0, 0, true, false, .unlocked⟩)
    ∧ (∀ k : SlotNo, State.reset.tsq.slots[k] = none)
    ∧ (∀ l ∈ [Loader.a, .b], State.reset.ptr.loaders[l.ix] = none) ∧ State.reset.ptr.plan = []
    ∧ (∀ p : PumpNo, State.reset.pva.pumps[p].state = .free ∧ State.reset.pva.pumps[p].run = false)
    ∧ (∀ v : ValveNo, State.reset.pva.valves[v].open_ = false ∧ State.reset.pva.valves[v].faulted = false)
    ∧ State.reset.rcu.log = [] ∧ State.reset.rcu.nextSequence = some 1 ∧ State.reset.cen.current = none
    ∧ (∀ r : ReplyNo, State.reset.lnk.slots[r] = .free) ∧ State.reset.lnk.enabled = 0

/-- Every promise of Safety holds at reset. -/
def Obligations.ResetIsSafe : Prop := Safe State.reset

/-- A controller without power takes no command but POWER_ON: of any other, at most the field inputs change, and everything else stands as it stood. The model's reading of R214 and R216 (log entry 16). -/
def Obligations.WithoutPowerNothingRuns : Prop :=
  ∀ (c : Instr) (s : State), s.powered = false → (∀ a b, c ≠ .powerOn a b) →
    ∃ t, exec c s = .next t ∧ { t with pins := s.pins } = s

/-! ### What every step keeps -/

/-- Every step keeps the call log well formed: at most 1024 entries with sequence numbers rising by one, WRAPPED set exactly when one has been dropped, and then 1024 held; and every step keeps the store's writer and its items in agreement, and every item that is VALID passing the check of power-on (R173, R174, R212 to R214). -/
def Obligations.RecordsKept : Prop :=
  ∀ s t : State, step s = .next t → (LogSafe s → LogSafe t) ∧ (StoreSafe s → StoreSafe t)

/-- Every step keeps LOADER PERMIT what R169 makes of the phase, the hysteresis state and LOADER STOP, and the permit unit within its ranges (R153, R154, R167, R169). -/
def Obligations.PermitKept : Prop := ∀ s t : State, PermitSafe s → step s = .next t → PermitSafe t

/-- Every step keeps LOADER STOP ON while a cause is active, and ON without a cause only until it is acknowledged; and every step keeps ALARM and the group flags what their rules make of them (R73 to R84). -/
def Obligations.LinesKept : Prop :=
  ∀ s t : State, step s = .next t → (StopSafe s → StopSafe t) ∧ (AlarmSafe s → AlarmSafe t)

/-- Every step keeps the condition engine from idling over work, from working in SETUP and from holding more than four waiting predictions (R41 to R48). -/
def Obligations.EngineKept : Prop := ∀ s t : State, EngineSafe s → step s = .next t → EngineSafe t

/-- Every step keeps the transfer queue: each held step in its list once, numbers unique, and every CHECKING step awaiting exactly one prediction (R86 to R88, R91, R92, R108). -/
def Obligations.QueueKept : Prop := ∀ s t : State, QueueSafe s → step s = .next t → QueueSafe t

/-- Every step keeps the active steps apart: no two on one tank or one pump, and the main line carrying one kind of move at a time (R113 to R118). -/
def Obligations.LineKept : Prop := ∀ s t : State, QueueSafe s → LineSafe s → step s = .next t → LineSafe t

/-- From every state in which the queue's promises and those of the plant (line, pumps and valves) hold, every step keeps each BUSY pump with its active step, and a run command on a BUSY pump alone (R96, R97, R111, R123 to R128). -/
def Obligations.PumpKept : Prop :=
  ∀ s t : State, QueueSafe s → PlantSafe s → step s = .next t → PumpSafe t

/-- Every step keeps pumps from running against a valve commanded CLOSED, valves from standing commanded OPEN without a step, and every pump stopped while the emergency stop input is active (R119, R128, R130). -/
def Obligations.ValveKept : Prop :=
  ∀ s t : State, QueueSafe s → PlantSafe s → step s = .next t → ValveSafe t

/-- Every step keeps each channel's run state one of its mode, and each tank STALE exactly when it has no level channel or its level channel is STALE, and with power no scan period running on past its end (R20, R21, R24, R30). -/
def Obligations.FieldKept : Prop := ∀ s t : State, FieldSafe s → step s = .next t → FieldSafe t

/-- Every step keeps the pours and the plan in agreement (R135 to R142). -/
def Obligations.PourKept : Prop := ∀ s t : State, PourSafe s → step s = .next t → PourSafe t

/-- Every step keeps every request taken on its way to exactly one reply, and the transmitter busy while anything waits (R191 to R196). -/
def Obligations.LinkKept : Prop := ∀ s t : State, QueueSafe s → LinkSafe s → step s = .next t → LinkSafe t

/-! ### How requests are turned away -/

/-- A request that finds every reply slot taken is discarded whole: nothing changes but the assembler, which is in HUNT (R191). A request whose body has not the length its rule gives is answered FORMAT with an empty body, in every phase; a table-writing request of the right length is answered PHASE outside SETUP, whatever its fields; a request of an unknown kind is answered UNKNOWN_KIND; each changes nothing else (R3, R191, R192). A request that finds a free slot takes the lowest-numbered: the model's choice (log entry 37). -/
def Obligations.TurnedAway : Prop :=
  (∀ (c : Instr) (kind : Byte) (tag : Tag) (body : List Byte) (s : State), requestOf c = some (kind, tag, body) →
    (s.powered = true → s.lnk.freeSlot = none → Settled s →
      exec c s = .next { s with lnk := { s.lnk with rx := .hunt } })
    ∧ (∀ r : ReplyNo, s.powered = true → s.lnk.slots[r] = .free → (∀ q : ReplyNo, q < r → s.lnk.slots[q] ≠ .free) →
        ∃ t, exec c s = .next t ∧ t.lnk.slots[r] ≠ .free)
    ∧ (s.serving → requestLengthOk c = false → ∃ t, exec c s = .next t ∧ Replied s t kind tag .format [])
    ∧ (s.serving → requestLengthOk c = true → writesTables c = true → s.ccl.phase ≠ .setup →
        ∃ t, exec c s = .next t ∧ Replied s t kind tag .phase []))
  ∧ ∀ (kind : Byte) (tag : Tag) (body : List Byte) (s : State), knownKind kind = false → body.length ≤ 240 → s.serving →
      ∃ t, exec (.unknownKindRequest kind tag body) s = .next t ∧ Replied s t kind tag .unknownKind []

/-! ### The tables -/

/-- In SETUP SHIP_SET, BAND_SET, PACE_SET, SCAN_SET, SOUNDING_SET and HOLD_SET write their fields and nothing else, and SEGMENT_SET and STATION_SET write entry e to segment or station first + e, those outside the range named keeping their values; each replies OK. A SHIP_SET, BAND_SET (a class above 6 among them) or PACE_SET with a field out of range is refused with RANGE and writes nothing. Stations are held at their number less 1 (R3 to R6, R8, R11, R14, R21, R150). -/
def Obligations.TablesWritten : Prop :=
  ∀ (s : State) (tag : Tag), s.serving → s.ccl.phase = .setup →
    (∀ ls stern head list : Nat, ls ≤ 65535 → stern ≤ 65535 → head ≤ 65535 → list ≤ 65535 →
      ∃ t, exec (.shipSet tag (u16 ls ++ u16 stern ++ u16 head ++ u16 list)) s = .next t
        ∧ if 100 ≤ ls ∧ ls ≤ 3000 ∧ stern ≤ 20000 ∧ head ≤ 20000 ∧ list ≤ 3000 then
            Wrote s t { s.cfg with ship := ⟨ls, stern, head, list⟩ } 0x11 tag
          else Replied s t 0x11 tag .range [])
    ∧ (∀ (c : Fin 7) (caution stop : Nat), caution ≤ 65535 → stop ≤ 65535 →
      ∃ t, exec (.bandSet tag (u8 c.val ++ u16 caution ++ u16 stop)) s = .next t
        ∧ if 500 ≤ caution ∧ caution ≤ 1200 ∧ 500 ≤ stop ∧ stop ≤ 1200 then
            Wrote s t { s.cfg with thresholds := s.cfg.thresholds.set c ⟨caution, stop⟩ } 0x19 tag
          else Replied s t 0x19 tag .range [])
    ∧ (∀ c caution stop : Nat, 7 ≤ c → c ≤ 255 → caution ≤ 65535 → stop ≤ 65535 →
      ∃ t, exec (.bandSet tag (u8 c ++ u16 caution ++ u16 stop)) s = .next t ∧ Replied s t 0x19 tag .range [])
    ∧ (∀ pace : Nat, pace ≤ 65535 → ∃ t, exec (.paceSet tag (u16 pace)) s = .next t
        ∧ if pace ≤ 20000 then Wrote s t { s.cfg with pace := pace } 0x75 tag else Replied s t 0x75 tag .range [])
    ∧ (∀ prescale ∈ [1, 2, 4, 8], ∀ reload : Nat, reload ≤ 255 →
      ∃ t, exec (.scanSet tag (u8 prescale ++ u8 reload)) s = .next t
        ∧ Wrote s t { s.cfg with scan := ⟨prescale, reload⟩ } 0x22 tag)
    ∧ (∀ (first : Nat) (l : List Segment), l ≠ [] → first + l.length ≤ 20 →
      (∀ e ∈ l, e.mass ≤ 60000 ∧ e.immersion ≤ 4000) →
      ∃ t v, exec (.segmentSet tag (u8 first ++ u8 l.length ++ l.flatMap fun e => u16 e.mass ++ u16 e.immersion)) s
            = .next t
        ∧ Wrote s t { s.cfg with segments := v } 0x12 tag
        ∧ ∀ i : SegmentNo, v[i] =
            if first ≤ i.val then (l[i.val - first]?).getD s.cfg.segments[i] else s.cfg.segments[i])
    ∧ (∀ (first : Nat) (l : List Station), l ≠ [] → 1 ≤ first → first + l.length ≤ 20 →
      (∀ e ∈ l, within 1 100000 e.shear = true ∧ within 1 10000000 e.hogging = true
        ∧ within 1 10000000 e.sagging = true) →
      ∃ t v, exec (.stationSet tag
            (u8 first ++ u8 l.length ++ l.flatMap fun e => u32 e.shear ++ u32 e.hogging ++ u32 e.sagging)) s = .next t
        ∧ Wrote s t { s.cfg with stations := v } 0x13 tag
        ∧ ∀ i : StationIx, v[i] =
            if first ≤ i.val + 1 then (l[i.val + 1 - first]?).getD s.cfg.stations[i] else s.cfg.stations[i])
    ∧ (∀ (k : TankNo) (l : List Point), 2 ≤ l.length → l.length ≤ 12 →
      (∀ p ∈ l, p.level ≤ 40000 ∧ p.volume ≤ 200000) →
      ∃ t, exec (.soundingSet tag (u8 k.val ++ u8 l.length ++ l.flatMap fun p => u16 p.level ++ u32 p.volume)) s
            = .next t
        ∧ Wrote s t { s.cfg with soundings := s.cfg.soundings.set k l } 0x15 tag)
    ∧ ∀ (h : HoldNo) (c : HoldConfig), c.first ≤ 19 → within 1 4 c.count = true → -3000 ≤ c.arm → c.arm ≤ 3000 →
      c.coaming ≤ 40000 → c.maxMass ≤ 200000 →
      ∃ t, exec (.holdSet tag (u8 h.val ++ u8 c.first ++ u8 c.count ++ i16 c.arm ++ u16 c.coaming ++ u32 c.maxMass)) s
            = .next t
        ∧ Wrote s t { s.cfg with holds := s.cfg.holds.set h c } 0x16 tag

/-- TANK_SET in SETUP writes all seven configuration fields of its tank, and makes every tank STALE or VALID as its level channel then stands; a tank's other run fields keep their values. CHANNEL_SET in SETUP replaces a channel's configuration and puts its run state at the power-on values of its mode, and makes every tank STALE or VALID as its level channel then stands (R7, R18, R20, R30). -/
def Obligations.TankAndChannelWritten : Prop :=
  (∀ (s : State) (tag : Tag) (k : TankNo) (c : TankConfig), s.serving → s.ccl.phase = .setup →
      c.first ≤ 19 → within 1 4 c.count = true → -3000 ≤ c.arm → c.arm ≤ 3000 → within 990 1040 c.density = true →
      c.fixedLevel ≤ 40000 →
      ∃ t, exec (.tankSet tag (u8 k.val ++ u8 c.side.code ++ u8 c.first ++ u8 c.count ++ i16 c.arm ++ u16 c.density
            ++ flag (!c.metered) ++ u16 c.fixedLevel)) s = .next t
        ∧ t.cfg = { s.cfg with tanks := s.cfg.tanks.set k c }
        ∧ (∀ j : TankNo, t.tanks[j] = { s.tanks[j] with stale := t.shouldBeStale j })
        ∧ t.fcu = s.fcu ∧ Touches [.cfg, .tanks, .lsl, .rcu, .lnk, .tsq, .pva] s t
        ∧ Answered s t 0x14 tag .ok [])
    ∧ (∀ (s : State) (tag : Tag) (ch : ChannelNo) (c : ChannelConfig) (run : ChannelRun) (body : List Byte),
      s.serving → s.ccl.phase = .setup →
      (c = .off ∧ run = .off ∧ body = u8 0
        ∨ (∃ lo hi span band bound, lo ≤ 4095 ∧ hi ≤ 4095 ∧ within 1 40000 span = true ∧ band ≤ 1000
            ∧ c = .level lo hi span band bound ∧ run = .level none [] 0 false
            ∧ body = u8 1 ++ u16 lo ++ u16 hi ++ u16 span ++ u16 band ++ u8 (ixOrNone bound))
        ∨ (∃ debounce notify, within 10 2000 debounce = true ∧ c = .switch debounce notify
            ∧ run = .switch none s.now none ∧ body = u8 2 ++ u16 debounce ++ flag notify)
        ∨ c = .pulse ∧ run = .pulse 0 none ∧ body = u8 3) →
      ∃ t, exec (.channelSet tag (u8 ch.val ++ body)) s = .next t
        ∧ t.cfg = { s.cfg with channels := s.cfg.channels.set ch c }
        ∧ t.fcu = { s.fcu with channels := s.fcu.channels.set ch run }
        ∧ (∀ j : TankNo, t.tanks[j] = { s.tanks[j] with stale := t.shouldBeStale j })
        ∧ Touches [.cfg, .fcu, .tanks, .lsl, .rcu, .lnk, .tsq, .pva] s t
        ∧ Answered s t 0x21 tag .ok [])

/-- PUMP_SET and VALVE_SET in SETUP write the configuration of their pump or valve. Where the feedback channel is the one already named nothing else changes (the model's reading of R19, log entry 19), nor where it is not in SWITCH mode; where a channel newly named is UNDETERMINED, the field's proof becomes UNKNOWN; where it is settled, the proof becomes what the channel shows (R12, R13, R19). -/
def Obligations.PumpAndValveWritten : Prop :=
  ∀ (s : State) (tag : Tag), s.serving → s.ccl.phase = .setup →
    (∀ (p : PumpNo) (c : PumpConfig) (run flow : ChannelNo), c.runChannel = some run → c.flowChannel = some flow →
      within 1 30 c.gearInterval = true → within 2 60 c.startTime = true → within 5 120 c.noFlowTime = true →
      within 1 10000 c.litresPerPulse = true → within 1 60000 c.minInterval = true →
      ∃ t, exec (.pumpSet tag (u8 p.val ++ u8 c.gearInterval ++ u8 c.startTime ++ u8 c.noFlowTime
            ++ u16 c.litresPerPulse ++ u16 c.minInterval ++ u8 run.val ++ u8 flow.val)) s = .next t
        ∧ t.cfg = { s.cfg with pumps := s.cfg.pumps.set p c }
        ∧ (s.cfg.pumps[p].runChannel = some run ∨ s.fcu.channels[run].settled = none → { t with cfg := s.cfg, lnk := s.lnk } = s)
        ∧ (s.cfg.pumps[p].runChannel ≠ some run → s.fcu.channels[run].settled = some none →
            { t with cfg := s.cfg, lnk := s.lnk } = s.setPump p { s.pva.pumps[p] with proof := .unknown })
        ∧ (∀ active, s.cfg.pumps[p].runChannel ≠ some run → s.fcu.channels[run].settled = some (some active) →
            t.pva.pumps[p].proof = if active then .running else .stopped)
        ∧ Answered s t 0x17 tag .ok [])
    ∧ ∀ (v : ValveNo) (ch : ChannelNo) (travel : Nat), within 5 120 travel = true →
      ∃ t, exec (.valveSet tag (u8 v.val ++ u8 travel ++ u8 ch.val)) s = .next t
        ∧ t.cfg = { s.cfg with valves := s.cfg.valves.set v ⟨travel, some ch⟩ }
        ∧ (s.cfg.valves[v].channel = some ch ∨ s.fcu.channels[ch].settled = none → { t with cfg := s.cfg, lnk := s.lnk } = s)
        ∧ (s.cfg.valves[v].channel ≠ some ch → s.fcu.channels[ch].settled = some none →
            { t with cfg := s.cfg, lnk := s.lnk } = s.setValve v { s.pva.valves[v] with proved := .unknown })
        ∧ (∀ active, s.cfg.valves[v].channel ≠ some ch → s.fcu.channels[ch].settled = some (some active) →
            t.pva.valves[v].proved = if active then .opened else .closed)
        ∧ Answered s t 0x18 tag .ok []

/-- BOUNDS_SET replaces both bounds of its tank in every phase and requests a recompute. It ends every admitted step whose target in that tank lies outside them: one in QUEUED or WAITING is removed with outcome BOUND and disposition CANCELLED, one in LINEUP, RAMP or RUN enters WIND_DOWN with outcome BOUND (or is removed, its lineup closed at once), one in WIND_DOWN stands; and a SHIFT step in RUN into the tank whose level lies at or above the new upper bound winds down with outcome BOUND. BERTH_SET replaces the three berth limits in every phase, logs them, requests a recompute, and touches nothing else (R9, R15, R38, R41, R106). -/
def Obligations.BoundsAndBerthTaken : Prop :=
  ∀ (s : State) (tag : Tag), s.serving →
    (∀ (k : TankNo) (lower upper : Nat), lower < upper → upper ≤ 40000 →
      ∃ t, exec (.boundsSet tag (u8 k.val ++ u16 lower ++ u16 upper)) s = .next t
        ∧ t.cfg = { s.cfg with bounds := s.cfg.bounds.set k ⟨lower, upper⟩ }
        ∧ t.cen = (State.requestRecompute s).cen
        ∧ (QueueSafe s → LineSafe s → ∀ (j : SlotNo) (x : StepRec), s.tsq.slots[j] = some x →
            let bound : StepRec := { x with state := .windDown, outcome := some .bound }
            (x.targetTank = some k → x.target < lower ∨ upper < x.target →
              (x.state = .queued ∨ x.state = .waiting → t.tsq.slots[j] = none
                ∧ ((∀ (i : SlotNo) (y : StepRec), i ≠ j → s.tsq.slots[i] = some y → y.names k = false) →
                    t.rcu = (s.stepEnd x .bound .cancelled).rcu))
              ∧ (x.state.running = true → t.tsq.slots[j] = none ∨ t.tsq.slots[j] = some bound)
              ∧ (x.state = .windDown → t.tsq.slots[j] = some x))
            ∧ (x.kind = .shift → x.dest = some k → x.state = .run → upper ≤ s.tanks[k].level →
                t.tsq.slots[j] = none ∨ t.tsq.slots[j] = some bound))
        ∧ Touches [.cfg, .tsq, .rcu, .lnk, .pva, .cen] s t ∧ Answered s t 0x1A tag .ok [])
    ∧ ∀ draft clearance gm : Nat, draft ≤ 40000 → clearance ≤ 40000 → gm = 0 ∨ within 10 2000 gm = true →
      ∃ t, exec (.berthSet tag (u16 draft ++ u16 clearance ++ u16 gm)) s = .next t
        ∧ t.berth = ⟨draft, clearance, gm⟩
        ∧ t.rcu = (s.log .berthSet [draft, clearance, gm]).rcu
        ∧ t.cen = (State.requestRecompute { s with berth := ⟨draft, clearance, gm⟩ }).cen
        ∧ Touches [.berth, .rcu, .lnk, .cen] s t ∧ Quiet s t ∧ Answered s t 0x1B tag .ok []

/-- Validation passes exactly the tables in which none of the thirteen items of R17 fails at any index; and where one fails it names the first failing item in the order of the rule, with that item's first failing index in ascending order (R17). -/
def Obligations.ValidationPasses : Prop :=
  ∀ c : ConfigTables,
    let spanFails (first count : Nat) : Prop := count = 0 ∨ 20 < first + count
    let fails (item index : Nat) : Prop :=
      match item with
      | 1 => index = 0 ∧ (c.segments.toList.filter fun g => g.immersion != 0).length < 2
      | 2 => index = 0 ∧ (c.segments.toList.map (·.mass)).sum = 0
      | 3 => index = 0 ∧ c.ship.ls = 0
      | 4 => ∃ j : StationIx, index = j.val + 1
          ∧ (c.stations[j].shear = 0 ∨ c.stations[j].hogging = 0 ∨ c.stations[j].sagging = 0)
      | 5 => ∃ t : TankNo, index = t.val
          ∧ (spanFails c.tanks[t].first c.tanks[t].count ∨ (c.tanks[t].side = .port ∧ 0 < c.tanks[t].arm)
            ∨ (c.tanks[t].side = .starboard ∧ c.tanks[t].arm < 0))
      | 6 => ∃ t : TankNo, index = t.val
          ∧ (c.soundings[t].length < 2 ∨ (c.soundings[t].head?.map (·.level)) ≠ some 0
            ∨ ¬c.soundings[t].IsChain fun a b => a.level < b.level ∧ a.volume ≤ b.volume)
      | 7 => ∃ h : HoldNo, index = h.val ∧ spanFails c.holds[h].first c.holds[h].count
      | 8 => ∃ k : Fin 7, index = k.val ∧ c.thresholds[k].stop ≤ c.thresholds[k].caution
      | 9 => ∃ ch : ChannelNo, index = ch.val
          ∧ ∃ lo hi span band bound, c.channels[ch] = .level lo hi span band bound ∧ hi ≤ lo
      | 10 => ∃ t : TankNo, index = t.val ∧ (c.boundChannels t).length ≠ if c.tanks[t].metered then 1 else 0
      | 11 => ∃ p : PumpNo, index = p.val
          ∧ ¬((∃ ch d n, c.pumps[p].runChannel = some ch ∧ c.channels[ch] = .switch d n)
            ∧ ∃ ch, c.pumps[p].flowChannel = some ch ∧ c.channels[ch] = .pulse)
      | 12 => ∃ v : ValveNo, index = v.val ∧ ¬∃ ch d n, c.valves[v].channel = some ch ∧ c.channels[ch] = .switch d n
      | 13 => ∃ ch : ChannelNo, index = ch.val ∧ 1 < c.namings ch
      | _ => False
    (c.validate = none ↔ ∀ item index, ¬fails item index)
    ∧ ∀ item index, c.validate = some (item, index) ↔
        fails item index ∧ (∀ j < index, ¬fails item j) ∧ ∀ i < item, ∀ j, ¬fails i j

/-! ### The readers -/

/-- The reading requests answer OK with their report of the state and change nothing; CONDITION_GET of the STATIONS and SEGMENTS parts gives the record's number and the items asked for, in order; without a current record it is refused with STATE for SUMMARY, STATIONS and SEGMENTS alike. The bytes are those of R200 to R205; where these leave a layout or a code open, they are the model's choice (log entry 14) (R16, R29, R39, R64, R65, R85, R110, R133, R152, R176, R181, R188, R215). -/
def Obligations.ReadersReport : Prop :=
  ∀ (s : State) (tag : Tag) (b : List Byte), s.serving →
    let reads (c : Instr) (kind : Byte) (body : List Byte) : Prop :=
      ∃ t, exec c s = .next t ∧ Replied s t kind tag .ok body
    (∀ i, b.length = 2 → parseTableGet b = some i → reads (.tableGet tag b) 0x1C (s.tableItem i))
    ∧ (∀ ch : ChannelNo, reads (.channelGet tag (u8 ch.val)) 0x23 (s.channelBody ch))
    ∧ (∀ k : TankNo, reads (.tankGet tag (u8 k.val)) 0x26 (s.tankBody k))
    ∧ reads (.conditionGet tag (u8 3)) 0x32 s.cen.engineBody
    ∧ (∀ r, s.cen.current = some r → reads (.conditionGet tag (u8 0)) 0x32 r.summary)
    ∧ (∀ r first count, s.cen.current = some r → 1 ≤ first → 1 ≤ count → first + count ≤ 20 →
        reads (.conditionGet tag (u8 1 ++ u8 first ++ u8 count)) 0x32
          (u32 r.sequence ++ ((r.stations.drop (first - 1)).take count).flatMap StationFigures.encode))
    ∧ (∀ r first count, s.cen.current = some r → 1 ≤ count → first + count ≤ 20 →
        reads (.conditionGet tag (u8 2 ++ u8 first ++ u8 count)) 0x32
          (u32 r.sequence ++ ((r.segments.drop first).take count).flatMap SegmentFigures.encode))
    ∧ (s.cen.current = none → ∀ first count : Nat, 1 ≤ count → first + count ≤ 20 →
        (∃ t, exec (.conditionGet tag (u8 0)) s = .next t ∧ Replied s t 0x32 tag .state [])
        ∧ (1 ≤ first → ∃ t, exec (.conditionGet tag (u8 1 ++ u8 first ++ u8 count)) s = .next t
            ∧ Replied s t 0x32 tag .state [])
        ∧ ∃ t, exec (.conditionGet tag (u8 2 ++ u8 first ++ u8 count)) s = .next t ∧ Replied s t 0x32 tag .state [])
    ∧ reads (.limitStatus tag []) 0x45 s.limitBody
    ∧ (∀ first count, within 1 32 first = true → within 1 8 count = true →
        reads (.stepList tag (u8 first ++ u8 count)) 0x53 (s.tsq.listBody first count))
    ∧ (∀ part, b.length = 1 → parsePlantStatus b = some part → reads (.plantStatus tag b) 0x63 (s.plantBody part))
    ∧ (∀ part, requestLengthOk (.pourStatus tag b) = true → parsePourStatus b = some part →
        reads (.pourStatus tag b) 0x76 (s.pourBody part))
    ∧ (∀ first count, 1 ≤ first → first ≤ Config.maxU32 → within 1 16 count = true →
        reads (.logRead tag (u32 first ++ u8 count)) 0x91 (s.rcu.logBody first count))
    ∧ (∀ part, requestLengthOk (.totalsGet tag b) = true → parseTotalsGet b = some part →
        reads (.totalsGet tag b) 0x92 (s.rcu.totalsBody part))
    ∧ (∀ (stored : Bool) (off len : Nat), off ≤ 65535 → within 1 200 len = true →
        reads (.reportRead tag (flag stored ++ u16 off ++ u8 len)) 0x94 (s.reportBody (stored, off, len)))
    ∧ reads (.storeStatus tag []) 0xB3 s.sst.statusBody

/-- IDENTIFY in every phase: with an empty body it replies OK with the vendor code 0x0B24, the part code 240, the hardware revision 3, the start cause, CONFIG_ABSENT and the phase; with any other body it is refused with FORMAT; it changes nothing (R197). -/
def Obligations.IdentifyReply : Prop :=
  ∀ (s : State) (tag : Tag), s.serving →
    (∀ body, body ≠ [] → ∃ t, exec (.identify tag body) s = .next t ∧ Replied s t 0xA1 tag .format [])
    ∧ ∃ t, exec (.identify tag []) s = .next t
      ∧ Replied s t 0xA1 tag .ok [0x0B, 0x24, 0xF0, 0x03, if s.ccl.startCause = .power then 0 else 1,
          if s.ccl.configAbsent then 1 else 0, BitVec.ofNat 8 s.ccl.phase.code]

/-! ### The field -/

/-- SCAN_END at the end of the scan period samples every LEVEL channel: a sample below raw_lo less the fault band or above raw_hi plus it is invalid, and so is every sample while raw_hi does not exceed raw_lo; the filter moves as the table of R24 gives, row by row; channels of other modes are untouched. The next period begins where this one ends, on the setting in force, as long as R21 makes it. Outside SETUP a recompute is requested behind the deliveries: an idle engine begins one at once, on the masses the tanks then hold, and a busy one keeps it pending; in SETUP none is requested (R21 to R24, R41, R44). Before the period's end there is no such event, and nothing changes: the model's choice (log entry 18). -/
def Obligations.ScanEndFilters : Prop :=
  ∀ (s : State) (v : Vector Sample 48), s.powered = true →
    (s.now < s.fcu.scan.endsAt → Settled s → exec (.scanEnd v) s = .next s)
    ∧ (s.fcu.scan.endsAt ≤ s.now → ∃ t, exec (.scanEnd v) s = .next t
      ∧ Touches [.fcu, .tanks, .lsl, .rcu, .lnk, .tsq, .pva, .cen] s t
      ∧ t.fcu.scan = ⟨s.cfg.scan, s.fcu.scan.endsAt + max 100 (s.cfg.scan.prescale * (256 - s.cfg.scan.reload) * 10)⟩
      ∧ (s.ccl.phase ≠ .setup → s.cen.inFlight = none → ∃ snap,
          t.cen = { s.cen with inFlight := some (.current snap), pendingCurrent := false }
            ∧ snap.moves = [] ∧ ∀ k : TankNo, snap.tankMass[k] = t.tanks[k].mass)
      ∧ (s.ccl.phase = .setup → t.cen = s.cen)
      ∧ (s.ccl.phase ≠ .setup → s.cen.inFlight ≠ none → t.cen = { s.cen with pendingCurrent := true })
      ∧ (∀ ch : ChannelNo, (∀ lo hi span band bound, s.cfg.channels[ch] ≠ .level lo hi span band bound) →
          t.fcu.channels[ch] = s.fcu.channels[ch])
      ∧ ∀ (ch : ChannelNo) (lo hi span band : Nat) (bound : Option TankNo) (last : Option (Sample × Bool))
          (window : List Nat) (run : Nat) (valid : Bool),
          s.cfg.channels[ch] = .level lo hi span band bound → s.fcu.channels[ch] = .level last window run valid →
          let raw := v[ch].toNat
          let good := decide (lo < hi) && decide (lo ≤ raw + band) && decide (raw ≤ hi + band)
          let level := (clampInt 0 span (roundDiv (((raw : Int) - lo) * span) ((hi : Int) - lo))).toNat
          t.fcu.channels[ch] =
            if valid then
              if good then .level (some (v[ch], true)) (window.drop 1 ++ [level]) 0 true
              else if run < 2 then .level (some (v[ch], false)) window (run + 1) true
              else .level (some (v[ch], false)) [] 0 false
            else if good then
              if window.length < 3 then .level (some (v[ch], true)) (window ++ [level]) 0 false
              else .level (some (v[ch], true)) (window ++ [level]) 0 true
            else .level (some (v[ch], false)) [] 0 false)

/-- At a SCAN_END that ends the scan period the tank a LEVEL channel feeds takes the rounded mean of the channel's full window at each valid sample of a VALID channel and at each recovery, and is VALID from a recovery on: outside SETUP with the volume, mass and OVER_TABLE that its sounding table and density give, in SETUP the level alone. It is STALE from the third invalid sample in a row on, and holds its figures at every other sample (R21, R24, R25, R31, R32, R34). -/
def Obligations.ScanEndDelivers : Prop :=
  ∀ (s : State) (v : Vector Sample 48), s.powered = true → s.fcu.scan.endsAt ≤ s.now →
    ∃ t, exec (.scanEnd v) s = .next t
      ∧ ∀ (ch : ChannelNo) (k : TankNo) (lo hi span band : Nat) (bound : Option TankNo) (last : Option (Sample × Bool))
          (window : List Nat) (run : Nat) (valid : Bool), s.cfg.fedTank ch = some k →
          s.cfg.channels[ch] = .level lo hi span band bound → s.fcu.channels[ch] = .level last window run valid →
          let raw := v[ch].toNat
          let good := decide (lo < hi) && decide (lo ≤ raw + band) && decide (raw ≤ hi + band)
          let level := (clampInt 0 span (roundDiv (((raw : Int) - lo) * span) ((hi : Int) - lo))).toNat
          let full := (if valid then window.drop 1 else window) ++ [level]
          let mean := (2 * full.sum + 4) / 8
          t.tanks[k] =
            if good && (valid || decide (3 ≤ window.length)) then
              let x := { s.tanks[k] with level := mean, stale := s.tanks[k].stale && valid }
              if s.ccl.phase = .setup then x
              else { x with
                volume := volumeAt s.cfg.soundings[k] mean
                mass := roundNat (volumeAt s.cfg.soundings[k] mean * s.cfg.tanks[k].density) 10000
                overTable := overTableAt s.cfg.soundings[k] mean }
            else { s.tanks[k] with stale := s.tanks[k].stale || (valid && !good && decide (2 ≤ run)) }

/-- A change of a contact starts the debounce of a SWITCH channel afresh; without power the contact alone changes (the model's reading, log entry 16), and a contact that stands as reported changes nothing (the model's choice, log entry 18). When a SWITCH channel has held its raw state for the debounce time, its debounced state becomes that state, which every pump and valve field that names it takes; a channel bound to none changes nothing else but the SENSOR notice, which only a change after the first makes, and only with notify ON. A rising edge at a PULSE channel raises its count by one, wrapping, and records its time; a channel that is no pump's flow channel does nothing else. A pump's flow pulse that comes within the minimum interval of the one before, on a BUSY pump whose METER flag is clear, sets that flag and removes the no-flow timer; the METER fault is present at LSL, new there an EQUIPMENT alarm event, and a METER_FAULT entry gives the interval, the minimum and the step number, behind LSL's ALARM entry (that order the model's choice, log entry 23). Any other pulse restarts the no-flow timer where it runs, and changes no fault and no entry. Both count their litres for the step on that pump (R20, R26 to R28, R100, R126, R127). -/
def Obligations.ContactsTaken : Prop :=
  (∀ (s : State) (ch : ChannelNo) (closed : Bool), Settled s →
      (s.pins.contacts[ch] = closed → exec (.switchInputChange ch closed) s = .next s)
      ∧ (s.pins.contacts[ch] ≠ closed →
          let pins := { s.pins with contacts := s.pins.contacts.set ch closed }
          (s.powered = false ∨ (∀ d since changed, s.fcu.channels[ch] ≠ .switch d since changed) →
            exec (.switchInputChange ch closed) s = .next { s with pins := pins })
          ∧ ∀ d since changed, s.powered = true → s.fcu.channels[ch] = .switch d since changed →
            exec (.switchInputChange ch closed) s
              = .next { s with pins := pins, fcu := { s.fcu with
                  channels := s.fcu.channels.set ch (.switch d s.now (some s.now)) } }))
    ∧ (∀ (s : State) (ch : ChannelNo) (debounce since : Nat) (notify : Bool) (was : Option Bool) (changed : Option Nat),
      s.powered = true → s.cfg.channels[ch] = .switch debounce notify → s.fcu.channels[ch] = .switch was since changed →
      was ≠ some s.pins.contacts[ch] →
      ∃ t, exec (.switchDebounceExpiry ch) s = .next t
        ∧ t.fcu = { s.fcu with channels := s.fcu.channels.set ch (.switch (some s.pins.contacts[ch]) since changed) }
        ∧ Touches [.fcu, .tsq, .rcu, .lnk, .pva, .lsl, .tanks, .cen] s t
        ∧ (∀ p : PumpNo, s.cfg.pumps[p].runChannel = some ch →
            t.pva.pumps[p].proof = if s.pins.contacts[ch] then .running else .stopped)
        ∧ (∀ v : ValveNo, s.cfg.valves[v].channel = some ch →
            t.pva.valves[v].proved = if s.pins.contacts[ch] then .opened else .closed)
        ∧ (s.cfg.plantBound ch = false → Touches [.fcu, .lnk] s t
            ∧ (s.lnk.tx ≠ .idle → notify = false ∨ was = none ∨ s.lnk.enables 8 = false → t.lnk = s.lnk)
            ∧ (s.lnk.tx ≠ .idle → notify = true → was ≠ none → s.lnk.enables 8 = true →
                (t.lnk.notices[Notice.sensor.place]).map (·.content)
                  = some (u8 ch.val ++ flag s.pins.contacts[ch]))))
    ∧ (∀ (s : State) (ch : ChannelNo) (count : BitVec 32) (last : Option Nat), s.powered = true →
      s.fcu.channels[ch] = .pulse count last →
      ∃ t, exec (.flowPulse ch) s = .next t
        ∧ t.fcu = { s.fcu with channels := s.fcu.channels.set ch (.pulse (count + 1) (some s.now)) }
        ∧ Touches [.fcu, .pva, .lsl, .rcu, .lnk, .tsq] s t
        ∧ (s.cfg.flowPumps ch = [] → Settled s → { t with fcu := s.fcu } = s)
        ∧ ∀ p : PumpNo, s.cfg.flowPumps ch = [p] →
          let y := s.pva.pumps[p]
          let interval := s.now - last.getD 0
          let fast := y.state = .busy ∧ y.meter = false ∧ last ≠ none ∧ interval < s.cfg.pumps[p].minInterval
          let masked := s.cfg.alarm.masked[AlarmGroup.equipment.ix]
          let alarmed : State := if s.lsl.faults.meter[p] then s else s.log .alarm [3, 34, p.val, masked.toNat]
          t.pva.valves = s.pva.valves ∧ (∀ q : PumpNo, q ≠ p → t.pva.pumps[q] = s.pva.pumps[q])
          ∧ (fast → t.pva.pumps[p] = { y with meter := true, noFlowUntil := none }
              ∧ t.lsl.faults.meter[p] = true
              ∧ (s.lsl.faults.meter[p] = true → t.lsl = s.lsl)
              ∧ (s.lsl.faults.meter[p] = false → t.lsl.groups[AlarmGroup.equipment.ix]
                  = ⟨true, s.lsl.groups[AlarmGroup.equipment.ix].unacknowledged || !masked⟩)
              ∧ t.rcu = (alarmed.log .meterFault
                  [p.val, interval, s.cfg.pumps[p].minInterval, y.granted.getD 0]).rcu)
          ∧ (¬fast → t.lsl = s.lsl ∧ t.rcu = s.rcu ∧ t.pva.pumps[p]
              = { y with noFlowUntil := y.noFlowUntil.map fun _ => s.now + 1000 * s.cfg.pumps[p].noFlowTime })
          ∧ (s.tsq.stepOn p = none → t.tsq = s.tsq)
          ∧ ∀ (k : SlotNo) (x : StepRec), s.tsq.stepOn p = some (k, x) →
              t.tsq = { s.tsq with slots := (s.tsq.slots.set k
                (some { x with litres := min Config.maxU32 (x.litres + s.cfg.pumps[p].litresPerPulse) })) })

/-- TANK_LOCK and TANK_UNLOCK in every phase, FORMAT and RANGE first. TANK_LOCK on an UNLOCKED tank locks it with reason OPERATOR, logs it, ends every admitted step that names it, and requests a recompute where the phase is not SETUP; on a LOCKED one it changes nothing; both reply OK. TANK_UNLOCK on an UNLOCKED tank: no change and OK; on one locked by an operator, or by its valve with that valve no longer FAULTED, the tank is UNLOCKED, logged, a recompute requested where the phase is not SETUP, and OK; with the valve still FAULTED no change and STATE. TSQ is not told of an unlock (R35, R36, R41, R104). -/
def Obligations.TankLocks : Prop :=
  ∀ (s : State) (tag : Tag), s.serving →
    (∀ body, body.length ≠ 1 → ∃ t, exec (.tankLock tag body) s = .next t ∧ Replied s t 0x24 tag .format [])
    ∧ (∀ n, 16 ≤ n → n ≤ 255 → ∃ t, exec (.tankLock tag (u8 n)) s = .next t ∧ Replied s t 0x24 tag .range [])
    ∧ (∀ k : TankNo, ∃ t, exec (.tankLock tag (u8 k.val)) s = .next t ∧ Answered s t 0x24 tag .ok []
      ∧ (s.tanks[k].lock ≠ .unlocked → { t with lnk := s.lnk } = s ∧ Quiet s t)
      ∧ (s.tanks[k].lock = .unlocked → t.tanks = s.tanks.set k { s.tanks[k] with lock := .operator }
          ∧ Touches [.tanks, .tsq, .rcu, .lnk, .pva, .cen] s t
          ∧ ((∀ (j : SlotNo) (x : StepRec), s.tsq.slots[j] = some x → x.names k = false) →
              t.rcu = (s.log .tankLock [k.val, 0]).rcu)
          ∧ (s.ccl.phase = .setup → t.cen = s.cen)
          ∧ (s.ccl.phase ≠ .setup → s.cen.inFlight ≠ none → t.cen = { s.cen with pendingCurrent := true })
          ∧ (s.ccl.phase ≠ .setup → s.cen.inFlight = none → ∃ snap,
              t.cen = { s.cen with inFlight := some (.current snap), pendingCurrent := false })
          ∧ (QueueSafe s → LineSafe s → ∀ (j : SlotNo) (x : StepRec), s.tsq.slots[j] = some x →
              x.state ≠ .checking → x.names k = true → t.tsq.slots[j].all (·.state == .windDown) = true)))
    ∧ (∀ body, body.length ≠ 1 → ∃ t, exec (.tankUnlock tag body) s = .next t ∧ Replied s t 0x25 tag .format [])
    ∧ (∀ n, 16 ≤ n → n ≤ 255 → ∃ t, exec (.tankUnlock tag (u8 n)) s = .next t ∧ Replied s t 0x25 tag .range [])
    ∧ ∀ k : TankNo, ∃ t, exec (.tankUnlock tag (u8 k.val)) s = .next t
      ∧ (s.tanks[k].lock = .unlocked → Replied s t 0x25 tag .ok [])
      ∧ (s.tanks[k].lock = .valve → s.pva.valves[tankValve k].faulted = true → Replied s t 0x25 tag .state [])
      ∧ (s.tanks[k].lock = .operator ∨ s.tanks[k].lock = .valve ∧ s.pva.valves[tankValve k].faulted = false →
          t.tanks = s.tanks.set k { s.tanks[k] with lock := .unlocked }
          ∧ t.rcu = (s.log .tankUnlock [k.val]).rcu
          ∧ (s.ccl.phase = .setup → t.cen = s.cen)
          ∧ (s.ccl.phase ≠ .setup → s.cen.inFlight ≠ none → t.cen = { s.cen with pendingCurrent := true })
          ∧ (s.ccl.phase ≠ .setup → s.cen.inFlight = none → ∃ snap,
              t.cen = { s.cen with inFlight := some (.current snap), pendingCurrent := false })
          ∧ Touches [.tanks, .rcu, .cen, .lnk] s t ∧ Quiet s t ∧ Answered s t 0x25 tag .ok [])

/-! ### The condition engine -/

/-- A quotient is rounded to the nearest whole number, a half away from zero. A sounding table that passes validation gives each point's volume at its level, the last point's above it, and a volume that never falls as the level rises; OVER_TABLE is set exactly above the last point. A mass whose span lies in the hull is spread over its segments without loss, no two shares further apart than 1 t. The determinant of the equilibrium is above 0 for every hull with two segments of immersion factor above 0 (R1, R17, R31, R51, R52). -/
def Obligations.EngineArithmetic : Prop :=
  (∀ n d : Int, 0 < d →
      2 * (n - d * roundDiv n d) ≤ d ∧ -d ≤ 2 * (n - d * roundDiv n d)
      ∧ (2 * (n - d * roundDiv n d) = d → n < 0) ∧ (2 * (n - d * roundDiv n d) = -d → 0 < n)
      ∧ roundDiv (-n) d = -roundDiv n d)
    ∧ (∀ table : List Point, soundingOk table = true →
      (∀ p ∈ table, volumeAt table p.level = p.volume)
      ∧ (∀ (p : Point) (level : Nat), table.getLast? = some p → p.level ≤ level → volumeAt table level = p.volume)
      ∧ (∀ (p : Point) (level : Nat), table.getLast? = some p → (overTableAt table level = true ↔ p.level < level))
      ∧ ∀ a b : Nat, a ≤ b → volumeAt table a ≤ volumeAt table b)
    ∧ (∀ it : Item, it.count ≠ 0 → it.first + it.count ≤ 20 →
      ((List.range 20).map it.share).sum = it.mass
      ∧ ∀ i, it.first ≤ i → i < it.first + it.count → it.mass / it.count ≤ it.share i ∧ it.share i ≤ it.mass / it.count + 1)
    ∧ (∀ ks ws : List Nat, ks.length = 20 → 2 ≤ (ks.filter (· != 0)).length → 0 < (hullSums ks ws).determinant)

/-- Every record the engine completes has its segment buoyancies adding up to its displacement, its drafts and trim within the range of the model, its usages and figures at most 9999, each class band placed by its thresholds, and the overall band the highest of them; the displacement is the sum of its segment weights, or 300,000 t above that with MODEL_RANGE set (R51, R54 to R56, R58 to R61). -/
def Obligations.RecordIsConsistent : Prop :=
  ∀ (snap : Snapshot) (predicted : Bool) (sequence : Nat) (m : Masses),
    let r := snap.compute predicted sequence m
    r.predicted = predicted ∧ r.sequence = sequence ∧ r.shipTime = snap.shipTime
      ∧ r.segments.length = 20 ∧ r.stations.length = 19
      ∧ (r.segments.map (·.buoyancy)).sum = r.displacement
      ∧ r.displacement = min 300000 (r.segments.map (·.weight)).sum
      ∧ (300000 < (r.segments.map (·.weight)).sum → r.modelRange = true)
      ∧ r.tm ≤ 40000 ∧ r.ta ≤ 40000 ∧ r.tf ≤ 40000 ∧ -40000 ≤ r.trim ∧ r.trim ≤ 40000
      ∧ -3000 ≤ r.list ∧ r.list ≤ 3000
      ∧ (∀ x ∈ r.stations, x.shearUsage ≤ 9999 ∧ x.bendingUsage ≤ 9999
          ∧ -2000000000 ≤ x.shear ∧ x.shear ≤ 2000000000)
      ∧ (∀ c : Fin 7, r.figures[c] ≤ 9999 ∧ r.bands[c] = placeBand snap.thresholds[c] r.figures[c])
      ∧ (∀ c : Fin 7, r.bands[c].above r.overall = false) ∧ (r.overall = .clear ∨ r.overall ∈ r.bands.toList)
      ∧ r.ballast = m.tanks.toList.sum ∧ r.cargo = m.holds.toList.sum

/-- PREDICT outside SETUP, with at most eight overrides in range, joins the prediction queue at its tail when fewer than four wait, and begins at once when the engine is idle with nothing pending; its reply waits. With four waiting it is answered BUSY, and changes nothing else. In SETUP it is answered PHASE (R42, R62). -/
def Obligations.PredictTaken : Prop :=
  ∀ (s : State) (tag : Tag) (body : List Byte) (admitted : Bool) (overrides : List Override), s.serving →
    requestLengthOk (.predict tag body) = true → parsePredict body = some (admitted, overrides) →
    (s.ccl.phase = .setup →
      ∃ t, exec (.predict tag body) s = .next t ∧ Replied s t 0x31 tag .phase [])
    ∧ (s.ccl.phase ≠ .setup → 4 ≤ s.cen.queue.length →
      ∃ t, exec (.predict tag body) s = .next t ∧ Replied s t 0x31 tag .busy [])
    ∧ (s.ccl.phase ≠ .setup → s.cen.queue.length < 4 →
      ∃ t r, exec (.predict tag body) s = .next t ∧ { t with lnk := s.lnk, cen := s.cen } = s ∧ Deferred s t r 0x31 tag
        ∧ let q : PredictionRequest := ⟨.predict tag, r, admitted, overrides⟩
          (s.cen.inFlight.isSome ∨ s.cen.pendingCurrent = true → t.cen = { s.cen with queue := s.cen.queue ++ [q] })
          ∧ (s.cen.inFlight = none → s.cen.pendingCurrent = false → s.cen.queue = [] →
              t.cen = { s.cen with inFlight := some (.prediction q (s.snapshot (s.movesOf q))) }))

/-- When the current recompute in flight completes, its record replaces the current record whole, numbered one above the sequence counter with 4,294,967,295 followed by 1; the engine then begins a waiting prediction first, else a pending recompute, else it idles. LSL and RCU take the record in either order. LSL handles it whole: it holds its class bands, its overall band and its number; the STOP run count rises with a STOP record, held at 8, and is 0 after any other; the CONDITION cause is active exactly after a STOP record that found it active or brought the count to the tolerance (at or above it after a changed tolerance: the model's reading, log entry 15), and a line it asserts is logged as its doing. CONDITION_BAND is noticed exactly where a band differs. A group of STRESS and BERTH has its cause present exactly where one of its bands is above CLEAR; where one is higher than before it takes one alarm event, of the class and item R79 names: unacknowledged unless masked, logged (the log not near its last number), and noticed. An overall band that leaves CLEAR is one bad event for PMU. Which ALARM notice is left where one record brings several, PACE's of the bad event before BERTH's before STRESS', is the model's reading (R69 gives its results no order, log entry 23). RCU's band memory is the record's bands; each of its four peaks is replaced whole by a greater figure of the record and else stands; a PENDING arrival takes the record's figures, and so does a PENDING loading-start snapshot (R43, R45, R69 to R72, R75, R78, R79, R147, R175, R177, R179). -/
def Obligations.CurrentRecordTaken : Prop :=
  ∀ (s : State) (snap : Snapshot), s.powered = true → s.cen.inFlight = some (.current snap) →
    let n := if s.cen.sequence < Config.maxU32 then s.cen.sequence + 1 else 1
    let r := snap.compute false n (snap.masses [])
    ∃ t, exec .currentRecomputeComplete s = .next t
      ∧ t.cen.current = some r ∧ t.cen.sequence = n
      ∧ (∀ q l, s.cen.queue = q :: l → (∃ next, t.cen.inFlight = some (.prediction q next)) ∧ t.cen.queue = l
          ∧ t.cen.pendingCurrent = s.cen.pendingCurrent)
      ∧ (s.cen.queue = [] → s.cen.pendingCurrent = true →
          (∃ next, t.cen.inFlight = some (.current next)) ∧ t.cen.queue = [] ∧ t.cen.pendingCurrent = false)
      ∧ (s.cen.queue = [] → s.cen.pendingCurrent = false → t.cen.inFlight = none ∧ t.cen.queue = [])
      ∧ t.lsl.classBands = r.bands ∧ t.lsl.overallBand = r.overall ∧ t.lsl.bandSequence = r.sequence
      ∧ t.lsl.stopRun = (if r.overall = .stop then min 8 (s.lsl.stopRun + 1) else 0)
      ∧ (t.lsl.causes.condition = true ↔
          r.overall = .stop ∧ (s.lsl.causes.condition = true ∨ s.cfg.stop.tolerance ≤ min 8 (s.lsl.stopRun + 1)))
      ∧ (s.lsl.line = false → t.lsl.causes.condition = true → ∀ m, s.rcu.nextSequence = some m → m + 16 ≤ Config.maxU32 →
          t.lsl.line = true ∧ ∃ e ∈ t.rcu.log, e.kind = .stopOn
            ∧ e.params = #v[1, s.lsl.causes.counter.toNat, s.lsl.causes.emergency.toNat, 0])
      ∧ t.pmu.counter = (if r.overall ≠ .clear ∧ s.lsl.overallBand = .clear ∧ s.pmu.unit ≠ .idle then
          s.pmu.counter - s.cfg.permit.badStep else s.pmu.counter)
      ∧ (let differ := decide (r.overall ≠ s.lsl.overallBand ∨ r.bands ≠ s.lsl.classBands)
        (differ = false ∨ s.lnk.enables 5 = false → s.lnk.tx ≠ .idle →
          t.lnk.notices[Notice.conditionBand.place] = s.lnk.notices[Notice.conditionBand.place])
        ∧ (differ = true → s.lnk.enables 5 = true → s.lnk.tx ≠ .idle →
            (t.lnk.notices[Notice.conditionBand.place]).map (·.content) = some (u32 n ++ encodeBands r.bands
              ++ u8 r.overall.code ++ r.worstShear.encode ++ r.worstBending.encode)))
      ∧ (let rises (a b : BandClass) : Bool :=
          r.bands[a.ix].above s.lsl.classBands[a.ix] || r.bands[b.ix].above s.lsl.classBands[b.ix]
        let source (a b : BandClass) : BandClass :=
          if r.bands[b.ix].above r.bands[a.ix] then b
          else if r.bands[a.ix].above r.bands[b.ix] then a
          else if r.figures[a.ix] < r.figures[b.ix] then b else a
        let item (c : BandClass) : Nat :=
          match c with
          | .shear => r.worstShear.station
          | .bending => r.worstBending.station
          | .air => orNone (fun e : AirEntry => e.hold.val) (worstAir r.air)
          | _ => 255
        let paced := decide (r.overall ≠ .clear ∧ s.lsl.overallBand = .clear ∧ s.pmu.unit ≠ .idle
          ∧ s.pmu.lowReported = false ∧ s.pmu.counter - s.cfg.permit.badStep < s.cfg.permit.lower)
        let noticed (g : AlarmGroup) (source item : Nat) : Prop :=
          (t.lnk.notices[Notice.alarm.place]).map (·.content) = some (u8 g.code ++ u8 source ++ u8 item
            ++ flag s.cfg.alarm.masked[g.ix] ++ flag (!s.cfg.alarm.masked[g.ix])
            ++ flag t.lsl.groups[g.ix].causePresent ++ flag t.lsl.groups[g.ix].unacknowledged)
        (∀ g a b, (g, a, b) ∈ [(AlarmGroup.stress, BandClass.shear, BandClass.bending), (.berth, .draft, .air)] →
          t.lsl.groups[g.ix].causePresent = (r.bands[a.ix] != .clear || r.bands[b.ix] != .clear)
          ∧ t.lsl.groups[g.ix].unacknowledged
              = (s.lsl.groups[g.ix].unacknowledged || (rises a b && !s.cfg.alarm.masked[g.ix]))
          ∧ (rises a b = true → ∀ m, s.rcu.nextSequence = some m → m + 16 ≤ Config.maxU32 →
              ∃ e ∈ t.rcu.log, e.kind = .alarm
                ∧ e.params = #v[g.code, (source a b).code, item (source a b), s.cfg.alarm.masked[g.ix].toNat]))
        ∧ (s.lnk.enables 3 = true → s.lnk.tx ≠ .idle →
            (paced = true → noticed .pace 21 255)
            ∧ (paced = false → rises .draft .air = true →
                noticed .berth (source .draft .air).code (item (source .draft .air)))
            ∧ (paced = false → rises .draft .air = false → rises .shear .bending = true →
                noticed .stress (source .shear .bending).code (item (source .shear .bending)))))
      ∧ t.rcu.memoryBands = r.bands ∧ t.rcu.memoryOverall = r.overall
      ∧ t.rcu.peaks.shear = (if s.rcu.peaks.shear.figure < r.worstShear.usage then
          ⟨r.worstShear.usage, r.worstShear.station, r.shipTime⟩ else s.rcu.peaks.shear)
      ∧ (let peak (c : BandClass) (item : Nat) (p : Peak) : Peak :=
          if p.figure < r.figures[c.ix] then ⟨r.figures[c.ix], item, r.shipTime⟩ else p
        t.rcu.peaks.shear = peak .shear r.worstShear.station s.rcu.peaks.shear
          ∧ t.rcu.peaks.bending = peak .bending r.worstBending.station s.rcu.peaks.bending
          ∧ t.rcu.peaks.draft = peak .draft 0 s.rcu.peaks.draft
          ∧ t.rcu.peaks.air = peak .air (((worstAir r.air).map (·.hold.val)).getD 0) s.rcu.peaks.air)
      ∧ (∀ time, s.rcu.arrival = .pending time → t.rcu.arrival = .taken time r.reportFigures)
      ∧ (∀ volumes, s.ptr.start = .pending volumes → t.ptr = { s.ptr with start := .taken r.startFigures volumes })
      ∧ ((∀ volumes, s.ptr.start ≠ .pending volumes) → t.ptr = s.ptr)
      ∧ Touches [.cen, .ptr, .choices, .pmu, .lsl, .rcu, .lnk] s t

/-- When a PREDICT's prediction completes, its deferred reply carries OK and the summary of the predicted record, and the engine begins a pending recompute first, else the next prediction; the current record and the sequence counter stay (R43, R46, R63). -/
def Obligations.PredictionReplies : Prop :=
  ∀ (s : State) (snap : Snapshot) (tag rtag : Tag) (kind : Byte) (r : ReplyNo) (admitted : Bool) (o : List Override),
    s.powered = true → s.cen.inFlight = some (.prediction ⟨.predict tag, r, admitted, o⟩ snap) →
    s.lnk.slots[r] = .reserved kind rtag →
    ∃ t, exec .predictionComplete s = .next t
      ∧ t.lnk.slots = s.lnk.slots.set r
          (.filled kind rtag .ok (snap.compute true snap.baseSequence (snap.masses o)).summary)
      ∧ t.cen.current = s.cen.current ∧ t.cen.sequence = s.cen.sequence
      ∧ (s.cen.pendingCurrent = true →
          (∃ next, t.cen.inFlight = some (.current next)) ∧ t.cen.queue = s.cen.queue ∧ t.cen.pendingCurrent = false)
      ∧ (s.cen.pendingCurrent = false → ∀ q l, s.cen.queue = q :: l →
          (∃ next, t.cen.inFlight = some (.prediction q next)) ∧ t.cen.queue = l)
      ∧ Touches [.cen, .lnk, .pva, .tsq] s t

/-! ### Limits, the loader stop and the alarm line -/

/-- STOP_ACK: a body of the wrong length is refused with FORMAT; while the line is OFF the request is refused with STATE; while it is ON and not acknowledged, the stop is acknowledged and the line released at once if no cause is active; while it is acknowledged, nothing changes. An acknowledgement is remembered: an evaluation that finds the stop acknowledged and no cause active releases the line (R76). -/
def Obligations.StopAcknowledged : Prop :=
  ∀ (s : State) (tag : Tag), s.serving →
    (∀ body, body ≠ [] → ∃ t, exec (.stopAck tag body) s = .next t ∧ Replied s t 0x41 tag .format [])
    ∧ (s.lsl.line = false → ∃ t, exec (.stopAck tag []) s = .next t ∧ Replied s t 0x41 tag .state [])
    ∧ (s.lsl.line = true → s.lsl.acknowledged = true → ∃ t, exec (.stopAck tag []) s = .next t
      ∧ Replied s t 0x41 tag .ok [])
    ∧ (s.lsl.line = true → s.lsl.acknowledged = false → ∃ t, exec (.stopAck tag []) s = .next t
      ∧ t.lsl = { s.lsl with acknowledged := true, line := s.lsl.causes.any }
      ∧ Touches [.lsl, .rcu, .lnk, .pmu] s t ∧ Answered s t 0x41 tag .ok []
      ∧ (s.lsl.causes.any = true → { t with lnk := s.lnk, lsl := s.lsl } = s))
      ∧ ∀ f : Lsl → Lsl, s.lsl.line = true → (f s.lsl).acknowledged = true → (f s.lsl).causes.any = false →
          (s.stopChange f).lsl.line = false

/-- ALARM_ACK: a body of the wrong length is refused with FORMAT; else the request replies OK, clears every group's unacknowledged flag, masked or not, stops a running pulse, and evaluates ALARM; cause-present flags, the fault set and the log stay; and where no group is unacknowledged and no pulse runs, nothing changes (R83). -/
def Obligations.AlarmAcknowledged : Prop :=
  ∀ (s : State) (tag : Tag), s.serving →
    (∀ body, body ≠ [] → ∃ t, exec (.alarmAck tag body) s = .next t ∧ Replied s t 0x43 tag .format [])
    ∧ ∃ t, exec (.alarmAck tag []) s = .next t ∧ { t with lnk := s.lnk, lsl := s.lsl } = s
      ∧ (∀ g : Fin 4, t.lsl.groups[g] = ⟨s.lsl.groups[g].causePresent, false⟩) ∧ t.lsl.pulseUntil = none
      ∧ t.lsl.alarmLine = (s.cfg.alarm.mode == .lamp &&
          (List.finRange 4).any fun g => !s.cfg.alarm.masked[g] && s.lsl.groups[g].causePresent)
      ∧ { t.lsl with groups := s.lsl.groups, pulseUntil := s.lsl.pulseUntil, alarmLine := s.lsl.alarmLine } = s.lsl
      ∧ (AlarmSafe s → (∀ g : Fin 4, s.lsl.groups[g].unacknowledged = false) → s.lsl.pulseUntil = none →
          { t with lnk := s.lnk } = s)
      ∧ Quiet s t ∧ Answered s t 0x43 tag .ok []

/-- STOP_SET in SETUP replaces the tolerance and the EMERGENCY enable; the EMERGENCY cause follows the input and the new enable, and LOADER STOP is evaluated: asserted by an active cause, released when no cause is active and the stop is acknowledged, an assertion clearing the acknowledgement. ALARM_SET replaces the mode, the pulse length and the masks in every phase; LAMP discards the pulse timer; ALARM follows the new settings, and no flag changes. When the alarm pulse timer runs out, ALARM goes OFF in PULSE mode, and nothing else changes (R74, R75, R77, R82, R84). Without a timer there is no such event, and nothing changes: the model's choice (log entry 18). -/
def Obligations.LimitSettingsTaken : Prop :=
  (∀ (s : State) (tag : Tag) (n : Nat) (enable : Bool), s.serving → s.ccl.phase = .setup → within 1 8 n = true →
      ∃ t, exec (.stopSet tag (u8 n ++ flag enable)) s = .next t
        ∧ t.cfg = { s.cfg with stop := ⟨n, enable⟩ }
        ∧ t.lsl.causes = { s.lsl.causes with emergency := s.lsl.emergencyInput && enable }
        ∧ t.lsl.line = (t.lsl.causes.any || (s.lsl.line && !s.lsl.acknowledged))
        ∧ t.lsl.acknowledged = (s.lsl.acknowledged && !(t.lsl.line && !s.lsl.line))
        ∧ t.lsl.stopRun = s.lsl.stopRun
        ∧ Touches [.cfg, .lsl, .rcu, .lnk, .pmu] s t ∧ Answered s t 0x42 tag .ok [])
    ∧ (∀ (s : State) (tag : Tag) (mode : AlarmMode) (len : Nat) (masked : Vector Bool 4), s.serving → within 1 30 len = true →
      ∃ t, exec (.alarmSet tag (u8 mode.code ++ u8 len ++ masked.toList.flatMap fun m => flag (!m))) s = .next t
        ∧ { t with lnk := s.lnk, lsl := s.lsl } = { s with cfg := { s.cfg with alarm := ⟨mode, len, masked⟩ } }
        ∧ t.lsl = { s.lsl with
            pulseUntil := if mode = .lamp then none else s.lsl.pulseUntil
            alarmLine := if mode = .lamp then
                (List.finRange 4).any fun g =>
                  !masked[g] && (s.lsl.groups[g].causePresent || s.lsl.groups[g].unacknowledged)
              else s.lsl.pulseUntil.isSome }
        ∧ Quiet s t ∧ Answered s t 0x44 tag .ok [])
    ∧ (∀ s : State, s.powered = true → Settled s →
      (s.lsl.pulseUntil = none → exec .alarmPulseExpiry s = .next s)
      ∧ (s.lsl.pulseUntil ≠ none → s.cfg.alarm.mode = .pulse →
          exec .alarmPulseExpiry s = .next { s with lsl := { s.lsl with pulseUntil := none, alarmLine := false } }))

/-! ### The transfer queue -/

/-- STEP_ADD of the right length is refused with PHASE in SETUP, whatever its fields, and outside it with RANGE where a field is out of range or the fields do not fit the kind; that a gate with exactly one byte 255 is out of range, and one with both is absent, is the model's choice (log entry 14). With a body in range: a target outside the bounds of the target tank is refused with RANGE, a gate on a pour the plan does not hold with UNKNOWN, a locked tank with LOCKED, a stale one with STALE, a full queue with FULL, a full prediction queue with BUSY, the first that fails named, nothing changed. A step that passes all is reserved in the lowest-numbered empty slot, in CHECKING, under the next step number counting up from the last and wrapping from 255 to 1 that no held step carries, and its prediction joins the engine's queue; its reply waits (R88, R89, R90, R91). -/
def Obligations.StepReserved : Prop :=
  (∀ (s : State) (tag : Tag) (body : List Byte), s.serving → s.ccl.phase = .setup → body.length = 9 →
      ∃ t, exec (.stepAdd tag body) s = .next t ∧ Replied s t 0x51 tag .phase [])
  ∧ (∀ (s : State) (tag : Tag) (kind source dest target choice cls pour edge : Nat), s.serving → s.ccl.phase ≠ .setup →
      (∀ b ∈ [kind, source, dest, choice, cls, pour, edge], b ≤ 255) → target ≤ 65535 →
      let main := choice = 0 ∨ choice = 1 ∨ choice = 3
      let fits := kind = 0 ∧ source = 255 ∧ dest < 16 ∧ main ∨ kind = 1 ∧ source < 16 ∧ dest = 255 ∧ main
        ∨ kind = 2 ∧ source < 16 ∧ dest < 16 ∧ source ≠ dest ∧ main
        ∨ kind = 3 ∧ source < 16 ∧ dest = 255 ∧ (choice = 2 ∨ choice = 3)
      let gate := pour = 255 ∧ edge = 255 ∨ (1 ≤ pour ∧ pour ≤ 48) ∧ edge ≤ 1
      ¬(fits ∧ target ≤ 40000 ∧ cls ≤ 1 ∧ gate) →
      ∃ t, exec (.stepAdd tag (u8 kind ++ u8 source ++ u8 dest ++ u16 target ++ u8 choice ++ u8 cls ++ u8 pour
            ++ u8 edge)) s = .next t ∧ Replied s t 0x51 tag .range [])
  ∧ ∀ (s : State) (tag : Tag) (body : List Byte) (r : StepRequest), s.serving → s.ccl.phase ≠ .setup →
    body.length = 9 → parseStepAdd body = some r →
    let tanks := r.source.toList ++ r.dest.toList
    let outside := (if r.kind = .ballast then r.dest else r.source).any fun k =>
      decide (r.target < s.cfg.bounds[k].lower ∨ s.cfg.bounds[k].upper < r.target)
    let unknown := r.gate.any fun g => decide (s.ptr.plan.length < g.pour)
    let locked := tanks.any fun k => s.tanks[k].lock != .unlocked
    let stale := tanks.any fun k => s.tanks[k].stale
    let full := decide (∀ k : SlotNo, s.tsq.slots[k] ≠ none)
    let busy := decide (4 ≤ s.cen.queue.length)
    let status := if outside then some Status.range else if unknown then some .unknown else if locked then some .locked
      else if stale then some .stale else if full then some .full else if busy then some .busy else none
    (∀ st, status = some st → ∃ t, exec (.stepAdd tag body) s = .next t ∧ Replied s t 0x51 tag st [])
    ∧ (status = none → ∃ t reply k x, exec (.stepAdd tag body) s = .next t ∧ Deferred s t reply 0x51 tag
      ∧ { t with lnk := s.lnk, tsq := s.tsq, cen := s.cen } = s
      ∧ s.tsq.slots[k] = none ∧ (∀ j : SlotNo, j < k → s.tsq.slots[j] ≠ none)
      ∧ t.tsq.slots = s.tsq.slots.set k (some x) ∧ t.tsq.order = s.tsq.order
      ∧ t.tsq.checking = s.tsq.checking ++ [k] ∧ t.tsq.lastNumber = x.number
      ∧ x.state = .checking ∧ x.kind = r.kind ∧ x.source = r.source ∧ x.dest = r.dest ∧ x.target = r.target
      ∧ x.choice = r.choice ∧ x.cls = r.cls ∧ x.gate = r.gate ∧ x.grantedPump = none ∧ x.outcome = none
      ∧ (QueueSafe s → s.tsq.inUse x.number = false
          ∧ ∃ i < 255, x.number = (s.tsq.lastNumber + i) % 255 + 1
            ∧ ∀ j < i, s.tsq.inUse ((s.tsq.lastNumber + j) % 255 + 1) = true)
      ∧ let q : PredictionRequest := ⟨.step x.number, reply, true, []⟩
        (s.cen.inFlight.isSome → t.cen = { s.cen with queue := s.cen.queue ++ [q] })
        ∧ (s.cen.inFlight = none → s.cen.pendingCurrent = false → s.cen.queue = [] →
            ∃ snap, t.cen = { s.cen with inFlight := some (.prediction q snap) }))

/-- A step in CHECKING is decided when its prediction completes: a requested cancel, a lock, a stale tank, a target outside the bounds or a STOP band, the first that holds, refuses it, and it leaves its slot; otherwise it is admitted at the tail of the queue, QUEUED behind a gate whose edge has not been taken, else WAITING and, where a pump can be granted at once, in LINEUP (R92 to R94, R116). -/
def Obligations.StepDecided : Prop :=
  ∀ (s : State) (snap : Snapshot) (n : Nat) (reply : ReplyNo) (rtag : Tag) (kind : Byte) (k : SlotNo) (x : StepRec),
    s.powered = true → QueueSafe s → LineSafe s →
    s.cen.inFlight = some (.prediction ⟨.step n, reply, true, []⟩ snap) →
    s.tsq.slots[k] = some x → x.number = n → s.lnk.slots[reply] = .reserved kind rtag →
    let r := snap.compute true snap.baseSequence (snap.masses [])
    let why := if x.cancelRequested then some Reason.cancelled
      else if x.tanks.any fun j => s.tanks[j].lock != .unlocked then some .locked
      else if x.tanks.any fun j => s.tanks[j].stale then some .stale
      else if x.targetTank.any fun j => decide (x.target < s.cfg.bounds[j].lower ∨ s.cfg.bounds[j].upper < x.target)
        then some .range
      else if r.bands.toList.contains .stop then some .limit else none
    ∃ t, exec .predictionComplete s = .next t
      ∧ (∀ y, why = some y → t.tsq.slots[k] = none ∧ t.tsq.checking = s.tsq.checking.filter (· != k)
          ∧ t.tsq.order = s.tsq.order
          ∧ t.rcu = (s.log .stepRefused [n, x.kind.code, y.code]).rcu
          ∧ t.lnk.slots = s.lnk.slots.set reply (.filled kind rtag y.status
              (u8 n ++ u8 y.code ++ if y = .limit then encodeBands r.bands else [])))
      ∧ (why = none → t.tsq.checking = s.tsq.checking.filter (· != k) ∧ t.tsq.order = s.tsq.order ++ [k] ∧ t.rcu = s.rcu
          ∧ let queued := x.gate.any fun g => !s.ptr.edgeTaken g
            t.tsq.slots[k].any (fun y => y.number == n && y.timeAdmitted == some s.ccl.callTime
              && if queued then y.state == .queued else y.state == .waiting || y.state == .lineup) = true
            ∧ t.lnk.slots = s.lnk.slots.set reply (.filled kind rtag .ok
                (u8 n ++ u8 (if queued then 1 else 2) ++ u8 r.overall.code)))
      ∧ Touches [.tsq, .lnk, .pva, .rcu, .cen] s t

/-- STEP_CANCEL: a number no held step carries is refused with UNKNOWN and a step in WIND_DOWN with STATE, nothing changed; a step in CHECKING has its cancel requested; one in QUEUED or WAITING is removed with disposition CANCELLED and its end record written; one in LINEUP, RAMP or RUN enters WIND_DOWN with outcome CANCELLED, or is removed when its lineup is closed at once (R102, R103). -/
def Obligations.StepCancelled : Prop :=
  ∀ (s : State) (tag : Tag) (n : Nat), s.serving → QueueSafe s → LineSafe s → within 1 255 n = true →
    ((∀ k : SlotNo, s.tsq.holds k (·.number == n) = false) →
      ∃ t, exec (.stepCancel tag (u8 n)) s = .next t ∧ Replied s t 0x52 tag .unknown [])
    ∧ ∀ (k : SlotNo) (x : StepRec), s.tsq.slots[k] = some x → x.number = n →
      ∃ t, exec (.stepCancel tag (u8 n)) s = .next t
        ∧ (x.state = .windDown → Replied s t 0x52 tag .state [])
        ∧ (x.state = .checking → { t with lnk := s.lnk } = s.setStep k { x with cancelRequested := true } ∧ Quiet s t
            ∧ Answered s t 0x52 tag .ok [])
        ∧ (x.state = .queued ∨ x.state = .waiting → t.tsq.slots[k] = none ∧ t.tsq.order = s.tsq.order.filter (· != k)
            ∧ t.rcu = (s.stepEnd x .cancelled .cancelled).rcu ∧ Answered s t 0x52 tag .ok [])
        ∧ (x.state.running = true →
            (t.tsq.slots[k] = none ∨ t.tsq.slots[k] = some { x with state := .windDown, outcome := some .cancelled })
            ∧ Answered s t 0x52 tag .ok [])
        ∧ Touches [.tsq, .rcu, .lnk, .pva] s t

/-! ### Pumps, valves and the ballast main -/

/-- STEP_PIN of 0 clears the pin, of a WAITING step's number pins it, and replies OK; of a number no held step carries it is refused with UNKNOWN, of a step in another state with STATE, nothing changed. With no grant open, the pin is all that changes. Where the pinned step can use a pump, the first such pump is granted to it: the step is in LINEUP on that pump with its litres at 0, and the pin is absent again (R96, R116, R118). -/
def Obligations.PinTaken : Prop :=
  ∀ (s : State) (tag : Tag) (n : Nat), s.serving → QueueSafe s → n ≤ 255 →
    ∃ t, exec (.stepPin tag (u8 n)) s = .next t
      ∧ let pinned (x : Option Nat) : State := { s with pva := { s.pva with pin := x } }
        (n = 0 → Touches [.pva, .tsq, .lnk] s t ∧ Answered s t 0x61 tag .ok []
          ∧ ((∀ p : PumpNo, (pinned none).winner p = none) → { t with lnk := s.lnk } = pinned none))
        ∧ (n ≠ 0 → (∀ k : SlotNo, s.tsq.holds k (·.number == n) = false) →
            Replied s t 0x61 tag .unknown [])
        ∧ ∀ (k : SlotNo) (x : StepRec), n ≠ 0 → s.tsq.slots[k] = some x → x.number = n →
            (x.state ≠ .waiting → Replied s t 0x61 tag .state [])
            ∧ (x.state = .waiting → Touches [.pva, .tsq, .lnk] s t ∧ Answered s t 0x61 tag .ok []
                ∧ ((∀ p : PumpNo, (pinned (some n)).winner p = none) → { t with lnk := s.lnk } = pinned (some n))
                ∧ ∀ p : PumpNo, LineSafe s → (pinned (some n)).winner p = some k →
                    (∀ q : PumpNo, q < p → (pinned (some n)).winner q = none) →
                    t.pva.pin = none
                      ∧ t.tsq.slots[k] = some { x with state := .lineup, grantedPump := some p, litres := 0 }
                      ∧ t.pva.pumps[p].state = .busy ∧ t.pva.pumps[p].granted = some n)

/-- A grant goes to a candidate that can use the pump: a pump FREE with no run watch and no active step, a kind and choice that fit it, a main line that admits the move, no tank of another active step, every lineup valve commanded CLOSED, at rest and not FAULTED, no stale tank withheld, and the emergency stop input inactive. While a step is pinned no other is granted. Without a pin, after an URGENT grant on the pump, the NORMAL candidate of lowest waiting mark among those that waited at that grant wins, the first in queue order among equal marks; where there is none such, the first URGENT candidate in queue order, else the first NORMAL one. A grant makes the pump BUSY for the step with the next grant serial as its fairness memory, sets the main line to the step's mode, opens every lineup valve with its OPENING watch at the travel time, and puts the step in LINEUP on that pump with its litres at 0; no other pump, valve or step changes. At the counter's greatest value the serial is 1, every other fairness memory becomes absent, and the waiting marks of the other candidates become 0 (R96, R113 to R119). -/
def Obligations.GrantsAreFit : Prop :=
  (∀ (s : State) (p : PumpNo) (k : SlotNo), s.winner p = some k →
      ∃ x c, s.tsq.slots[k] = some x ∧ k ∈ s.tsq.order ∧ c ∈ s.pva.candidates ∧ c.step = x.number ∧ c.withheld = false
        ∧ s.pva.pumps[p].state = .free ∧ s.pva.pumps[p].watch = .absent
        ∧ (∀ a ∈ s.tsq.active, a.2.grantedPump ≠ some p ∧ ∀ j, x.names j = true → a.2.names j = false)
        ∧ (x.kind = .strip ↔ p = 2) ∧ (x.choice = none ∨ x.choice = some p)
        ∧ (∀ m, x.kind.mode = some m → s.pva.mode = .idle ∨ s.pva.mode = m ∧ m ≠ .shift)
        ∧ (∀ v ∈ x.lineup p, s.pva.valves[v].open_ = false ∧ s.pva.valves[v].watch = .absent ∧ s.pva.valves[v].faulted = false)
        ∧ s.pins.emergency = false ∧ (∀ n, s.pva.pin = some n → x.number = n)
        ∧ (s.pva.pin = none → s.pva.pumps[p].fairness = none → x.cls = .normal →
            ∀ e ∈ s.candidateList, e.2.1.cls = .urgent → s.canUse p e.2.1 e.2.2 = false))
    ∧ (∀ (s : State) (p : PumpNo) (l l' : List (SlotNo × StepRec × Candidate)) (w : SlotNo × StepRec × Candidate),
      s.pva.pin = none → s.candidateList = l ++ w :: l' → s.canUse p w.2.1 w.2.2 = true →
      let claims (e : SlotNo × StepRec × Candidate) : Prop := s.canUse p e.2.1 e.2.2 = true ∧ e.2.1.cls = .normal
        ∧ ∃ serial, s.pva.pumps[p].fairness = some (.urgent, serial) ∧ e.2.2.mark < serial
      (claims w → (∀ e ∈ l, claims e → w.2.2.mark < e.2.2.mark) → (∀ e ∈ l', claims e → w.2.2.mark ≤ e.2.2.mark) →
          s.winner p = some w.1)
        ∧ ((∀ e ∈ s.candidateList, ¬claims e) →
            (w.2.1.cls = .urgent → (∀ e ∈ l, s.canUse p e.2.1 e.2.2 = true → e.2.1.cls = .normal) →
              s.winner p = some w.1)
            ∧ (w.2.1.cls = .normal → (∀ e ∈ s.candidateList, s.canUse p e.2.1 e.2.2 = true → e.2.1.cls = .normal) →
                (∀ e ∈ l, s.canUse p e.2.1 e.2.2 = false) → s.winner p = some w.1)))
    ∧ (∀ (s : State) (p : PumpNo) (k : SlotNo) (x : StepRec), s.tsq.slots[k] = some x → s.pva.grants = Config.maxU32 →
      let t := s.grant p k
      t.pva.grants = 1
        ∧ t.pva.pumps[p] = { s.pva.pumps[p] with
            state := .busy, granted := some x.number, fairness := some (x.cls, 1) }
        ∧ (∀ q : PumpNo, q ≠ p → t.pva.pumps[q] = { s.pva.pumps[q] with fairness := none })
        ∧ ∀ c ∈ s.pva.candidates, c.step ≠ x.number → ∃ c' ∈ t.pva.candidates, c'.step = c.step ∧ c'.mark = 0)
    ∧ (∀ (s : State) (p : PumpNo) (k : SlotNo) (x : StepRec), s.tsq.slots[k] = some x → x.shaped = true →
      s.pva.grants < Config.maxU32 →
      let t := s.grant p k
      t.tsq = { s.tsq with slots := (s.tsq.slots.set k
          (some { x with state := .lineup, grantedPump := some p, litres := 0 })) }
        ∧ t.pva.pumps = s.pva.pumps.set p { s.pva.pumps[p] with
            state := .busy, granted := some x.number, fairness := some (x.cls, s.pva.grants + 1) }
        ∧ t.pva.grants = s.pva.grants + 1
        ∧ (s.pva.mode = .idle → ∀ m, x.kind.mode = some m → t.pva.mode = m)
        ∧ (s.pva.mode ≠ .idle ∨ x.kind = .strip → t.pva.mode = s.pva.mode)
        ∧ (∀ v : ValveNo, t.pva.valves[v] =
            if v ∈ x.lineup p then { s.pva.valves[v] with
              open_ := true, watch := .opening (s.now + 1000 * s.cfg.valves[v].travel) } else s.pva.valves[v])
        ∧ Touches [.tsq, .pva, .lnk] s t)

/-- FAULT_CLEAR clears a pump fault while its run-feedback does not show RUNNING (to TRIPPED while the emergency stop input is active, else FREE), a METER flag, and a valve fault once the valve is at rest and its proof agrees with its command, each withdrawing its fault from LSL; a METER flag's clearing starts the no-flow timer of a step in RUN afresh and leaves any other as it stands. A trip, while the input is inactive and a pump is TRIPPED, makes every TRIPPED pump FREE, or BUSY at a grant that follows, and no other changes but by a grant; with no grant open that is all that changes. Every other is refused with STATE, nothing changed (R116, R126, R132). -/
def Obligations.FaultsCleared : Prop :=
  ∀ (s : State) (tag : Tag), s.serving →
    (∀ p : PumpNo, ∃ t, exec (.faultClear tag (u8 0 ++ u8 p.val)) s = .next t
      ∧ if s.pva.pumps[p].state = .faulted ∧ s.pva.pumps[p].proof ≠ .running then
          t.lsl.faults.pump[p] = false ∧ Touches [.pva, .tsq, .lsl, .lnk] s t ∧ Answered s t 0x62 tag .ok []
          ∧ (s.pins.emergency = true → t.pva.pumps[p].state = .tripped)
          ∧ (t.pva.pumps[p].state = .busy ∨ t.pva.pumps[p].state = if s.pins.emergency then .tripped else .free)
        else Replied s t 0x62 tag .state [])
    ∧ (∀ p : PumpNo, ∃ t, exec (.faultClear tag (u8 1 ++ u8 p.val)) s = .next t
      ∧ if s.pva.pumps[p].meter then
          t.pva.pumps[p].meter = false ∧ t.lsl.faults.meter[p] = false
          ∧ t.pva.pumps[p].noFlowUntil =
              (if (s.tsq.stepOn p).any fun kx => kx.2.state == .run then
                some (s.now + 1000 * s.cfg.pumps[p].noFlowTime) else s.pva.pumps[p].noFlowUntil)
          ∧ Touches [.pva, .tsq, .lsl, .lnk] s t
          ∧ Answered s t 0x62 tag .ok []
        else Replied s t 0x62 tag .state [])
    ∧ (∀ v : ValveNo, ∃ t, exec (.faultClear tag (u8 2 ++ u8 v.val)) s = .next t
      ∧ let y := s.pva.valves[v]
        if y.faulted = true ∧ y.watch = .absent ∧ y.proved = (if y.open_ then .opened else .closed) then
          t.pva.valves[v].faulted = false ∧ t.lsl.faults.valve[v] = false ∧ Touches [.pva, .tsq, .lsl, .lnk] s t
          ∧ Answered s t 0x62 tag .ok []
        else Replied s t 0x62 tag .state [])
    ∧ ∃ t, exec (.faultClear tag (u8 3 ++ u8 0)) s = .next t
      ∧ if s.pins.emergency = false ∧ ∃ p : PumpNo, s.pva.pumps[p].state = .tripped then
          let freed : State := { s with pva := { s.pva with pumps := Vector.ofFn fun p : Fin 3 =>
            if s.pva.pumps[p].state = .tripped then { s.pva.pumps[p] with state := .free } else s.pva.pumps[p] } }
          (∀ p : PumpNo, t.pva.pumps[p].state = freed.pva.pumps[p].state
              ∨ freed.pva.pumps[p].state = .free ∧ t.pva.pumps[p].state = .busy ∧ t.pva.pumps[p].granted ≠ none)
          ∧ ((∀ p : PumpNo, freed.winner p = none) → { t with lnk := s.lnk } = freed)
          ∧ Touches [.pva, .tsq, .lnk] s t ∧ Answered s t 0x62 tag .ok []
        else Replied s t 0x62 tag .state []

/-- The activation of the emergency stop input stops every pump at once, gear 0 and run command OFF, and makes every pump that is not FAULTED TRIPPED with no granted step; every step in LINEUP, RAMP or RUN leaves it for WIND_DOWN or is removed; no lineup valve of an active step stays commanded OPEN; LSL is told, the trip counted, and an EMERGENCY_ON entry written last (behind LSL's and PMU's: the model's choice, log entry 23) with the pumps that became TRIPPED (those FREE or BUSY: the model's reading, log entry 12) and the steps sent to WIND_DOWN. The release ends the EMERGENCY cause, and an EMERGENCY_OFF entry is written last (log entry 23 again); tripped pumps stay TRIPPED and the plant is untouched (R74, R107, R130, R131, R180; the entries while the log is not near its last number, R174). An input that already stands so changes nothing: the model's choice (log entry 18). Without power the input alone changes: its reading (log entry 16). -/
def Obligations.EmergencyInput : Prop :=
  (∀ s : State, QueueSafe s →
      (s.pins.emergency = true → exec .emergencyStopActivation s = .next s)
      ∧ (s.pins.emergency = false → s.powered = false →
          exec .emergencyStopActivation s = .next { s with pins := { s.pins with emergency := true } })
      ∧ (s.pins.emergency = false → s.powered = true → ∃ t, exec .emergencyStopActivation s = .next t
        ∧ t.pins = { s.pins with emergency := true }
        ∧ (∀ p : PumpNo, t.pva.pumps[p].run = false ∧ t.pva.pumps[p].gear = .g0 ∧ t.pva.pumps[p].gearUntil = none
            ∧ if s.pva.pumps[p].state = .faulted then t.pva.pumps[p].state = .faulted
              else t.pva.pumps[p].state = .tripped ∧ t.pva.pumps[p].granted = none)
        ∧ (∀ a ∈ t.tsq.active, a.2.state = .windDown)
        ∧ (∀ a ∈ s.tsq.active, ∀ v ∈ a.2.valves, t.pva.valves[v].open_ = false)
        ∧ t.lsl.emergencyInput = true ∧ t.lsl.causes.emergency = s.cfg.stop.emergencyEnabled
        ∧ t.rcu.counts.emergencyTrips = min 65535 (s.rcu.counts.emergencyTrips + 1)
        ∧ (∀ n, s.rcu.nextSequence = some n → n + 64 ≤ Config.maxU32 →
            (t.rcu.log.getLast?.map fun e => (e.kind, e.params)) = some (.emergencyOn,
              #v[((List.finRange 3).filter fun p =>
                    s.pva.pumps[p].state == .free || s.pva.pumps[p].state == .busy).length,
                (s.tsq.active.filter fun a => a.2.state.running).length, 0, 0]))
        ∧ Touches [.pins, .pva, .tsq, .lsl, .rcu, .lnk, .pmu] s t))
    ∧ (∀ s : State,
      (s.pins.emergency = false → exec .emergencyStopRelease s = .next s)
      ∧ (s.pins.emergency = true → s.powered = false →
          exec .emergencyStopRelease s = .next { s with pins := { s.pins with emergency := false } })
      ∧ (s.pins.emergency = true → s.powered = true → ∃ t, exec .emergencyStopRelease s = .next t
        ∧ t.pins = { s.pins with emergency := false } ∧ t.lsl.emergencyInput = false ∧ t.lsl.causes.emergency = false
        ∧ (∀ n, s.rcu.nextSequence = some n → n + 64 ≤ Config.maxU32 →
            (t.rcu.log.getLast?.map fun e => (e.kind, e.params)) = some (.emergencyOff, #v[0, 0, 0, 0]))
        ∧ Touches [.pins, .lsl, .rcu, .lnk, .pmu] s t))

/-- A valve proved open in its OPENING watch takes the step of its lineup to RAMP, its pump's run command ON at gear 25, once every valve of the lineup has; else the step stays in LINEUP. An OPENING watch that expires fails the lineup, with cause OPEN: the valve is FAULTED, and the step is removed or in WIND_DOWN with outcome VALVE and its lineup commanded CLOSED. A CLOSING watch that expires, cause CLOSE: FAULTED with no watch, and a tank valve's tank LOCKED with reason VALVE. Where that leaves every lineup valve of a step in WIND_DOWN closed or failed to close, the step ends as FAULTED; where a valve proved closed in its CLOSING watch does, it ends by its outcome, fault mark and failed valves, and else it stays. A valve at rest and not FAULTED that loses its open proof is FAULTED with cause LOST: a step in LINEUP fails, one in RAMP or RUN runs on, one in WIND_DOWN takes the fault mark. One commanded CLOSED that proves open is FAULTED with cause UNCOMMANDED, and a tank valve's tank is LOCKED. Each of these faults is present at LSL and has its VALVE_FAULT entry; one new to LSL is one EQUIPMENT alarm event, its entry before VALVE_FAULT, and the number in an UNCOMMANDED entry is that of the step whose lineup holds the valve, or 0: the model's choices (log entries 23, 38) (R37, R81, R97, R102, R113, R119 to R123, R128, R129). A valve without an OPENING watch has no such expiry, and nothing changes: the model's choice (log entry 18). -/
def Obligations.ValvesJudged : Prop :=
  let shut (s : State) (x : StepRec) (v : ValveNo) : Bool :=
    x.valves.all fun w => w == v || (!s.pva.valves[w].open_ && s.pva.valves[w].watch == .absent)
  (∀ (s : State) (v : ValveNo), s.powered = true → QueueSafe s → PlantSafe s →
      ((∀ u, s.pva.valves[v].watch ≠ .opening u) → ∃ t, exec (.valveOpenTimeout v) s = .next t
        ∧ Touches [.pva, .tsq, .lnk] s t
        ∧ ((∀ p : PumpNo, s.winner p = none) → Settled s → t = s))
      ∧ ∀ (u : Nat) (k : SlotNo) (x : StepRec), s.pva.valves[v].watch = .opening u → s.tsq.holder v = some (k, x) →
        x.state = .lineup → ∃ t, exec (.valveOpenTimeout v) s = .next t
          ∧ t.pva.valves[v].faulted = true ∧ t.lsl.faults.valve[v] = true
          ∧ FaultTaken s t (.valve v) (.valveFault, #v[v.val, 0, x.number, 0])
          ∧ (t.tsq.slots[k] = none ∨ t.tsq.slots[k] = some { x with state := .windDown, outcome := some .valve }
              ∧ ∀ w ∈ x.valves, t.pva.valves[w].open_ = false)
          ∧ Touches [.pva, .tsq, .rcu, .lnk, .lsl] s t)
    ∧ (∀ (s : State) (v : ValveNo) (u : Nat), s.powered = true → s.pva.valves[v].watch = .closing u →
      s.pva.valves[v].open_ = false →
      ∃ t, exec (.valveCloseTimeout v) s = .next t
        ∧ t.pva.valves[v].faulted = true ∧ t.pva.valves[v].watch = .absent ∧ t.pva.valves[v].open_ = false
        ∧ t.lsl.faults.valve[v] = true
        ∧ FaultTaken s t (.valve v) (.valveFault, #v[v.val, 2, ((s.tsq.holder v).map fun a => a.2.number).getD 0, 0])
        ∧ (QueueSafe s → PlantSafe s → ∀ k x out, s.tsq.holder v = some (k, x) → x.state = .windDown →
            x.outcome = some out → if shut s x v then StepEnded s t k x out .faulted
              else t.tsq.slots[k] = some { x with closeFailed := x.closeFailed ++ [v] })
        ∧ (∀ k : TankNo, tankValve k = v → t.tanks[k] = { s.tanks[k] with lock := .valve })
        ∧ (∀ k : TankNo, tankValve k ≠ v → t.tanks[k] = s.tanks[k])
        ∧ Touches [.pva, .tsq, .rcu, .lnk, .lsl, .tanks, .cen] s t)
    ∧ (∀ (s : State) (ch : ChannelNo) (v : ValveNo) (debounce since : Nat) (notify : Bool) (was : Option Bool)
        (changed : Option Nat), s.powered = true → QueueSafe s → PlantSafe s →
      s.cfg.channels[ch] = .switch debounce notify → s.fcu.channels[ch] = .switch was since changed →
      was ≠ some s.pins.contacts[ch] → s.cfg.runPumps ch = [] → s.cfg.boundValves ch = [v] →
      let y := s.pva.valves[v]
      let masked := s.cfg.alarm.masked[AlarmGroup.equipment.ix]
      let alarmed : State :=
        if s.lsl.faults.valve[v] then s else s.log .alarm [3, 33, v.val, masked.toNat]
      ∃ t, exec (.switchDebounceExpiry ch) s = .next t
        ∧ (∀ u k x p, s.pins.contacts[ch] = true → y.watch = .opening u → y.open_ = true →
            s.tsq.holder v = some (k, x) → x.state = .lineup → x.grantedPump = some p →
            t.pva.valves[v].proved = .opened ∧ t.pva.valves[v].watch = .absent
            ∧ if ∀ w ∈ x.valves, w ≠ v → s.pva.valves[w].open_ = true ∧ s.pva.valves[w].watch = .absent then
                t.tsq.slots[k] = some { x with state := .ramp } ∧ t.pva.pumps[p].run = true ∧ t.pva.pumps[p].gear = .g25
                  ∧ t.pva.pumps[p].gearUntil = some (s.now + 1000 * s.cfg.pumps[p].gearInterval)
                  ∧ t.pva.pumps[p].watch = (if s.pva.pumps[p].proof = .running then .absent
                      else .starting (s.now + 1000 * s.cfg.pumps[p].startTime))
              else t.tsq.slots[k] = some x)
        ∧ (∀ k x, s.pins.contacts[ch] = false → y.watch = .absent → y.faulted = false → y.open_ = true →
            y.proved = .opened → s.tsq.holder v = some (k, x) →
            t.pva.valves[v].faulted = true ∧ t.pva.valves[v].proved = .closed ∧ t.lsl.faults.valve[v] = true
            ∧ FaultTaken s t (.valve v) (.valveFault, #v[v.val, 1, x.number, 0])
            ∧ (x.state = .lineup → t.tsq.slots[k] = none
                ∨ t.tsq.slots[k] = some { x with state := .windDown, outcome := some .valve })
            ∧ (x.state = .ramp ∨ x.state = .run → t.tsq.slots[k] = some x)
            ∧ (x.state = .windDown → t.tsq.slots[k] = some { x with faultMark := true })
            ∧ (x.state ≠ .lineup → t.rcu = (alarmed.log .valveFault [v.val, 1, x.number]).rcu))
        ∧ (∀ u k x out, s.pins.contacts[ch] = false → y.watch = .closing u → y.open_ = false →
            s.tsq.holder v = some (k, x) → x.state = .windDown → x.outcome = some out →
            if shut s x v then StepEnded s t k x out
              (if out = .pump ∨ out = .valve ∨ x.faultMark = true ∨ x.closeFailed ≠ [] then .faulted else .done)
            else t.tsq.slots[k] = some x ∧ t.pva.valves[v] = { y with proved := .closed, watch := .absent })
        ∧ (s.pins.contacts[ch] = true → y.watch = .absent → y.faulted = false → y.open_ = false → y.proved ≠ .opened →
            t.pva.valves[v].faulted = true ∧ t.pva.valves[v].proved = .opened ∧ t.lsl.faults.valve[v] = true
            ∧ FaultTaken s t (.valve v)
                (.valveFault, #v[v.val, 3, ((s.tsq.holder v).map fun a => a.2.number).getD 0, 0])
            ∧ (∀ k : TankNo, t.tanks[k] =
                if tankValve k = v then { s.tanks[k] with lock := .valve } else s.tanks[k])
            ∧ ((∀ k : TankNo, tankValve k ≠ v) → t.rcu = (alarmed.log .valveFault
                [v.val, 3, ((s.tsq.holder v).map fun a => a.2.number).getD 0]).rcu)))

/-- The gear timer of a pump moves its gear one step up in RAMP and one step down in WIND_DOWN, and starts again at the gear interval; at gear 100 in RAMP the timer ends and a pump proved running takes its step to RUN, which may at once wind down; and at gear 25 in WIND_DOWN the pump stops: gear 0, run command OFF (R123, R128). -/
def Obligations.GearTimers : Prop :=
  ∀ (s : State) (p : PumpNo) (k : SlotNo) (x : StepRec) (u : Nat), s.powered = true →
    s.pva.pumps[p].gearUntil = some u → s.tsq.stepOn p = some (k, x) →
    let again := some (s.now + 1000 * s.cfg.pumps[p].gearInterval)
    (x.state = .ramp → s.pva.pumps[p].gear ≠ .g100 → Settled s → exec (.rampGearExpiry p) s
        = .next (s.setPump p { s.pva.pumps[p] with gear := s.pva.pumps[p].gear.up, gearUntil := again }))
    ∧ (x.state = .ramp → s.pva.pumps[p].gear = .g100 → (∃ w, s.pva.pumps[p].watch = .starting w) → Settled s →
        exec (.rampGearExpiry p) s = .next (s.setPump p { s.pva.pumps[p] with gearUntil := none }))
    ∧ (x.state = .ramp → s.pva.pumps[p].gear = .g100 → s.pva.pumps[p].watch = .absent →
        ∃ t, exec (.rampGearExpiry p) s = .next t ∧ Touches [.pva, .tsq, .rcu, .lnk] s t
          ∧ t.tsq.slots[k].all (fun y => y.state == .run || y.state == .windDown) = true)
    ∧ (x.state = .windDown → s.pva.pumps[p].gear.down ≠ .g0 →
        ∃ t, exec (.windDownGearExpiry p) s = .next t ∧ Touches [.pva, .tsq, .lnk] s t
          ∧ t.pva.pumps[p].gear = s.pva.pumps[p].gear.down ∧ t.pva.pumps[p].gearUntil = again
          ∧ t.pva.pumps[p].run = s.pva.pumps[p].run)
    ∧ (x.state = .windDown → s.pva.pumps[p].gear.down = .g0 →
        ∃ t, exec (.windDownGearExpiry p) s = .next t ∧ Touches [.pva, .tsq, .rcu, .lnk] s t
          ∧ t.pva.pumps[p].gear = .g0 ∧ t.pva.pumps[p].run = false ∧ t.pva.pumps[p].gearUntil = none)

/-- A STARTING watch that expires is a pump fault (START), and so are a STOPPING watch that expires (STOP), a run-feedback lost while the pump is commanded ON at rest (LOST), and a pump commanded OFF without a watch that proves RUNNING while FREE, TRIPPED or BUSY for a step in WIND_DOWN (UNCOMMANDED): the pump is FAULTED, stopped, without watch or granted step, and its fault is present at LSL; new there, it makes the EQUIPMENT group's cause present, and the group unacknowledged unless masked, and is noticed with its source and item. Its PUMP_FAULT entry gives its cause and the number of the step it was BUSY for, or 0, behind the ALARM entry (the model's choice, log entry 23). That step is removed or in WIND_DOWN, with outcome PUMP where it was running, the fault mark set where it was winding down; the step of a pump that is no longer BUSY is not told. A pump proved RUNNING in its STARTING watch loses the watch. A no-flow timer that expires is removed, and the step in RUN on its pump enters WIND_DOWN with outcome NO_FLOW (R78, R81, R101, R124 to R126). A pump without the watch of a timeout, or without a no-flow timer, has no such expiry, and nothing changes: the model's choice (log entry 18). -/
def Obligations.PumpsJudged : Prop :=
  (∀ (s : State) (p : PumpNo), s.powered = true → QueueSafe s → PlantSafe s →
      let masked := s.cfg.alarm.masked[AlarmGroup.equipment.ix]
      let told (t : State) : Prop := ∀ k x, s.tsq.stepOn p = some (k, x) →
        (x.state.running = true → t.tsq.slots[k] = none
          ∨ t.tsq.slots[k] = some { x with state := .windDown, outcome := some .pump })
        ∧ (x.state = .windDown → t.tsq.slots[k] = none ∨ t.tsq.slots[k] = some { x with faultMark := true })
      let stopped (t : State) (cause : Nat) : Prop :=
        t.pva.pumps[p].state = .faulted ∧ t.pva.pumps[p].granted = none ∧ t.pva.pumps[p].run = false
          ∧ t.pva.pumps[p].gear = .g0 ∧ t.pva.pumps[p].gearUntil = none ∧ t.pva.pumps[p].watch = .absent
          ∧ FaultTaken s t (.pump p) (.pumpFault, #v[p.val, cause, s.pva.pumps[p].granted.getD 0, 0])
      (∀ u, s.pva.pumps[p].watch = .starting u →
        ∃ t, exec (.pumpStartTimeout p) s = .next t ∧ stopped t 0 ∧ (s.pva.pumps[p].state = .busy → told t)
          ∧ t.lsl.faults.pump[p] = true
          ∧ (∀ k x, s.tsq.stepOn p = some (k, x) → t.tsq.slots[k].all (·.state == .windDown) = true)
          ∧ Touches [.pva, .tsq, .rcu, .lnk, .lsl] s t)
      ∧ (∀ u, s.pva.pumps[p].watch = .stopping u →
        ∃ t, exec (.pumpStopTimeout p) s = .next t ∧ stopped t 2 ∧ (s.pva.pumps[p].state = .busy → told t)
          ∧ (s.pva.pumps[p].state ≠ .busy → ∀ k x, s.tsq.stepOn p = some (k, x) → t.tsq.slots[k] = some x)
          ∧ t.lsl.faults.pump[p] = true
          ∧ Touches [.pva, .tsq, .rcu, .lnk, .lsl] s t)
      ∧ ((∀ q : PumpNo, s.winner q = none) → Settled s →
          ((∀ u, s.pva.pumps[p].watch ≠ .starting u) → exec (.pumpStartTimeout p) s = .next s)
          ∧ ((∀ u, s.pva.pumps[p].watch ≠ .stopping u) → exec (.pumpStopTimeout p) s = .next s))
      ∧ (s.pva.pumps[p].noFlowUntil = none → Settled s → exec (.noFlowExpiry p) s = .next s)
      ∧ ∀ (ch : ChannelNo) (debounce since : Nat) (notify : Bool) (was : Option Bool) (changed : Option Nat),
        s.cfg.channels[ch] = .switch debounce notify → s.fcu.channels[ch] = .switch was since changed →
        was ≠ some s.pins.contacts[ch] → s.cfg.runPumps ch = [p] → s.cfg.boundValves ch = [] →
        s.pva.pumps[p].state ≠ .faulted →
        let y := s.pva.pumps[p]
        ∃ t, exec (.switchDebounceExpiry ch) s = .next t ∧ Touches [.fcu, .pva, .tsq, .rcu, .lnk, .lsl] s t
          ∧ (∀ u, s.pins.contacts[ch] = true → y.watch = .starting u →
              t.pva.pumps[p].watch = .absent ∧ t.pva.pumps[p].proof = .running ∧ t.lsl = s.lsl)
          ∧ (s.pins.contacts[ch] = false → y.watch = .absent → y.run = true → y.proof ≠ .stopped →
              stopped t 1 ∧ t.lsl.faults.pump[p] = true ∧ t.pva.pumps[p].proof = .stopped ∧ told t)
          ∧ (∀ k x, s.pins.contacts[ch] = true → y.watch = .absent → y.run = false → y.proof ≠ .running →
              y.state = .busy → s.tsq.stepOn p = some (k, x) → x.state = .windDown →
              stopped t 3 ∧ t.lsl.faults.pump[p] = true ∧ t.pva.pumps[p].proof = .running ∧ told t)
          ∧ (s.pins.contacts[ch] = true → y.watch = .absent → y.run = false → y.proof ≠ .running →
              y.state = .free ∨ y.state = .tripped →
              stopped t 3 ∧ t.lsl.faults.pump[p] = true ∧ t.pva.pumps[p].proof = .running
              ∧ t.rcu = ((if s.lsl.faults.pump[p] then s else s.log .alarm [3, 32, p.val, masked.toNat]).log
                  .pumpFault [p.val, 3, 0]).rcu))
    ∧ (∀ (s : State) (p : PumpNo) (u : Nat), s.powered = true → s.pva.pumps[p].noFlowUntil = some u →
      ∃ t, exec (.noFlowExpiry p) s = .next t ∧ t.pva.pumps[p].noFlowUntil = none
        ∧ (∀ k x, s.tsq.stepOn p = some (k, x) → x.state = .run →
            t.tsq.slots[k] = none ∨ t.tsq.slots[k] = some { x with state := .windDown, outcome := some .noFlow })
        ∧ Touches [.pva, .tsq, .rcu, .lnk] s t)

/-! ### Pours and loading pace -/

/-- PLAN_LOAD in READY, whose first pour number is 1 or follows the plan held, whose entries are in range and whose dues never fall, leaves the plan with those entries behind the ones kept, each PLANNED; its reply counts them; outside READY it is refused with PHASE. POUR_PROGRESS in LOADING on a pouring loader credits a figure at or above the one credited, the hold taking the difference, held at 9,999,999; a lower figure changes neither. A recompute is requested, which an idle engine begins at once on the hold masses as they then stand and a busy one keeps pending, and the reply gives the credited figure and the hold's mass. On an idle loader it is refused with STATE (R41, R44, R137, R139, R143). -/
def Obligations.PlanAndProgress : Prop :=
  (∀ (s : State) (tag : Tag) (first : Nat) (l : List (HoldNo × Nat × Nat)), s.serving → s.ccl.phase = .ready →
      first = 1 ∨ first = s.ptr.plan.length + 1 → 1 ≤ first → first ≤ 48 → l.length ≤ 24 → first + l.length ≤ 49 →
      (∀ e ∈ l, within 1 200000 e.2.1 = true ∧ e.2.2 ≤ 300000) →
      (((if first = 1 then [] else s.ptr.plan.map (·.due)) ++ l.map (·.2.2)).IsChain fun a b => a ≤ b) →
      ∃ t, exec (.planLoad tag (u8 first ++ u8 l.length ++ l.flatMap fun e => u8 e.1.val ++ u32 e.2.1 ++ u32 e.2.2)) s
            = .next t
        ∧ { t with lnk := s.lnk } = { s with ptr := { s.ptr with
            plan := (if first = 1 then [] else s.ptr.plan) ++ l.map fun e => ⟨e.1, e.2.1, e.2.2, .planned, none, none⟩ } }
        ∧ Quiet s t ∧ Answered s t 0x71 tag .ok
            (u8 ((if first = 1 then 0 else s.ptr.plan.length) + l.length)))
    ∧ (∀ (s : State) (tag : Tag) (body : List Byte), s.serving → s.ccl.phase ≠ .ready →
      requestLengthOk (.planLoad tag body) = true →
      ∃ t, exec (.planLoad tag body) s = .next t ∧ Replied s t 0x71 tag .phase [])
    ∧ (∀ (s : State) (tag : Tag) (l : Loader) (tonnes : Nat), s.serving → s.ccl.phase = .loading → tonnes ≤ 200000 →
      (s.ptr.loaders[l.ix] = none → ∃ t, exec (.pourProgress tag (u8 l.code ++ u32 tonnes)) s = .next t
        ∧ Replied s t 0x73 tag .state [])
      ∧ ∀ x, s.ptr.loaders[l.ix] = some x → ∃ t, exec (.pourProgress tag (u8 l.code ++ u32 tonnes)) s = .next t
        ∧ Quiet s t ∧ Touches [.ptr, .cen, .lnk] s t
        ∧ (s.cen.inFlight ≠ none → t.cen = { s.cen with pendingCurrent := true })
        ∧ (s.cen.inFlight = none → ∃ snap,
            t.cen = { s.cen with inFlight := some (.current snap), pendingCurrent := false }
              ∧ snap.moves = [] ∧ ∀ h : HoldNo, snap.holdMass[h] = t.ptr.holds[h].mass)
        ∧ (tonnes < x.credited → t.ptr = s.ptr
            ∧ Answered s t 0x73 tag .ok (u32 x.credited ++ u32 s.ptr.holds[x.hold].mass))
        ∧ (x.credited ≤ tonnes →
            let mass := min 9999999 (s.ptr.holds[x.hold].mass + tonnes - x.credited)
            t.ptr = { s.ptr with
              loaders := s.ptr.loaders.set l.ix (some { x with credited := tonnes })
              holds := s.ptr.holds.set x.hold { s.ptr.holds[x.hold] with mass := mass } }
            ∧ Answered s t 0x73 tag .ok (u32 tonnes ++ u32 mass)))

/-- POUR_BEGIN in LOADING on an idle loader, of the lowest-numbered PLANNED pour or of pour 0 with a hold named, gives the loader the pour with nothing credited and the permit at begin, and makes a planned entry POURING; without LOADER PERMIT it is a bad event for the permit unit, else that unit is untouched. Every QUEUED step whose gate names the BEGIN edge of a planned pour leaves QUEUED, to WAITING or with a pump granted at once to LINEUP, and every other QUEUED step stays. A pour the plan does not hold is refused with UNKNOWN; a loader that is pouring, or a planned pour out of order, with ORDER (R94 to R96, R140 to R142). -/
def Obligations.PourBegun : Prop :=
  ∀ (s : State) (tag : Tag) (l : Loader) (pour : Nat) (named : Byte), s.serving → s.ccl.phase = .loading → pour ≤ 48 →
    pour ≠ 0 ∨ named.toNat < 9 →
    let body := u8 l.code ++ u8 pour ++ [named]
    let refused (t : State) (st : Status) : Prop := Replied s t 0x72 tag st []
    (s.ptr.plan.length < pour → ∃ t, exec (.pourBegin tag body) s = .next t ∧ refused t .unknown)
    ∧ (pour ≤ s.ptr.plan.length → s.ptr.loaders[l.ix] ≠ none ∨ (pour ≠ 0 ∧ pour ≠ s.ptr.lowestPlanned) →
        ∃ t, exec (.pourBegin tag body) s = .next t ∧ refused t .order)
    ∧ (pour ≤ s.ptr.plan.length → s.ptr.loaders[l.ix] = none → pour = 0 ∨ pour = s.ptr.lowestPlanned →
        ∃ t hold, exec (.pourBegin tag body) s = .next t
          ∧ (pour = 0 → hold.val = named.toNat ∧ t.ptr.plan = s.ptr.plan)
          ∧ (∀ e, pour ≠ 0 → s.ptr.plan[pour - 1]? = some e → hold = e.hold
              ∧ t.ptr.plan = s.ptr.plan.set (pour - 1) { e with state := .pouring, begun := some (l, s.pmu.permit) })
          ∧ t.ptr.loaders = s.ptr.loaders.set l.ix
              (some ⟨pour, hold, 0, s.pmu.permit, s.ccl.shipTime, s.ccl.callTime⟩)
          ∧ t.ptr.holds = s.ptr.holds ∧ t.ptr.start = s.ptr.start
          ∧ (s.pmu.permit = true → t.pmu = s.pmu ∧ t.lsl = s.lsl)
          ∧ (s.pmu.permit = false → t.pmu.counter =
              if s.pmu.unit = .idle then s.pmu.counter else s.pmu.counter - s.cfg.permit.badStep)
          ∧ (QueueSafe s → EdgeReported s t (if pour = 0 then none else some ⟨pour, .beginEdge⟩))
          ∧ Touches [.ptr, .rcu, .pmu, .lsl, .lnk, .tsq, .pva, .cen] s t
          ∧ Answered s t 0x72 tag .ok (u8 l.code ++ u8 pour ++ u8 hold.val ++ flag s.pmu.permit))

/-- POUR_END in LOADING on a pouring loader leaves the loader idle, the hold with the final figure in place of the credited one, held between 0 and 9,999,999 and counted from the held figure (the model's reading, log entry 24), and its pours one more, held at 255; a planned entry is POURED with its pace check: the ballast out from the loading-start snapshot and the current record, 0 where either is missing, the lag the due less the ballast out or 0, GOOD within the pace allowance. On an idle loader it is refused with STATE; the result is a good or a bad event for the permit unit and sets pace lagging, PACE's cause present and, at a lag unless masked, its group unacknowledged, all within the POUR_END: the model's choice (log entry 4). Every QUEUED step whose gate names the END edge of a planned pour leaves QUEUED, to WAITING or with a pump granted at once to LINEUP, and every other QUEUED step stays (R80, R94 to R96, R139, R144, R145, R148, R149). -/
def Obligations.PourEnded : Prop :=
  ∀ (s : State) (tag : Tag) (l : Loader) (final : Nat), s.serving → s.ccl.phase = .loading → final ≤ 200000 →
    (s.ptr.loaders[l.ix] = none → ∃ t, exec (.pourEnd tag (u8 l.code ++ u32 final)) s = .next t
      ∧ Replied s t 0x74 tag .state [])
    ∧ ∀ x, s.ptr.loaders[l.ix] = some x → ∃ t, exec (.pourEnd tag (u8 l.code ++ u32 final)) s = .next t
      ∧ t.ptr.loaders = s.ptr.loaders.set l.ix none ∧ t.ptr.start = s.ptr.start
      ∧ t.ptr.holds = s.ptr.holds.set x.hold
          ⟨min 9999999 (s.ptr.holds[x.hold].mass + final - x.credited), min 255 (s.ptr.holds[x.hold].pours + 1)⟩
      ∧ (x.number = 0 → t.ptr.plan = s.ptr.plan ∧ t.pmu = s.pmu ∧ t.lsl = s.lsl
          ∧ Answered s t 0x74 tag .ok (u8 0 ++ u8 x.hold.val ++ u32 t.ptr.holds[x.hold].mass ++ u8 255))
      ∧ (∀ e, x.number ≠ 0 → s.ptr.plan[x.number - 1]? = some e →
          let out : Int := match s.ptr.start, s.cen.current with
            | .taken f _, some r => (f.ballast : Int) - r.ballast
            | _, _ => 0
          let lag : Int := (e.due : Int) - max out 0
          let good := decide (lag ≤ s.cfg.pace)
          t.ptr.plan = s.ptr.plan.set (x.number - 1) { e with state := .poured, result := some ⟨final, out, lag, good⟩ }
          ∧ t.lsl.paceLagging = !good
          ∧ t.lsl.groups[AlarmGroup.pace.ix].causePresent = (!good || t.lsl.counterLow)
          ∧ (good = false → s.cfg.alarm.masked[AlarmGroup.pace.ix] = false →
              t.lsl.groups[AlarmGroup.pace.ix].unacknowledged = true)
          ∧ t.pmu.counter = (if s.pmu.unit = .idle then s.pmu.counter
              else if good then min 15 (s.pmu.counter + s.cfg.permit.goodStep)
              else s.pmu.counter - s.cfg.permit.badStep)
          ∧ (good = false → t.pmu.flags[StatusFlag.paceLag.ix] = true)
          ∧ Answered s t 0x74 tag .ok (u8 x.number ++ u8 x.hold.val ++ u32 t.ptr.holds[x.hold].mass
              ++ u8 (if good then 0 else 1) ++ u32 e.due ++ i32 out ++ i32 lag))
      ∧ (QueueSafe s → EdgeReported s t (if x.number = 0 then none else some ⟨x.number, .endEdge⟩))
      ∧ Touches [.ptr, .rcu, .pmu, .lsl, .lnk, .tsq, .pva, .cen, .choices] s t

/-! ### The attendance check and LOADER PERMIT -/

/-- A usage below the caution threshold is CLEAR, at or above it and below the stop threshold CAUTION, at or above the stop threshold STOP; with thresholds in order a greater usage is never in a lower band. The hysteresis state is ON with the counter at Th or above, OFF with it below Tl, and keeps its state between. The expected answer to a seed is its inverse with the two bytes exchanged. The seed generator shifts one place up with the exclusive-or of bits 14 and 13 as the new bit 0, is undone by no two states alike, and never reaches 0 from a state other than 0 (R66, R156, R157, R167). -/
def Obligations.LineFigures : Prop :=
  (∀ (x : Thresholds) (u : Nat),
      (placeBand x u = .clear ↔ u < x.caution) ∧ (placeBand x u = .caution ↔ x.caution ≤ u ∧ u < x.stop)
      ∧ (x.caution ≤ x.stop → (placeBand x u = .stop ↔ x.stop ≤ u))
      ∧ ∀ w, x.caution ≤ x.stop → u ≤ w → (placeBand x u).above (placeBand x w) = false)
    ∧ (∀ (c : PermitConfig) (n : Nat) (held : Bool), c.legal →
      (c.upper ≤ n → hysteresisAfter c n held = true) ∧ (n < c.lower → hysteresisAfter c n held = false)
      ∧ (c.lower ≤ n → n < c.upper → hysteresisAfter c n held = held)
      ∧ hysteresisAfter c n (hysteresisAfter c n held) = hysteresisAfter c n held)
    ∧ (∀ seed : BitVec 16, expectedAnswer seed = (~~~seed).extractLsb' 0 8 ++ (~~~seed).extractLsb' 8 8)
    ∧ ((∀ x : BitVec 15, ∀ i < 15, (seedStep x).getLsbD i = if i = 0 then x.getLsbD 14 ^^ x.getLsbD 13 else x.getLsbD (i - 1))
      ∧ (∀ x y : BitVec 15, seedStep x = seedStep y → x = y) ∧ ∀ x : BitVec 15, x ≠ 0 → seedStep x ≠ 0)

/-- PERMIT_SET within the ranges of R154: in IDLE the configuration is replaced whole; while the check runs a change of any field but A_open and R_open is refused with IN_USE, a configuration as held changes nothing, and a change of either is taken with one bad event for the counter, the timing of the window restarted (R154, R155). -/
def Obligations.PermitSettingsTaken : Prop :=
  ∀ (s : State) (tag : Tag) (body : List Byte) (c : PermitConfig), s.serving → body.length = 14 →
    parsePermitSet body = some c →
    (s.pmu.unit = .idle → ∃ t, exec (.permitSet tag body) s = .next t ∧ t.cfg = { s.cfg with permit := c }
      ∧ t.pmu.unit = .idle ∧ t.pmu.counter = s.pmu.counter ∧ t.pmu.hysteresis = s.pmu.hysteresis
      ∧ t.pmu.lowReported = decide (s.pmu.counter < c.lower)
      ∧ t.pmu.zeroAsserted = (decide (s.pmu.counter = 0) && c.zeroStop)
      ∧ Touches [.cfg, .pmu, .lsl, .rcu, .lnk] s t ∧ Answered s t 0x81 tag .ok [])
    ∧ (s.pmu.unit ≠ .idle → { c with aOpen := s.cfg.permit.aOpen, rOpen := s.cfg.permit.rOpen } ≠ s.cfg.permit →
      ∃ t, exec (.permitSet tag body) s = .next t ∧ Replied s t 0x81 tag .inUse [])
    ∧ (s.pmu.unit ≠ .idle → c = s.cfg.permit →
      ∃ t, exec (.permitSet tag body) s = .next t ∧ Replied s t 0x81 tag .ok [])
    ∧ (s.pmu.unit ≠ .idle → { c with aOpen := s.cfg.permit.aOpen, rOpen := s.cfg.permit.rOpen } = s.cfg.permit →
      c ≠ s.cfg.permit →
      ∃ t, exec (.permitSet tag body) s = .next t ∧ t.cfg = { s.cfg with permit := c }
        ∧ t.pmu.counter = s.pmu.counter - c.badStep ∧ t.pmu.seed = s.pmu.seed
        ∧ (∀ since, s.pmu.unit = .awaitAnswer since → t.pmu.unit = .awaitAnswer s.now)
        ∧ (∀ since opened, s.pmu.unit = .awaitChallenge since opened →
            t.pmu.unit = .awaitChallenge s.now (decide (c.rOpen = 0)))
        ∧ Touches [.cfg, .pmu, .lsl, .rcu, .lnk] s t ∧ Answered s t 0x81 tag .ok [])

/-- CHALLENGE: in IDLE it starts the check, the counter at its initial value and the hysteresis state ON where that is at Th or above; in AWAIT_ANSWER it is an early challenge, a bad event; in AWAIT_CHALLENGE, with the challenge check on, it is judged against its window; in each state the answer timer starts from now, and the reply gives the seed. Each of these bad events is an attendance bad event: a PACE alarm event, and logged with its flag, the elapsed seconds and the counter after it (their entries first of the event's, ALARM before ATTENDANCE_BAD: the model's choice, log entry 23); a good one is not counted as one (R80, R158, R161, R163 to R165, R167). -/
def Obligations.ChallengeTaken : Prop :=
  ∀ (s : State) (tag : Tag), s.serving →
    ∃ t code, exec (.challenge tag []) s = .next t ∧ t.pmu.unit = .awaitAnswer s.now ∧ t.pmu.seed = s.pmu.seed
      ∧ Answered s t 0x82 tag .ok (u16 s.pmu.seed.toNat ++ u8 1 ++ u8 code ++ u8 t.pmu.counter)
      ∧ (s.pmu.unit = .idle → code = 255 ∧ t.pmu.counter = s.cfg.permit.initial
          ∧ t.pmu.hysteresis = decide (s.cfg.permit.upper ≤ s.cfg.permit.initial))
      ∧ (∀ since, s.pmu.unit = .awaitAnswer since → code = 1 ∧ t.pmu.counter = s.pmu.counter - s.cfg.permit.badStep
          ∧ t.pmu.flags[StatusFlag.earlyChallenge.ix] = true
          ∧ AttendanceTaken s t .earlyChallenge ((s.now - since) / 1000) false)
      ∧ (∀ since opened, s.pmu.unit = .awaitChallenge since opened →
          let e := (s.now - since) / 1000
          if s.cfg.permit.challengeCheck = false then code = 255 ∧ t.pmu.counter = s.pmu.counter
          else if e < s.cfg.permit.rOpen then
            code = 1 ∧ t.pmu.counter = s.pmu.counter - s.cfg.permit.badStep
              ∧ t.pmu.flags[StatusFlag.earlyChallenge.ix] = true ∧ AttendanceTaken s t .earlyChallenge e false
          else if e ≤ s.cfg.permit.rOpen + s.cfg.permit.rWidth then
            code = 0 ∧ t.pmu.counter = min 15 (s.pmu.counter + s.cfg.permit.goodStep)
              ∧ t.rcu.counts.attendanceBad = s.rcu.counts.attendanceBad
          else code = 2 ∧ t.pmu.counter = s.pmu.counter - s.cfg.permit.badStep
              ∧ t.pmu.flags[StatusFlag.lateChallenge.ix] = true ∧ AttendanceTaken s t .lateChallenge e false)
      ∧ (s.pmu.unit ≠ .idle → t.pmu.counter ≠ s.pmu.counter →
          t.pmu.hysteresis = hysteresisAfter s.cfg.permit t.pmu.counter s.pmu.hysteresis)
      ∧ Touches [.pmu, .lsl, .rcu, .lnk] s t

/-- ANSWER: in IDLE it is refused with STATE, nothing changed; in AWAIT_CHALLENGE it is refused with STATE as a late answer, a bad event, the timer running on; in AWAIT_ANSWER it is judged: EARLY before the window opens, LATE after it closes, within it GOOD when it equals the expected answer and WRONG otherwise; a GOOD answer raises the counter and advances the seed, any other lowers the counter and sets its flag; the challenge timer then starts from now. Each of these bad events is an attendance bad event: a PACE alarm event, and logged with its flag, the elapsed seconds and the counter after it (their entries first of the event's, ALARM before ATTENDANCE_BAD: the model's choice, log entry 23); a good one is not counted as one (R80, R156, R157, R159, R163 to R165, R167). -/
def Obligations.AnswerJudged : Prop :=
  ∀ (s : State) (tag : Tag) (value : BitVec 16), s.serving →
    ∃ t, exec (.answer tag (u16 value.toNat)) s = .next t ∧ Touches [.pmu, .lsl, .rcu, .lnk] s t
      ∧ (s.pmu.unit = .idle → Replied s t 0x83 tag .state [])
      ∧ (∀ since opened, s.pmu.unit = .awaitChallenge since opened → t.pmu.unit = s.pmu.unit ∧ t.pmu.seed = s.pmu.seed
          ∧ t.pmu.counter = s.pmu.counter - s.cfg.permit.badStep ∧ t.pmu.flags[StatusFlag.lateAnswer.ix] = true
          ∧ AttendanceTaken s t .lateAnswer ((s.now - since) / 1000) false ∧ Answered s t 0x83 tag .state [])
      ∧ ∀ since, s.pmu.unit = .awaitAnswer since →
          let c := s.cfg.permit
          let e := (s.now - since) / 1000
          let early := decide (e < c.aOpen)
          let late := decide (c.aOpen + c.aWidth < e)
          let good := !early && !late && value == expectedAnswer (s.pmu.seed.setWidth 16)
          t.pmu.unit = .awaitChallenge s.now (decide (c.rOpen = 0))
          ∧ t.pmu.counter = (if good then min 15 (s.pmu.counter + c.goodStep) else s.pmu.counter - c.badStep)
          ∧ t.pmu.hysteresis = hysteresisAfter c t.pmu.counter s.pmu.hysteresis
          ∧ t.pmu.seed = (if good then seedStep s.pmu.seed else s.pmu.seed)
          ∧ (early = true → t.pmu.flags[StatusFlag.earlyAnswer.ix] = true)
          ∧ (late = true → t.pmu.flags[StatusFlag.lateAnswer.ix] = true)
          ∧ (early = false → late = false → good = false → t.pmu.flags[StatusFlag.wrongAnswer.ix] = true)
          ∧ (if good then t.rcu.counts.attendanceBad = s.rcu.counts.attendanceBad
            else AttendanceTaken s t (if early then .earlyAnswer else if late then .lateAnswer else .wrongAnswer) e false)
          ∧ Answered s t 0x83 tag .ok
              (u8 (if good then 0 else if early then 1 else if late then 3 else 2) ++ u8 t.pmu.counter)

/-- The answer and the challenge timeouts: with the trip on, the check ends, the unit IDLE with counter 0, hysteresis OFF and one trip more, held at 15; with it off, a bad event whose flag is set, and the timer starts again from now. Either is an attendance bad event: a PACE alarm event, and logged with its flag, the timeout figure, the counter after it and whether the check tripped (their entries first of the event's, ALARM before ATTENDANCE_BAD: the model's choice, log entry 23). When the challenge timer reaches R_open, a CHALLENGE_DUE notice is made pending with the seconds to the close of the window and to the timeout, where the kind is enabled, once for each start of the timer; PERMIT_STATUS reports the permit unit and clears the nine status flags, and nothing else (R80, R160 to R162, R164, R165, R170). In a unit state without that timer, or with its R_open moment taken, there is no such event, and nothing changes: the model's choice (log entry 18). -/
def Obligations.AttendanceTimeouts : Prop :=
  (∀ s : State, s.powered = true →
      (∀ since, s.pmu.unit = .awaitAnswer since → ∃ t, exec .answerTimeout s = .next t
        ∧ Touches [.pmu, .lsl, .rcu, .lnk] s t ∧ t.pmu.flags[StatusFlag.timeoutAnswer.ix] = true ∧ t.pmu.seed = s.pmu.seed
        ∧ AttendanceTaken s t .timeoutAnswer
            (s.cfg.permit.aOpen + s.cfg.permit.aWidth + s.cfg.permit.aExtra) s.cfg.permit.timeoutTrip
        ∧ if s.cfg.permit.timeoutTrip then
            t.pmu.unit = .idle ∧ t.pmu.counter = 0 ∧ t.pmu.hysteresis = false ∧ t.pmu.trips = min 15 (s.pmu.trips + 1)
              ∧ t.pmu.flags[StatusFlag.counterZero.ix] = true
          else t.pmu.unit = .awaitAnswer s.now ∧ t.pmu.counter = s.pmu.counter - s.cfg.permit.badStep
              ∧ t.pmu.trips = s.pmu.trips)
      ∧ (∀ since opened, s.pmu.unit = .awaitChallenge since opened → ∃ t, exec .challengeTimeout s = .next t
        ∧ Touches [.pmu, .lsl, .rcu, .lnk] s t ∧ t.pmu.flags[StatusFlag.timeoutChallenge.ix] = true ∧ t.pmu.seed = s.pmu.seed
        ∧ AttendanceTaken s t .timeoutChallenge
            (s.cfg.permit.rOpen + s.cfg.permit.rWidth + s.cfg.permit.rExtra) s.cfg.permit.timeoutTrip
        ∧ if s.cfg.permit.timeoutTrip then
            t.pmu.unit = .idle ∧ t.pmu.counter = 0 ∧ t.pmu.hysteresis = false ∧ t.pmu.trips = min 15 (s.pmu.trips + 1)
              ∧ t.pmu.flags[StatusFlag.counterZero.ix] = true
          else t.pmu.unit = .awaitChallenge s.now (decide (s.cfg.permit.rOpen = 0))
              ∧ t.pmu.counter = s.pmu.counter - s.cfg.permit.badStep ∧ t.pmu.trips = s.pmu.trips)
      ∧ (Settled s → ((∀ since, s.pmu.unit ≠ .awaitAnswer since) → exec .answerTimeout s = .next s)
          ∧ ((∀ since opened, s.pmu.unit ≠ .awaitChallenge since opened) → exec .challengeTimeout s = .next s)))
    ∧ ((∀ (s : State) (since : Nat), s.powered = true → s.pmu.unit = .awaitChallenge since false → s.lnk.tx ≠ .idle →
        ∃ t, exec .challengeWindowOpens s = .next t
          ∧ { t with lnk := s.lnk } = { s with pmu := { s.pmu with unit := .awaitChallenge since true } }
          ∧ (s.lnk.enables 7 = false → t.lnk = s.lnk)
          ∧ (s.lnk.enables 7 = true → (t.lnk.notices[Notice.challengeDue.place]).map (·.content)
              = some (u8 s.cfg.permit.rWidth ++ u8 (s.cfg.permit.rWidth + s.cfg.permit.rExtra))))
      ∧ (∀ s : State, s.powered = true → Settled s → (∀ since, s.pmu.unit ≠ .awaitChallenge since false) →
        exec .challengeWindowOpens s = .next s)
      ∧ ∀ (s : State) (tag : Tag), s.serving →
        ∃ t, exec (.permitStatus tag []) s = .next t
          ∧ { t with lnk := s.lnk } = { s with pmu := { s.pmu with flags := Vector.replicate 9 false } }
          ∧ Quiet s t ∧ Answered s t 0x84 tag .ok s.permitBody)

/-! ### Records and reports -/

/-- REPORT_COMPOSE: a FINAL report outside FINAL, or an INTERIM one outside LOADING and FINAL, is refused with PHASE; while a composition or a STORE_WRITE of REPORT is in flight, with BUSY; without a current record, with STATE. A request that passes replies OK with the kind and the serial to come, and the composer takes its snapshot; nothing else changes. When the composition completes, the serial rises by 1, 65,535 followed by 1, the slot holds the report of the snapshot with the CRC-32 of its content behind it, the composer is IDLE, and REPORT_DONE is made pending where it is enabled (R183, R184, R187). Without a composition there is no such event, and nothing changes: the model's choice (log entry 18). -/
def Obligations.ReportComposed : Prop :=
  (∀ (s : State) (tag : Tag) (interim : Bool), s.serving →
    let late := if interim then s.ccl.phase = .loading ∨ s.ccl.phase = .final else s.ccl.phase = .final
    let busy := s.rcu.composing.isSome = true ∨ s.sst.writer = some .report
    let n := if s.rcu.serial < 65535 then s.rcu.serial + 1 else 1
    (¬late → ∃ t, exec (.reportCompose tag (flag interim)) s = .next t ∧ Replied s t 0x93 tag .phase [])
    ∧ (late → busy → ∃ t, exec (.reportCompose tag (flag interim)) s = .next t ∧ Replied s t 0x93 tag .busy [])
    ∧ (late → ¬busy → s.cen.current = none →
        ∃ t, exec (.reportCompose tag (flag interim)) s = .next t ∧ Replied s t 0x93 tag .state [])
    ∧ ∀ r, late → ¬busy → s.cen.current = some r →
        ∃ t c, exec (.reportCompose tag (flag interim)) s = .next t
          ∧ { t with lnk := s.lnk } = { s with rcu := { s.rcu with composing := some c } }
          ∧ c.interim = interim ∧ c.callNumber = s.ccl.callNumber ∧ c.portCode = s.ccl.portCode
          ∧ c.berthText = s.ccl.berthText ∧ c.shipTime = s.ccl.shipTime ∧ c.arrival = s.rcu.arrival
          ∧ c.totals = s.rcu.totals ∧ (∀ k : TankNo, c.volumes[k] = s.tanks[k].volume)
          ∧ (∀ h : HoldNo, c.holdMass[h] = s.ptr.holds[h].mass) ∧ c.planned = s.ptr.plan.length
          ∧ c.poured = (s.ptr.plan.filter fun e => e.state == .poured).length
          ∧ c.peaks = s.rcu.peaks ∧ c.counts = s.rcu.counts ∧ c.wrapped = s.rcu.wrapped ∧ c.record = r
          ∧ Quiet s t ∧ Answered s t 0x93 tag .ok (flag interim ++ u16 n))
  ∧ (∀ s : State, s.powered = true → s.rcu.composing = none → Settled s →
      exec .reportCompositionComplete s = .next s)
  ∧ ∀ (s : State) (c : ComposeSnapshot), s.powered = true → s.rcu.composing = some c →
      let n := if s.rcu.serial < 65535 then s.rcu.serial + 1 else 1
      let bytes := c.content n ++ u32 (crc32 (c.content n)).toNat
      ∃ t, exec .reportCompositionComplete s = .next t
        ∧ { t with lnk := s.lnk } = { s with rcu := { s.rcu with
            serial := n, composing := none, slot := some ⟨c.interim, n, c.callNumber, bytes⟩ } }
        ∧ (s.lnk.enables 10 = false → s.lnk.tx ≠ .idle → t.lnk = s.lnk)
        ∧ (s.lnk.enables 10 = true → s.lnk.tx ≠ .idle → (t.lnk.notices[Notice.reportDone.place]).map (·.content)
            = some (flag c.interim ++ u16 n ++ u16 c.callNumber ++ u16 bytes.length
                ++ u32 (crc32 (c.content n)).toNat))

/-! ### The link -/

/-- A complete frame that fails its judgement and a length byte above 240 leave the assembler in HUNT; after a gap or a framing error it has taken the bytes that follow, which complete no request, from HUNT on (the model's choice, log entry 8); nothing else changes. When a frame has been sent its slot, if it was a reply's, is FREE, and the transmitter begins the filled reply first in order, else the pending notice of the lowest kind code, among STEP_STATE notices the one first filled and then of the lowest slot, whose place it empties; with nothing waiting it is IDLE (R190, R193, R196). With no frame being sent there is no TX_FRAME_DONE, and nothing changes: the model's choice (log entry 18). -/
def Obligations.LinkEvents : Prop :=
  (∀ s : State, s.powered = true → Settled s →
    let hunting (r : Rx) : State := { s with lnk := { s.lnk with rx := r } }
    (∀ frame, frameComplete frame = true → frameAccepted frame = false →
      exec (.frameDiscarded frame) s = .next (hunting .hunt))
    ∧ (∀ n : Byte, 240 < n.toNat → exec (.lengthByteAbove240 n) s = .next (hunting .hunt))
    ∧ (∀ after, exec (.rxGapTimeout after) s = .next (hunting (after.foldl Rx.take .hunt))
        ∧ exec (.rxFramingError after) s = .next (hunting (after.foldl Rx.take .hunt)))
    ∧ (s.lnk.tx = .idle → exec .txFrameDone s = .next s))
  ∧ ∀ s : State, s.powered = true → s.lnk.tx ≠ .idle →
    ∃ t, exec .txFrameDone s = .next t ∧ { t with lnk := s.lnk } = s
      ∧ (∀ r f, s.lnk.tx = .reply r f → t.lnk.slots = s.lnk.slots.set r .free)
      ∧ (∀ f, s.lnk.tx = .notice f → t.lnk.slots = s.lnk.slots)
      ∧ (∀ q l kind tag st body, s.lnk.filled = q :: l → s.lnk.tx.slot ≠ some q →
          s.lnk.slots[q] = .filled kind tag st body →
          t.lnk.tx = .reply q ⟨2, kind, tag, u8 st.code ++ body⟩ ∧ t.lnk.filled = l ∧ t.lnk.notices = s.lnk.notices)
      ∧ (s.lnk.filled = [] → (∀ p : PlaceNo, s.lnk.notices[p] = none) → t.lnk.tx = .idle ∧ t.lnk.filled = [])
      ∧ (s.lnk.filled = [] → ∀ (p : PlaceNo) (x : PendingNotice), s.lnk.notices[p] = some x →
          (∀ (q : PlaceNo) (y : PendingNotice), s.lnk.notices[q] = some y → placeCode p < placeCode q
            ∨ placeCode p = placeCode q ∧ (x.since < y.since ∨ x.since = y.since ∧ p ≤ q)) →
          t.lnk.tx = .notice ⟨3, BitVec.ofNat 8 (placeCode p), 0, x.content⟩
            ∧ t.lnk.notices = s.lnk.notices.set p none)

/-- CLOCK_SET replaces the ship time in every phase, and a ship time of 0 is refused with RANGE. CALL_SET in SETUP and READY replaces the call number, port code and berth text, and in LOADING and FINAL is refused with PHASE. NOTICE_SELECT replaces the selection, withdraws the pending notices it disables, and replies with the mask. A second advances a ship time that is set, and outside SETUP the call time, each held at 4,294,967,295, and the model's own secondAt, when the next second is due, becomes 1,000 ms from now: the model's choice (log entry 2). No other field changes, but what each reply changes at the link (R195, R198, R199, R206). -/
def Obligations.ClockAndCall : Prop :=
  (∀ (s : State) (tag : Tag), s.serving →
    (∀ n : Nat, 1 ≤ n → n ≤ Config.maxU32 → ∃ t, exec (.clockSet tag (u32 n)) s = .next t
      ∧ { t with lnk := s.lnk } = { s with ccl := { s.ccl with shipTime := n } }
      ∧ Quiet s t ∧ Answered s t 0xA2 tag .ok [])
    ∧ (∃ t, exec (.clockSet tag (u32 0)) s = .next t ∧ Replied s t 0xA2 tag .range [])
    ∧ (∀ (n : Nat) (port text : List Byte), 1 ≤ n → n ≤ 65535 → port.length = 5 → text.length ≤ 12 →
        (∀ c ∈ port, (0x41 ≤ c.toNat ∧ c.toNat ≤ 0x5A) ∨ (0x30 ≤ c.toNat ∧ c.toNat ≤ 0x39)) →
        (∀ c ∈ text, 0x20 ≤ c.toNat ∧ c.toNat ≤ 0x7E) →
        ∃ t, exec (.callSet tag (u16 n ++ port ++ u8 text.length ++ text)) s = .next t
          ∧ if s.ccl.phase = .setup ∨ s.ccl.phase = .ready then
              { t with lnk := s.lnk }
                  = { s with ccl := { s.ccl with callNumber := n, portCode := port, berthText := text } }
                ∧ Quiet s t ∧ Answered s t 0xA3 tag .ok []
            else Replied s t 0xA3 tag .phase [])
    ∧ ∀ mask : Nat, mask < 1024 → ∃ t, exec (.noticeSelect tag (u16 mask)) s = .next t
        ∧ { t with lnk := s.lnk } = s ∧ t.lnk.enabled = BitVec.ofNat 16 mask
        ∧ (∀ p : PlaceNo, t.lnk.notices[p] = if mask.testBit (placeCode p - 1) then s.lnk.notices[p] else none)
        ∧ Answered s t 0xA4 tag .ok (u16 mask))
  ∧ ∀ s : State, s.powered = true → Settled s →
      exec .clockSecondAdvance s = .next { s with ccl := { s.ccl with
        shipTime := if s.ccl.shipTime = 0 then 0 else min Config.maxU32 (s.ccl.shipTime + 1)
        callTime := if s.ccl.phase = .setup then s.ccl.callTime else min Config.maxU32 (s.ccl.callTime + 1)
        secondAt := s.now + 1000 } }

/-! ### Call phases, stored settings and start-up -/

/-- PHASE_SET: SETUP to READY only with tables that pass validation, else INVALID_TABLES with the item and index: every tank's figures are brought up to date, the call time is 0, and a recompute begins. READY to SETUP only with no admitted step, else IN_USE: the engine's work is abandoned and no step or deferred reply remains. READY to LOADING takes the loading-start snapshot and the arrival condition, from the current record or PENDING, and LOADER PERMIT is the hysteresis state while LOADER STOP is OFF. LOADING to FINAL only with no pour, else IN_USE; LOADER PERMIT is OFF. FINAL to SETUP only with no step held, else IN_USE: a new call begins with an empty plan and the log holding that move alone. Every other move is refused with PHASE. At the moves into SETUP the reply stands in the slot that was the lowest-numbered FREE one (the model's choice, log entry 37) (R17, R146, R169, R177, R207 to R211). -/
def Obligations.PhaseMoves : Prop :=
  ∀ (s : State) (tag : Tag), s.serving →
    let move (dest : Phase) : Instr := .phaseSet tag (u8 dest.code)
    let figures (k : TankNo) : TankRun :=
      let level := if s.cfg.tanks[k].metered then s.tanks[k].level else s.cfg.tanks[k].fixedLevel
      let volume := volumeAt s.cfg.soundings[k] level
      { s.tanks[k] with level := level, volume := volume, mass := roundNat (volume * s.cfg.tanks[k].density) 10000
                        overTable := overTableAt s.cfg.soundings[k] level }
    (∀ item index, s.ccl.phase = .setup → s.cfg.validate = some (item, index) →
      ∃ t, exec (move .ready) s = .next t ∧ Replied s t 0xB1 tag .invalidTables (u8 item ++ u8 index))
    ∧ (s.ccl.phase = .setup → s.cfg.validate = none → s.cen.inFlight = none →
      ∃ t snap, exec (move .ready) s = .next t ∧ t.ccl = { s.ccl with phase := .ready, callTime := 0 }
        ∧ (∀ k : TankNo, t.tanks[k] = figures k) ∧ t.pmu.permit = false
        ∧ t.cen = { s.cen with inFlight := some (.current snap), pendingCurrent := false }
        ∧ Touches [.ccl, .tanks, .lsl, .rcu, .lnk, .pmu, .cen] s t ∧ Answered s t 0xB1 tag .ok [0, 1])
    ∧ (s.ccl.phase = .ready → s.tsq.order ≠ [] →
      ∃ t, exec (move .setup) s = .next t ∧ Replied s t 0xB1 tag .inUse [])
    ∧ (s.ccl.phase = .ready → s.tsq.order = [] → QueueSafe s → LinkSafe s →
      ∃ t, exec (move .setup) s = .next t ∧ t.ccl = { s.ccl with phase := .setup }
        ∧ t.cen = { s.cen with inFlight := none, queue := [], pendingCurrent := false }
        ∧ (∀ k : SlotNo, t.tsq.slots[k] = none) ∧ (∀ r : ReplyNo, t.lnk.slots[r].isReserved = false)
        ∧ (∀ r, s.lnk.freeSlot = some r → t.lnk.slots[r] = .filled 0xB1 tag .ok [1, 0])
        ∧ Touches [.ccl, .cen, .tsq, .rcu, .lnk, .pmu] s t)
    ∧ (s.ccl.phase = .ready →
      ∃ t, exec (move .loading) s = .next t ∧ t.ccl = { s.ccl with phase := .loading }
        ∧ (∃ volumes : Vector Nat 16, (∀ k : TankNo, volumes[k] = s.tanks[k].volume)
            ∧ t.ptr = { s.ptr with start := match s.cen.current with
                | some r => .taken r.startFigures volumes
                | none => .pending volumes })
        ∧ t.rcu.arrival = (match s.cen.current with
            | some r => .taken s.ccl.shipTime r.reportFigures
            | none => .pending s.ccl.shipTime)
        ∧ (∀ k : TankNo, t.rcu.totals[k] = { s.rcu.totals[k] with start := s.tanks[k].volume })
        ∧ t.pmu.permit = (s.pmu.hysteresis && !s.lsl.line)
        ∧ Touches [.ccl, .ptr, .rcu, .lnk, .pmu, .cen] s t ∧ Answered s t 0xB1 tag .ok [1, 2])
    ∧ (s.ccl.phase = .loading → (s.ptr.loaders[0] ≠ none ∨ s.ptr.loaders[1] ≠ none) →
      ∃ t, exec (move .final) s = .next t ∧ Replied s t 0xB1 tag .inUse [])
    ∧ (s.ccl.phase = .loading → s.ptr.loaders[0] = none → s.ptr.loaders[1] = none →
      ∃ t, exec (move .final) s = .next t ∧ t.ccl = { s.ccl with phase := .final } ∧ t.pmu.permit = false
        ∧ Touches [.ccl, .rcu, .lnk, .pmu, .cen] s t ∧ Answered s t 0xB1 tag .ok [2, 3])
    ∧ (∀ k : SlotNo, s.ccl.phase = .final → s.tsq.slots[k] ≠ none →
      ∃ t, exec (move .setup) s = .next t ∧ Replied s t 0xB1 tag .inUse [])
    ∧ (s.ccl.phase = .final → (∀ k : SlotNo, s.tsq.slots[k] = none) → s.pmu.permit = false → QueueSafe s → LinkSafe s →
      ∃ t, exec (move .setup) s = .next t ∧ t.ccl = { s.ccl with phase := .setup, callTime := 0 }
        ∧ t.ptr.plan = [] ∧ (∀ h : HoldNo, t.ptr.holds[h] = ⟨0, 0⟩) ∧ t.ptr.start = .absent
        ∧ t.rcu.log = [⟨1, 0, .phase, #v[3, 0, 0, 0]⟩] ∧ t.rcu.arrival = .absent ∧ t.rcu.slot = none
        ∧ t.rcu.memoryBands = s.rcu.memoryBands ∧ t.cen.inFlight = none ∧ t.cen.current = s.cen.current
        ∧ t.tsq.lastNumber = 0 ∧ t.pva.grants = 0 ∧ t.lsl.paceLagging = false
        ∧ (∀ r : ReplyNo, t.lnk.slots[r].isReserved = false)
        ∧ (∀ r, s.lnk.freeSlot = some r → t.lnk.slots[r] = .filled 0xB1 tag .ok [3, 0])
        ∧ Touches [.ccl, .ptr, .rcu, .lnk, .cen, .tsq, .pva, .lsl, .pmu] s t)
    ∧ ∀ dest : Phase, (s.ccl.phase, dest) ∉
        [(.setup, .ready), (.ready, .setup), (.ready, .loading), (.loading, .final), (Phase.final, Phase.setup)] →
      ∃ t, exec (move dest) s = .next t ∧ Replied s t 0xB1 tag .phase []

/-- STORE_WRITE: while a write is in flight, BUSY; of REPORT without a report, STATE; else the item is WRITING its snapshot, and OK. When the write completes the item, where it reads back equal, is VALID with the snapshot, its format version, its length and the CRC-32 over the three (their layout the model's choice, log entry 7), else INVALID, the writer is IDLE, and a CONFIG write sets CONFIG_ABSENT accordingly; without a write there is no such event (the model's choice, log entry 18). A loss of power keeps the items that are VALID and makes the one being written INVALID; all else stands as it stood (its reading, log entry 16). Power-on, from any state (its choice, log entry 17), finds an item VALID exactly where its version is the known one, its length fits and its CRC agrees as read; with CONFIG VALID its tables are in force, else the empty ones with CONFIG_ABSENT; the phase is SETUP, every step, pour, condition record and reply is gone, and every pump stands still: TRIPPED with the emergency stop input active, when LOADER STOP is ON if the input is enabled, else FREE with LOADER STOP OFF (R2, R130, R212 to R214, R216). -/
def Obligations.StoreAndPower : Prop :=
  let length (bytes : List Byte) : BitVec 16 := BitVec.ofNat 16 bytes.length
  let crc (version : Byte) (l : BitVec 16) (bytes : List Byte) : BitVec 32 := crc32 (version :: (u16 l.toNat ++ bytes))
  (∀ (s : State) (tag : Tag), s.serving →
    (∀ item, s.sst.writer ≠ none → ∃ t, exec (.storeWrite tag (u8 (StoreItem.code item))) s = .next t
      ∧ Replied s t 0xB2 tag .busy [])
    ∧ (s.sst.writer = none → s.rcu.slot = none → ∃ t, exec (.storeWrite tag (u8 1)) s = .next t
      ∧ Replied s t 0xB2 tag .state [])
    ∧ (s.sst.writer = none → ∃ t, exec (.storeWrite tag (u8 0)) s = .next t
      ∧ { t with lnk := s.lnk } = { s with sst := { s.sst with writer := some .config, config := .writing s.cfg } }
      ∧ Quiet s t ∧ Answered s t 0xB2 tag .ok [])
    ∧ ∀ r, s.sst.writer = none → s.rcu.slot = some r → ∃ t, exec (.storeWrite tag (u8 1)) s = .next t
      ∧ { t with lnk := s.lnk } = { s with sst := { s.sst with writer := some .report, report := .writing r } }
      ∧ Quiet s t ∧ Answered s t 0xB2 tag .ok [])
  ∧ (∀ (s : State) (agrees : Bool), s.powered = true →
    (s.sst.writer = none → Settled s → exec (.storeWriteComplete agrees) s = .next s)
    ∧ (∀ c, s.sst.writer = some .config → s.sst.config = .writing c → ∃ t, exec (.storeWriteComplete agrees) s = .next t
        ∧ { t with lnk := s.lnk } = { s with
            sst := { s.sst with
              writer := none
              config := if agrees then .valid ⟨Config.configVersion, length (Config.configBytes c), c,
                  crc Config.configVersion (length (Config.configBytes c)) (Config.configBytes c)⟩ else .invalid }
            ccl := { s.ccl with configAbsent := !agrees } })
    ∧ ∀ r, s.sst.writer = some .report → s.sst.report = .writing r → ∃ t, exec (.storeWriteComplete agrees) s = .next t
        ∧ { t with lnk := s.lnk } = { s with
            sst := { s.sst with
              writer := none
              report := if agrees then .valid ⟨Config.reportVersion, length (r.bytes ++ u16 r.serial), r,
                  crc Config.reportVersion (length (r.bytes ++ u16 r.serial)) (r.bytes ++ u16 r.serial)⟩ else .invalid } })
  ∧ (∀ s : State, s.powered = true → ∃ t, exec .powerLoss s = .next t ∧ { t with sst := s.sst, powered := true } = s
      ∧ t.powered = false ∧ t.sst.writer = none
      ∧ (∀ c, t.sst.config = .valid c ↔ s.sst.config = .valid c) ∧ (∀ r, t.sst.report = .valid r ↔ s.sst.report = .valid r)
      ∧ (∀ c, t.sst.config ≠ .writing c) ∧ ∀ r, t.sst.report ≠ .writing r)
  ∧ ∀ (s : State) (e f : StoreErrors), ∃ t, exec (.powerOn e f) s = .next t
      ∧ t.powered = true ∧ t.pins = s.pins ∧ t.now = s.now ∧ t.pending = s.pending
      ∧ t.sst.writer = none
      ∧ (let absent : Prop := t.cfg = emptyTables ∧ t.sst.config = .invalid ∧ t.ccl.configAbsent = true
        ((∀ x, s.sst.config ≠ .valid x) → absent)
        ∧ ∀ x, s.sst.config = .valid x →
            let (v, l, c) := (x.version ^^^ e.version, x.length ^^^ e.length, x.crc ^^^ e.crc)
            let bytes := Config.configBytes x.content
            if v = Config.configVersion ∧ l = length bytes ∧ c = crc v l bytes then
              t.cfg = x.content ∧ t.sst.config = .valid ⟨v, l, x.content, c⟩ ∧ t.ccl.configAbsent = false
            else absent)
      ∧ ((∀ x, s.sst.report ≠ .valid x) → t.sst.report = .invalid)
      ∧ (∀ x, s.sst.report = .valid x →
            let (v, l, c) := (x.version ^^^ f.version, x.length ^^^ f.length, x.crc ^^^ f.crc)
            let bytes := x.content.bytes ++ u16 x.content.serial
            t.sst.report = if v = Config.reportVersion ∧ l = length bytes ∧ c = crc v l bytes then
              .valid ⟨v, l, x.content, c⟩ else .invalid)
      ∧ t.ccl.phase = .setup ∧ t.ccl.startCause = .power ∧ t.ccl.callNumber = 0 ∧ t.ccl.shipTime = 0
      ∧ t.cen = .initial ∧ t.ptr = .initial ∧ t.tsq = .initial ∧ t.pmu.unit = .idle ∧ t.pmu.permit = false
      ∧ t.lnk = .initial ∧ t.rcu.slot = none
      ∧ (∀ p : PumpNo, t.pva.pumps[p].run = false
          ∧ t.pva.pumps[p].state = if s.pins.emergency then .tripped else .free)
      ∧ t.lsl.emergencyInput = s.pins.emergency ∧ t.lsl.line = (s.pins.emergency && t.cfg.stop.emergencyEnabled)

/-- RESTART in every phase: every step is removed, every pump's run command is OFF with no pump BUSY, every valve is commanded CLOSED, the main line is IDLE with no candidate, no pin and grant counter 0; predictions are abandoned and every deferred reply is filled ABORTED, in queue order, the one in flight first and all before the RESTART's own (log entry 21), a STEP_ADD's with its step number and RESTARTED; the attendance check is IDLE with hysteresis OFF and LOADER PERMIT OFF; a composition is abandoned; the start cause is RESTART and the request is replied OK, in the lowest-numbered FREE slot (log entry 37). Nothing outside those blocks changes (R47, R108, R134, R171, R185, R217). -/
def Obligations.RestartTaken : Prop :=
  ∀ (s : State) (tag : Tag), s.serving → QueueSafe s → LinkSafe s →
    ∃ t, exec (.restart tag []) s = .next t
      ∧ Touches [.tsq, .pva, .cen, .pmu, .rcu, .lnk, .ccl] s t
      ∧ t.ccl = { s.ccl with startCause := .restart }
      ∧ (∀ k : SlotNo, t.tsq.slots[k] = none) ∧ t.tsq.order = [] ∧ t.tsq.checking = []
      ∧ t.tsq.lastNumber = s.tsq.lastNumber
      ∧ (∀ p : PumpNo, t.pva.pumps[p].run = false ∧ t.pva.pumps[p].gear = .g0 ∧ t.pva.pumps[p].state ≠ .busy
          ∧ t.pva.pumps[p].granted = none ∧ t.pva.pumps[p].fairness = none)
      ∧ (∀ v : ValveNo, t.pva.valves[v].open_ = false ∧ t.pva.valves[v].faulted = s.pva.valves[v].faulted)
      ∧ t.pva.mode = .idle ∧ t.pva.candidates = [] ∧ t.pva.pin = none ∧ t.pva.grants = 0
      ∧ t.cen.queue = [] ∧ (∀ q snap, t.cen.inFlight ≠ some (.prediction q snap)) ∧ t.cen.current = s.cen.current
      ∧ t.pmu.unit = .idle ∧ t.pmu.hysteresis = false ∧ t.pmu.permit = false ∧ t.pmu.counter = s.pmu.counter
      ∧ t.pmu.seed = s.pmu.seed ∧ t.pmu.flags = s.pmu.flags ∧ t.pmu.trips = s.pmu.trips
      ∧ t.rcu.composing = none ∧ t.rcu.slot = s.rcu.slot
      ∧ (∀ (r : ReplyNo) (kind : Byte) (rtag : Tag), s.lnk.slots[r] = .reserved kind rtag →
          ∃ body, t.lnk.slots[r] = .filled kind rtag .aborted body)
      ∧ (∀ q ∈ s.cen.requests, ∀ (kind : Byte) (rtag : Tag), s.lnk.slots[q.reply] = .reserved kind rtag →
          t.lnk.slots[q.reply] = .filled kind rtag .aborted (match q.requester with
            | .step n => u8 n ++ u8 5
            | .predict _ => []))
      ∧ (∀ r, s.lnk.freeSlot = some r → t.lnk.slots[r] = .filled 0xB4 tag .ok []
          ∧ (s.lnk.tx ≠ .idle → t.lnk.filled = s.lnk.filled ++ s.cen.requests.map (·.reply) ++ [r]))
end

