-- ==== Sys2Proof/Laws/State.lean ====
section
/-! SUPPORT. The fields of the state after each named update: one lemma per field per update, so that no later proof unfolds a record update. -/

namespace Sys2Proof.Machine.State

/-! ### `setStep` -/

@[simp] theorem setStep_powered (s : State) (k : SlotNo) (x : StepRec) : (s.setStep k x).powered = s.powered := rfl
@[simp] theorem setStep_cfg (s : State) (k : SlotNo) (x : StepRec) : (s.setStep k x).cfg = s.cfg := rfl
@[simp] theorem setStep_berth (s : State) (k : SlotNo) (x : StepRec) : (s.setStep k x).berth = s.berth := rfl
@[simp] theorem setStep_fcu (s : State) (k : SlotNo) (x : StepRec) : (s.setStep k x).fcu = s.fcu := rfl
@[simp] theorem setStep_tanks (s : State) (k : SlotNo) (x : StepRec) : (s.setStep k x).tanks = s.tanks := rfl
@[simp] theorem setStep_ptr (s : State) (k : SlotNo) (x : StepRec) : (s.setStep k x).ptr = s.ptr := rfl
@[simp] theorem setStep_cen (s : State) (k : SlotNo) (x : StepRec) : (s.setStep k x).cen = s.cen := rfl
@[simp] theorem setStep_lsl (s : State) (k : SlotNo) (x : StepRec) : (s.setStep k x).lsl = s.lsl := rfl
@[simp] theorem setStep_tsq (s : State) (k : SlotNo) (x : StepRec) : (s.setStep k x).tsq = { s.tsq with slots := s.tsq.slots.set k (some x) } := rfl
@[simp] theorem setStep_pva (s : State) (k : SlotNo) (x : StepRec) : (s.setStep k x).pva = s.pva := rfl
@[simp] theorem setStep_pmu (s : State) (k : SlotNo) (x : StepRec) : (s.setStep k x).pmu = s.pmu := rfl
@[simp] theorem setStep_rcu (s : State) (k : SlotNo) (x : StepRec) : (s.setStep k x).rcu = s.rcu := rfl
@[simp] theorem setStep_sst (s : State) (k : SlotNo) (x : StepRec) : (s.setStep k x).sst = s.sst := rfl
@[simp] theorem setStep_lnk (s : State) (k : SlotNo) (x : StepRec) : (s.setStep k x).lnk = s.lnk := rfl
@[simp] theorem setStep_ccl (s : State) (k : SlotNo) (x : StepRec) : (s.setStep k x).ccl = s.ccl := rfl
@[simp] theorem setStep_pins (s : State) (k : SlotNo) (x : StepRec) : (s.setStep k x).pins = s.pins := rfl
@[simp] theorem setStep_now (s : State) (k : SlotNo) (x : StepRec) : (s.setStep k x).now = s.now := rfl
@[simp] theorem setStep_choices (s : State) (k : SlotNo) (x : StepRec) : (s.setStep k x).choices = s.choices := rfl
@[simp] theorem setStep_pending (s : State) (k : SlotNo) (x : StepRec) : (s.setStep k x).pending = s.pending := rfl

/-! ### `setPump` -/

@[simp] theorem setPump_powered (s : State) (p : PumpNo) (y : Pump) : (s.setPump p y).powered = s.powered := rfl
@[simp] theorem setPump_cfg (s : State) (p : PumpNo) (y : Pump) : (s.setPump p y).cfg = s.cfg := rfl
@[simp] theorem setPump_berth (s : State) (p : PumpNo) (y : Pump) : (s.setPump p y).berth = s.berth := rfl
@[simp] theorem setPump_fcu (s : State) (p : PumpNo) (y : Pump) : (s.setPump p y).fcu = s.fcu := rfl
@[simp] theorem setPump_tanks (s : State) (p : PumpNo) (y : Pump) : (s.setPump p y).tanks = s.tanks := rfl
@[simp] theorem setPump_ptr (s : State) (p : PumpNo) (y : Pump) : (s.setPump p y).ptr = s.ptr := rfl
@[simp] theorem setPump_cen (s : State) (p : PumpNo) (y : Pump) : (s.setPump p y).cen = s.cen := rfl
@[simp] theorem setPump_lsl (s : State) (p : PumpNo) (y : Pump) : (s.setPump p y).lsl = s.lsl := rfl
@[simp] theorem setPump_tsq (s : State) (p : PumpNo) (y : Pump) : (s.setPump p y).tsq = s.tsq := rfl
@[simp] theorem setPump_pva (s : State) (p : PumpNo) (y : Pump) : (s.setPump p y).pva = { s.pva with pumps := s.pva.pumps.set p y } := rfl
@[simp] theorem setPump_pmu (s : State) (p : PumpNo) (y : Pump) : (s.setPump p y).pmu = s.pmu := rfl
@[simp] theorem setPump_rcu (s : State) (p : PumpNo) (y : Pump) : (s.setPump p y).rcu = s.rcu := rfl
@[simp] theorem setPump_sst (s : State) (p : PumpNo) (y : Pump) : (s.setPump p y).sst = s.sst := rfl
@[simp] theorem setPump_lnk (s : State) (p : PumpNo) (y : Pump) : (s.setPump p y).lnk = s.lnk := rfl
@[simp] theorem setPump_ccl (s : State) (p : PumpNo) (y : Pump) : (s.setPump p y).ccl = s.ccl := rfl
@[simp] theorem setPump_pins (s : State) (p : PumpNo) (y : Pump) : (s.setPump p y).pins = s.pins := rfl
@[simp] theorem setPump_now (s : State) (p : PumpNo) (y : Pump) : (s.setPump p y).now = s.now := rfl
@[simp] theorem setPump_choices (s : State) (p : PumpNo) (y : Pump) : (s.setPump p y).choices = s.choices := rfl
@[simp] theorem setPump_pending (s : State) (p : PumpNo) (y : Pump) : (s.setPump p y).pending = s.pending := rfl

/-! ### `setValve` -/

@[simp] theorem setValve_powered (s : State) (v : ValveNo) (y : Valve) : (s.setValve v y).powered = s.powered := rfl
@[simp] theorem setValve_cfg (s : State) (v : ValveNo) (y : Valve) : (s.setValve v y).cfg = s.cfg := rfl
@[simp] theorem setValve_berth (s : State) (v : ValveNo) (y : Valve) : (s.setValve v y).berth = s.berth := rfl
@[simp] theorem setValve_fcu (s : State) (v : ValveNo) (y : Valve) : (s.setValve v y).fcu = s.fcu := rfl
@[simp] theorem setValve_tanks (s : State) (v : ValveNo) (y : Valve) : (s.setValve v y).tanks = s.tanks := rfl
@[simp] theorem setValve_ptr (s : State) (v : ValveNo) (y : Valve) : (s.setValve v y).ptr = s.ptr := rfl
@[simp] theorem setValve_cen (s : State) (v : ValveNo) (y : Valve) : (s.setValve v y).cen = s.cen := rfl
@[simp] theorem setValve_lsl (s : State) (v : ValveNo) (y : Valve) : (s.setValve v y).lsl = s.lsl := rfl
@[simp] theorem setValve_tsq (s : State) (v : ValveNo) (y : Valve) : (s.setValve v y).tsq = s.tsq := rfl
@[simp] theorem setValve_pva (s : State) (v : ValveNo) (y : Valve) : (s.setValve v y).pva = { s.pva with valves := s.pva.valves.set v y } := rfl
@[simp] theorem setValve_pmu (s : State) (v : ValveNo) (y : Valve) : (s.setValve v y).pmu = s.pmu := rfl
@[simp] theorem setValve_rcu (s : State) (v : ValveNo) (y : Valve) : (s.setValve v y).rcu = s.rcu := rfl
@[simp] theorem setValve_sst (s : State) (v : ValveNo) (y : Valve) : (s.setValve v y).sst = s.sst := rfl
@[simp] theorem setValve_lnk (s : State) (v : ValveNo) (y : Valve) : (s.setValve v y).lnk = s.lnk := rfl
@[simp] theorem setValve_ccl (s : State) (v : ValveNo) (y : Valve) : (s.setValve v y).ccl = s.ccl := rfl
@[simp] theorem setValve_pins (s : State) (v : ValveNo) (y : Valve) : (s.setValve v y).pins = s.pins := rfl
@[simp] theorem setValve_now (s : State) (v : ValveNo) (y : Valve) : (s.setValve v y).now = s.now := rfl
@[simp] theorem setValve_choices (s : State) (v : ValveNo) (y : Valve) : (s.setValve v y).choices = s.choices := rfl
@[simp] theorem setValve_pending (s : State) (v : ValveNo) (y : Valve) : (s.setValve v y).pending = s.pending := rfl

/-! ### `setChannel` -/

@[simp] theorem setChannel_powered (s : State) (ch : ChannelNo) (r : ChannelRun) : (s.setChannel ch r).powered = s.powered := rfl
@[simp] theorem setChannel_cfg (s : State) (ch : ChannelNo) (r : ChannelRun) : (s.setChannel ch r).cfg = s.cfg := rfl
@[simp] theorem setChannel_berth (s : State) (ch : ChannelNo) (r : ChannelRun) : (s.setChannel ch r).berth = s.berth := rfl
@[simp] theorem setChannel_fcu (s : State) (ch : ChannelNo) (r : ChannelRun) : (s.setChannel ch r).fcu = { s.fcu with channels := s.fcu.channels.set ch r } := rfl
@[simp] theorem setChannel_tanks (s : State) (ch : ChannelNo) (r : ChannelRun) : (s.setChannel ch r).tanks = s.tanks := rfl
@[simp] theorem setChannel_ptr (s : State) (ch : ChannelNo) (r : ChannelRun) : (s.setChannel ch r).ptr = s.ptr := rfl
@[simp] theorem setChannel_cen (s : State) (ch : ChannelNo) (r : ChannelRun) : (s.setChannel ch r).cen = s.cen := rfl
@[simp] theorem setChannel_lsl (s : State) (ch : ChannelNo) (r : ChannelRun) : (s.setChannel ch r).lsl = s.lsl := rfl
@[simp] theorem setChannel_tsq (s : State) (ch : ChannelNo) (r : ChannelRun) : (s.setChannel ch r).tsq = s.tsq := rfl
@[simp] theorem setChannel_pva (s : State) (ch : ChannelNo) (r : ChannelRun) : (s.setChannel ch r).pva = s.pva := rfl
@[simp] theorem setChannel_pmu (s : State) (ch : ChannelNo) (r : ChannelRun) : (s.setChannel ch r).pmu = s.pmu := rfl
@[simp] theorem setChannel_rcu (s : State) (ch : ChannelNo) (r : ChannelRun) : (s.setChannel ch r).rcu = s.rcu := rfl
@[simp] theorem setChannel_sst (s : State) (ch : ChannelNo) (r : ChannelRun) : (s.setChannel ch r).sst = s.sst := rfl
@[simp] theorem setChannel_lnk (s : State) (ch : ChannelNo) (r : ChannelRun) : (s.setChannel ch r).lnk = s.lnk := rfl
@[simp] theorem setChannel_ccl (s : State) (ch : ChannelNo) (r : ChannelRun) : (s.setChannel ch r).ccl = s.ccl := rfl
@[simp] theorem setChannel_pins (s : State) (ch : ChannelNo) (r : ChannelRun) : (s.setChannel ch r).pins = s.pins := rfl
@[simp] theorem setChannel_now (s : State) (ch : ChannelNo) (r : ChannelRun) : (s.setChannel ch r).now = s.now := rfl
@[simp] theorem setChannel_choices (s : State) (ch : ChannelNo) (r : ChannelRun) : (s.setChannel ch r).choices = s.choices := rfl
@[simp] theorem setChannel_pending (s : State) (ch : ChannelNo) (r : ChannelRun) : (s.setChannel ch r).pending = s.pending := rfl

/-! ### `setTank` -/

@[simp] theorem setTank_powered (s : State) (t : TankNo) (x : TankRun) : (s.setTank t x).powered = s.powered := rfl
@[simp] theorem setTank_cfg (s : State) (t : TankNo) (x : TankRun) : (s.setTank t x).cfg = s.cfg := rfl
@[simp] theorem setTank_berth (s : State) (t : TankNo) (x : TankRun) : (s.setTank t x).berth = s.berth := rfl
@[simp] theorem setTank_fcu (s : State) (t : TankNo) (x : TankRun) : (s.setTank t x).fcu = s.fcu := rfl
@[simp] theorem setTank_tanks (s : State) (t : TankNo) (x : TankRun) : (s.setTank t x).tanks = s.tanks.set t x := rfl
@[simp] theorem setTank_ptr (s : State) (t : TankNo) (x : TankRun) : (s.setTank t x).ptr = s.ptr := rfl
@[simp] theorem setTank_cen (s : State) (t : TankNo) (x : TankRun) : (s.setTank t x).cen = s.cen := rfl
@[simp] theorem setTank_lsl (s : State) (t : TankNo) (x : TankRun) : (s.setTank t x).lsl = s.lsl := rfl
@[simp] theorem setTank_tsq (s : State) (t : TankNo) (x : TankRun) : (s.setTank t x).tsq = s.tsq := rfl
@[simp] theorem setTank_pva (s : State) (t : TankNo) (x : TankRun) : (s.setTank t x).pva = s.pva := rfl
@[simp] theorem setTank_pmu (s : State) (t : TankNo) (x : TankRun) : (s.setTank t x).pmu = s.pmu := rfl
@[simp] theorem setTank_rcu (s : State) (t : TankNo) (x : TankRun) : (s.setTank t x).rcu = s.rcu := rfl
@[simp] theorem setTank_sst (s : State) (t : TankNo) (x : TankRun) : (s.setTank t x).sst = s.sst := rfl
@[simp] theorem setTank_lnk (s : State) (t : TankNo) (x : TankRun) : (s.setTank t x).lnk = s.lnk := rfl
@[simp] theorem setTank_ccl (s : State) (t : TankNo) (x : TankRun) : (s.setTank t x).ccl = s.ccl := rfl
@[simp] theorem setTank_pins (s : State) (t : TankNo) (x : TankRun) : (s.setTank t x).pins = s.pins := rfl
@[simp] theorem setTank_now (s : State) (t : TankNo) (x : TankRun) : (s.setTank t x).now = s.now := rfl
@[simp] theorem setTank_choices (s : State) (t : TankNo) (x : TankRun) : (s.setTank t x).choices = s.choices := rfl
@[simp] theorem setTank_pending (s : State) (t : TankNo) (x : TankRun) : (s.setTank t x).pending = s.pending := rfl

/-! ### `setCounter` -/

@[simp] theorem setCounter_powered (s : State) (n : Nat) : (s.setCounter n).powered = s.powered := rfl
@[simp] theorem setCounter_cfg (s : State) (n : Nat) : (s.setCounter n).cfg = s.cfg := rfl
@[simp] theorem setCounter_berth (s : State) (n : Nat) : (s.setCounter n).berth = s.berth := rfl
@[simp] theorem setCounter_fcu (s : State) (n : Nat) : (s.setCounter n).fcu = s.fcu := rfl
@[simp] theorem setCounter_tanks (s : State) (n : Nat) : (s.setCounter n).tanks = s.tanks := rfl
@[simp] theorem setCounter_ptr (s : State) (n : Nat) : (s.setCounter n).ptr = s.ptr := rfl
@[simp] theorem setCounter_cen (s : State) (n : Nat) : (s.setCounter n).cen = s.cen := rfl
@[simp] theorem setCounter_lsl (s : State) (n : Nat) : (s.setCounter n).lsl = s.lsl := rfl
@[simp] theorem setCounter_tsq (s : State) (n : Nat) : (s.setCounter n).tsq = s.tsq := rfl
@[simp] theorem setCounter_pva (s : State) (n : Nat) : (s.setCounter n).pva = s.pva := rfl
@[simp] theorem setCounter_pmu (s : State) (n : Nat) : (s.setCounter n).pmu = { s.pmu with counter := n } := rfl
@[simp] theorem setCounter_rcu (s : State) (n : Nat) : (s.setCounter n).rcu = s.rcu := rfl
@[simp] theorem setCounter_sst (s : State) (n : Nat) : (s.setCounter n).sst = s.sst := rfl
@[simp] theorem setCounter_lnk (s : State) (n : Nat) : (s.setCounter n).lnk = s.lnk := rfl
@[simp] theorem setCounter_ccl (s : State) (n : Nat) : (s.setCounter n).ccl = s.ccl := rfl
@[simp] theorem setCounter_pins (s : State) (n : Nat) : (s.setCounter n).pins = s.pins := rfl
@[simp] theorem setCounter_now (s : State) (n : Nat) : (s.setCounter n).now = s.now := rfl
@[simp] theorem setCounter_choices (s : State) (n : Nat) : (s.setCounter n).choices = s.choices := rfl
@[simp] theorem setCounter_pending (s : State) (n : Nat) : (s.setCounter n).pending = s.pending := rfl

/-! ### `setFlag` -/

@[simp] theorem setFlag_powered (s : State) (f : StatusFlag) : (s.setFlag f).powered = s.powered := rfl
@[simp] theorem setFlag_cfg (s : State) (f : StatusFlag) : (s.setFlag f).cfg = s.cfg := rfl
@[simp] theorem setFlag_berth (s : State) (f : StatusFlag) : (s.setFlag f).berth = s.berth := rfl
@[simp] theorem setFlag_fcu (s : State) (f : StatusFlag) : (s.setFlag f).fcu = s.fcu := rfl
@[simp] theorem setFlag_tanks (s : State) (f : StatusFlag) : (s.setFlag f).tanks = s.tanks := rfl
@[simp] theorem setFlag_ptr (s : State) (f : StatusFlag) : (s.setFlag f).ptr = s.ptr := rfl
@[simp] theorem setFlag_cen (s : State) (f : StatusFlag) : (s.setFlag f).cen = s.cen := rfl
@[simp] theorem setFlag_lsl (s : State) (f : StatusFlag) : (s.setFlag f).lsl = s.lsl := rfl
@[simp] theorem setFlag_tsq (s : State) (f : StatusFlag) : (s.setFlag f).tsq = s.tsq := rfl
@[simp] theorem setFlag_pva (s : State) (f : StatusFlag) : (s.setFlag f).pva = s.pva := rfl
@[simp] theorem setFlag_pmu (s : State) (f : StatusFlag) : (s.setFlag f).pmu = { s.pmu with flags := s.pmu.flags.set f.ix true } := rfl
@[simp] theorem setFlag_rcu (s : State) (f : StatusFlag) : (s.setFlag f).rcu = s.rcu := rfl
@[simp] theorem setFlag_sst (s : State) (f : StatusFlag) : (s.setFlag f).sst = s.sst := rfl
@[simp] theorem setFlag_lnk (s : State) (f : StatusFlag) : (s.setFlag f).lnk = s.lnk := rfl
@[simp] theorem setFlag_ccl (s : State) (f : StatusFlag) : (s.setFlag f).ccl = s.ccl := rfl
@[simp] theorem setFlag_pins (s : State) (f : StatusFlag) : (s.setFlag f).pins = s.pins := rfl
@[simp] theorem setFlag_now (s : State) (f : StatusFlag) : (s.setFlag f).now = s.now := rfl
@[simp] theorem setFlag_choices (s : State) (f : StatusFlag) : (s.setFlag f).choices = s.choices := rfl
@[simp] theorem setFlag_pending (s : State) (f : StatusFlag) : (s.setFlag f).pending = s.pending := rfl

/-! ### `setPermitConfig` -/

@[simp] theorem setPermitConfig_powered (s : State) (c : PermitConfig) : (s.setPermitConfig c).powered = s.powered := rfl
@[simp] theorem setPermitConfig_cfg (s : State) (c : PermitConfig) : (s.setPermitConfig c).cfg = { s.cfg with permit := c } := rfl
@[simp] theorem setPermitConfig_berth (s : State) (c : PermitConfig) : (s.setPermitConfig c).berth = s.berth := rfl
@[simp] theorem setPermitConfig_fcu (s : State) (c : PermitConfig) : (s.setPermitConfig c).fcu = s.fcu := rfl
@[simp] theorem setPermitConfig_tanks (s : State) (c : PermitConfig) : (s.setPermitConfig c).tanks = s.tanks := rfl
@[simp] theorem setPermitConfig_ptr (s : State) (c : PermitConfig) : (s.setPermitConfig c).ptr = s.ptr := rfl
@[simp] theorem setPermitConfig_cen (s : State) (c : PermitConfig) : (s.setPermitConfig c).cen = s.cen := rfl
@[simp] theorem setPermitConfig_lsl (s : State) (c : PermitConfig) : (s.setPermitConfig c).lsl = s.lsl := rfl
@[simp] theorem setPermitConfig_tsq (s : State) (c : PermitConfig) : (s.setPermitConfig c).tsq = s.tsq := rfl
@[simp] theorem setPermitConfig_pva (s : State) (c : PermitConfig) : (s.setPermitConfig c).pva = s.pva := rfl
@[simp] theorem setPermitConfig_pmu (s : State) (c : PermitConfig) : (s.setPermitConfig c).pmu = s.pmu := rfl
@[simp] theorem setPermitConfig_rcu (s : State) (c : PermitConfig) : (s.setPermitConfig c).rcu = s.rcu := rfl
@[simp] theorem setPermitConfig_sst (s : State) (c : PermitConfig) : (s.setPermitConfig c).sst = s.sst := rfl
@[simp] theorem setPermitConfig_lnk (s : State) (c : PermitConfig) : (s.setPermitConfig c).lnk = s.lnk := rfl
@[simp] theorem setPermitConfig_ccl (s : State) (c : PermitConfig) : (s.setPermitConfig c).ccl = s.ccl := rfl
@[simp] theorem setPermitConfig_pins (s : State) (c : PermitConfig) : (s.setPermitConfig c).pins = s.pins := rfl
@[simp] theorem setPermitConfig_now (s : State) (c : PermitConfig) : (s.setPermitConfig c).now = s.now := rfl
@[simp] theorem setPermitConfig_choices (s : State) (c : PermitConfig) : (s.setPermitConfig c).choices = s.choices := rfl
@[simp] theorem setPermitConfig_pending (s : State) (c : PermitConfig) : (s.setPermitConfig c).pending = s.pending := rfl

/-! ### `setRx` -/

@[simp] theorem setRx_powered (s : State) (r : Rx) : (s.setRx r).powered = s.powered := rfl
@[simp] theorem setRx_cfg (s : State) (r : Rx) : (s.setRx r).cfg = s.cfg := rfl
@[simp] theorem setRx_berth (s : State) (r : Rx) : (s.setRx r).berth = s.berth := rfl
@[simp] theorem setRx_fcu (s : State) (r : Rx) : (s.setRx r).fcu = s.fcu := rfl
@[simp] theorem setRx_tanks (s : State) (r : Rx) : (s.setRx r).tanks = s.tanks := rfl
@[simp] theorem setRx_ptr (s : State) (r : Rx) : (s.setRx r).ptr = s.ptr := rfl
@[simp] theorem setRx_cen (s : State) (r : Rx) : (s.setRx r).cen = s.cen := rfl
@[simp] theorem setRx_lsl (s : State) (r : Rx) : (s.setRx r).lsl = s.lsl := rfl
@[simp] theorem setRx_tsq (s : State) (r : Rx) : (s.setRx r).tsq = s.tsq := rfl
@[simp] theorem setRx_pva (s : State) (r : Rx) : (s.setRx r).pva = s.pva := rfl
@[simp] theorem setRx_pmu (s : State) (r : Rx) : (s.setRx r).pmu = s.pmu := rfl
@[simp] theorem setRx_rcu (s : State) (r : Rx) : (s.setRx r).rcu = s.rcu := rfl
@[simp] theorem setRx_sst (s : State) (r : Rx) : (s.setRx r).sst = s.sst := rfl
@[simp] theorem setRx_lnk (s : State) (r : Rx) : (s.setRx r).lnk = { s.lnk with rx := r } := rfl
@[simp] theorem setRx_ccl (s : State) (r : Rx) : (s.setRx r).ccl = s.ccl := rfl
@[simp] theorem setRx_pins (s : State) (r : Rx) : (s.setRx r).pins = s.pins := rfl
@[simp] theorem setRx_now (s : State) (r : Rx) : (s.setRx r).now = s.now := rfl
@[simp] theorem setRx_choices (s : State) (r : Rx) : (s.setRx r).choices = s.choices := rfl
@[simp] theorem setRx_pending (s : State) (r : Rx) : (s.setRx r).pending = s.pending := rfl

/-! ### `reserve` -/

@[simp] theorem reserve_powered (s : State) (r : ReplyNo) (kind : Byte) (tag : Tag) : (s.reserve r kind tag).powered = s.powered := rfl
@[simp] theorem reserve_cfg (s : State) (r : ReplyNo) (kind : Byte) (tag : Tag) : (s.reserve r kind tag).cfg = s.cfg := rfl
@[simp] theorem reserve_berth (s : State) (r : ReplyNo) (kind : Byte) (tag : Tag) : (s.reserve r kind tag).berth = s.berth := rfl
@[simp] theorem reserve_fcu (s : State) (r : ReplyNo) (kind : Byte) (tag : Tag) : (s.reserve r kind tag).fcu = s.fcu := rfl
@[simp] theorem reserve_tanks (s : State) (r : ReplyNo) (kind : Byte) (tag : Tag) : (s.reserve r kind tag).tanks = s.tanks := rfl
@[simp] theorem reserve_ptr (s : State) (r : ReplyNo) (kind : Byte) (tag : Tag) : (s.reserve r kind tag).ptr = s.ptr := rfl
@[simp] theorem reserve_cen (s : State) (r : ReplyNo) (kind : Byte) (tag : Tag) : (s.reserve r kind tag).cen = s.cen := rfl
@[simp] theorem reserve_lsl (s : State) (r : ReplyNo) (kind : Byte) (tag : Tag) : (s.reserve r kind tag).lsl = s.lsl := rfl
@[simp] theorem reserve_tsq (s : State) (r : ReplyNo) (kind : Byte) (tag : Tag) : (s.reserve r kind tag).tsq = s.tsq := rfl
@[simp] theorem reserve_pva (s : State) (r : ReplyNo) (kind : Byte) (tag : Tag) : (s.reserve r kind tag).pva = s.pva := rfl
@[simp] theorem reserve_pmu (s : State) (r : ReplyNo) (kind : Byte) (tag : Tag) : (s.reserve r kind tag).pmu = s.pmu := rfl
@[simp] theorem reserve_rcu (s : State) (r : ReplyNo) (kind : Byte) (tag : Tag) : (s.reserve r kind tag).rcu = s.rcu := rfl
@[simp] theorem reserve_sst (s : State) (r : ReplyNo) (kind : Byte) (tag : Tag) : (s.reserve r kind tag).sst = s.sst := rfl
@[simp] theorem reserve_lnk (s : State) (r : ReplyNo) (kind : Byte) (tag : Tag) : (s.reserve r kind tag).lnk = { s.lnk with slots := s.lnk.slots.set r (.reserved kind tag) } := rfl
@[simp] theorem reserve_ccl (s : State) (r : ReplyNo) (kind : Byte) (tag : Tag) : (s.reserve r kind tag).ccl = s.ccl := rfl
@[simp] theorem reserve_pins (s : State) (r : ReplyNo) (kind : Byte) (tag : Tag) : (s.reserve r kind tag).pins = s.pins := rfl
@[simp] theorem reserve_now (s : State) (r : ReplyNo) (kind : Byte) (tag : Tag) : (s.reserve r kind tag).now = s.now := rfl
@[simp] theorem reserve_choices (s : State) (r : ReplyNo) (kind : Byte) (tag : Tag) : (s.reserve r kind tag).choices = s.choices := rfl
@[simp] theorem reserve_pending (s : State) (r : ReplyNo) (kind : Byte) (tag : Tag) : (s.reserve r kind tag).pending = s.pending := rfl

/-! ### `withdraw` -/

@[simp] theorem withdraw_powered (s : State) (n : Notice) : (s.withdraw n).powered = s.powered := rfl
@[simp] theorem withdraw_cfg (s : State) (n : Notice) : (s.withdraw n).cfg = s.cfg := rfl
@[simp] theorem withdraw_berth (s : State) (n : Notice) : (s.withdraw n).berth = s.berth := rfl
@[simp] theorem withdraw_fcu (s : State) (n : Notice) : (s.withdraw n).fcu = s.fcu := rfl
@[simp] theorem withdraw_tanks (s : State) (n : Notice) : (s.withdraw n).tanks = s.tanks := rfl
@[simp] theorem withdraw_ptr (s : State) (n : Notice) : (s.withdraw n).ptr = s.ptr := rfl
@[simp] theorem withdraw_cen (s : State) (n : Notice) : (s.withdraw n).cen = s.cen := rfl
@[simp] theorem withdraw_lsl (s : State) (n : Notice) : (s.withdraw n).lsl = s.lsl := rfl
@[simp] theorem withdraw_tsq (s : State) (n : Notice) : (s.withdraw n).tsq = s.tsq := rfl
@[simp] theorem withdraw_pva (s : State) (n : Notice) : (s.withdraw n).pva = s.pva := rfl
@[simp] theorem withdraw_pmu (s : State) (n : Notice) : (s.withdraw n).pmu = s.pmu := rfl
@[simp] theorem withdraw_rcu (s : State) (n : Notice) : (s.withdraw n).rcu = s.rcu := rfl
@[simp] theorem withdraw_sst (s : State) (n : Notice) : (s.withdraw n).sst = s.sst := rfl
@[simp] theorem withdraw_lnk (s : State) (n : Notice) : (s.withdraw n).lnk = { s.lnk with notices := s.lnk.notices.set n.place none } := rfl
@[simp] theorem withdraw_ccl (s : State) (n : Notice) : (s.withdraw n).ccl = s.ccl := rfl
@[simp] theorem withdraw_pins (s : State) (n : Notice) : (s.withdraw n).pins = s.pins := rfl
@[simp] theorem withdraw_now (s : State) (n : Notice) : (s.withdraw n).now = s.now := rfl
@[simp] theorem withdraw_choices (s : State) (n : Notice) : (s.withdraw n).choices = s.choices := rfl
@[simp] theorem withdraw_pending (s : State) (n : Notice) : (s.withdraw n).pending = s.pending := rfl

/-! ### `log` -/

@[simp] theorem log_powered (s : State) (k : EntryKind) (params : List Nat) : (s.log k params).powered = s.powered := rfl
@[simp] theorem log_cfg (s : State) (k : EntryKind) (params : List Nat) : (s.log k params).cfg = s.cfg := rfl
@[simp] theorem log_berth (s : State) (k : EntryKind) (params : List Nat) : (s.log k params).berth = s.berth := rfl
@[simp] theorem log_fcu (s : State) (k : EntryKind) (params : List Nat) : (s.log k params).fcu = s.fcu := rfl
@[simp] theorem log_tanks (s : State) (k : EntryKind) (params : List Nat) : (s.log k params).tanks = s.tanks := rfl
@[simp] theorem log_ptr (s : State) (k : EntryKind) (params : List Nat) : (s.log k params).ptr = s.ptr := rfl
@[simp] theorem log_cen (s : State) (k : EntryKind) (params : List Nat) : (s.log k params).cen = s.cen := rfl
@[simp] theorem log_lsl (s : State) (k : EntryKind) (params : List Nat) : (s.log k params).lsl = s.lsl := rfl
@[simp] theorem log_tsq (s : State) (k : EntryKind) (params : List Nat) : (s.log k params).tsq = s.tsq := rfl
@[simp] theorem log_pva (s : State) (k : EntryKind) (params : List Nat) : (s.log k params).pva = s.pva := rfl
@[simp] theorem log_pmu (s : State) (k : EntryKind) (params : List Nat) : (s.log k params).pmu = s.pmu := rfl
@[simp] theorem log_rcu (s : State) (k : EntryKind) (params : List Nat) : (s.log k params).rcu = { s.rcu.write s.ccl.callTime k params with counts := s.rcu.counts.entry k params } := rfl
@[simp] theorem log_sst (s : State) (k : EntryKind) (params : List Nat) : (s.log k params).sst = s.sst := rfl
@[simp] theorem log_lnk (s : State) (k : EntryKind) (params : List Nat) : (s.log k params).lnk = s.lnk := rfl
@[simp] theorem log_ccl (s : State) (k : EntryKind) (params : List Nat) : (s.log k params).ccl = s.ccl := rfl
@[simp] theorem log_pins (s : State) (k : EntryKind) (params : List Nat) : (s.log k params).pins = s.pins := rfl
@[simp] theorem log_now (s : State) (k : EntryKind) (params : List Nat) : (s.log k params).now = s.now := rfl
@[simp] theorem log_choices (s : State) (k : EntryKind) (params : List Nat) : (s.log k params).choices = s.choices := rfl
@[simp] theorem log_pending (s : State) (k : EntryKind) (params : List Nat) : (s.log k params).pending = s.pending := rfl

/-! ### `startAnswerTimer` -/

@[simp] theorem startAnswerTimer_powered (s : State) : (s.startAnswerTimer).powered = s.powered := rfl
@[simp] theorem startAnswerTimer_cfg (s : State) : (s.startAnswerTimer).cfg = s.cfg := rfl
@[simp] theorem startAnswerTimer_berth (s : State) : (s.startAnswerTimer).berth = s.berth := rfl
@[simp] theorem startAnswerTimer_fcu (s : State) : (s.startAnswerTimer).fcu = s.fcu := rfl
@[simp] theorem startAnswerTimer_tanks (s : State) : (s.startAnswerTimer).tanks = s.tanks := rfl
@[simp] theorem startAnswerTimer_ptr (s : State) : (s.startAnswerTimer).ptr = s.ptr := rfl
@[simp] theorem startAnswerTimer_cen (s : State) : (s.startAnswerTimer).cen = s.cen := rfl
@[simp] theorem startAnswerTimer_lsl (s : State) : (s.startAnswerTimer).lsl = s.lsl := rfl
@[simp] theorem startAnswerTimer_tsq (s : State) : (s.startAnswerTimer).tsq = s.tsq := rfl
@[simp] theorem startAnswerTimer_pva (s : State) : (s.startAnswerTimer).pva = s.pva := rfl
@[simp] theorem startAnswerTimer_pmu (s : State) : (s.startAnswerTimer).pmu = { s.pmu with unit := .awaitAnswer s.now } := rfl
@[simp] theorem startAnswerTimer_rcu (s : State) : (s.startAnswerTimer).rcu = s.rcu := rfl
@[simp] theorem startAnswerTimer_sst (s : State) : (s.startAnswerTimer).sst = s.sst := rfl
@[simp] theorem startAnswerTimer_lnk (s : State) : (s.startAnswerTimer).lnk = s.lnk := rfl
@[simp] theorem startAnswerTimer_ccl (s : State) : (s.startAnswerTimer).ccl = s.ccl := rfl
@[simp] theorem startAnswerTimer_pins (s : State) : (s.startAnswerTimer).pins = s.pins := rfl
@[simp] theorem startAnswerTimer_now (s : State) : (s.startAnswerTimer).now = s.now := rfl
@[simp] theorem startAnswerTimer_choices (s : State) : (s.startAnswerTimer).choices = s.choices := rfl
@[simp] theorem startAnswerTimer_pending (s : State) : (s.startAnswerTimer).pending = s.pending := rfl

/-! ### `clearFlags` -/

@[simp] theorem clearFlags_powered (s : State) : (s.clearFlags).powered = s.powered := rfl
@[simp] theorem clearFlags_cfg (s : State) : (s.clearFlags).cfg = s.cfg := rfl
@[simp] theorem clearFlags_berth (s : State) : (s.clearFlags).berth = s.berth := rfl
@[simp] theorem clearFlags_fcu (s : State) : (s.clearFlags).fcu = s.fcu := rfl
@[simp] theorem clearFlags_tanks (s : State) : (s.clearFlags).tanks = s.tanks := rfl
@[simp] theorem clearFlags_ptr (s : State) : (s.clearFlags).ptr = s.ptr := rfl
@[simp] theorem clearFlags_cen (s : State) : (s.clearFlags).cen = s.cen := rfl
@[simp] theorem clearFlags_lsl (s : State) : (s.clearFlags).lsl = s.lsl := rfl
@[simp] theorem clearFlags_tsq (s : State) : (s.clearFlags).tsq = s.tsq := rfl
@[simp] theorem clearFlags_pva (s : State) : (s.clearFlags).pva = s.pva := rfl
@[simp] theorem clearFlags_pmu (s : State) : (s.clearFlags).pmu = { s.pmu with flags := Vector.replicate 9 false } := rfl
@[simp] theorem clearFlags_rcu (s : State) : (s.clearFlags).rcu = s.rcu := rfl
@[simp] theorem clearFlags_sst (s : State) : (s.clearFlags).sst = s.sst := rfl
@[simp] theorem clearFlags_lnk (s : State) : (s.clearFlags).lnk = s.lnk := rfl
@[simp] theorem clearFlags_ccl (s : State) : (s.clearFlags).ccl = s.ccl := rfl
@[simp] theorem clearFlags_pins (s : State) : (s.clearFlags).pins = s.pins := rfl
@[simp] theorem clearFlags_now (s : State) : (s.clearFlags).now = s.now := rfl
@[simp] theorem clearFlags_choices (s : State) : (s.clearFlags).choices = s.choices := rfl
@[simp] theorem clearFlags_pending (s : State) : (s.clearFlags).pending = s.pending := rfl

/-! ### `zeroCallTime` -/

@[simp] theorem zeroCallTime_powered (s : State) : (s.zeroCallTime).powered = s.powered := rfl
@[simp] theorem zeroCallTime_cfg (s : State) : (s.zeroCallTime).cfg = s.cfg := rfl
@[simp] theorem zeroCallTime_berth (s : State) : (s.zeroCallTime).berth = s.berth := rfl
@[simp] theorem zeroCallTime_fcu (s : State) : (s.zeroCallTime).fcu = s.fcu := rfl
@[simp] theorem zeroCallTime_tanks (s : State) : (s.zeroCallTime).tanks = s.tanks := rfl
@[simp] theorem zeroCallTime_ptr (s : State) : (s.zeroCallTime).ptr = s.ptr := rfl
@[simp] theorem zeroCallTime_cen (s : State) : (s.zeroCallTime).cen = s.cen := rfl
@[simp] theorem zeroCallTime_lsl (s : State) : (s.zeroCallTime).lsl = s.lsl := rfl
@[simp] theorem zeroCallTime_tsq (s : State) : (s.zeroCallTime).tsq = s.tsq := rfl
@[simp] theorem zeroCallTime_pva (s : State) : (s.zeroCallTime).pva = s.pva := rfl
@[simp] theorem zeroCallTime_pmu (s : State) : (s.zeroCallTime).pmu = s.pmu := rfl
@[simp] theorem zeroCallTime_rcu (s : State) : (s.zeroCallTime).rcu = s.rcu := rfl
@[simp] theorem zeroCallTime_sst (s : State) : (s.zeroCallTime).sst = s.sst := rfl
@[simp] theorem zeroCallTime_lnk (s : State) : (s.zeroCallTime).lnk = s.lnk := rfl
@[simp] theorem zeroCallTime_ccl (s : State) : (s.zeroCallTime).ccl = { s.ccl with callTime := 0 } := rfl
@[simp] theorem zeroCallTime_pins (s : State) : (s.zeroCallTime).pins = s.pins := rfl
@[simp] theorem zeroCallTime_now (s : State) : (s.zeroCallTime).now = s.now := rfl
@[simp] theorem zeroCallTime_choices (s : State) : (s.zeroCallTime).choices = s.choices := rfl
@[simp] theorem zeroCallTime_pending (s : State) : (s.zeroCallTime).pending = s.pending := rfl

end Sys2Proof.Machine.State
end

