-- ==== Sys2Proof/Laws/Frame.lean ====
section
/-! SUPPORT. How frames combine: the laws of `Touches`. -/

namespace Sys2Proof.Machine

namespace Touches

variable {l m : List Part} {s t u : State}

theorem refl (l : List Part) (s : State) : Touches l s s := ⟨fun p _ => by cases p <;> rfl⟩

theorem of_eq (h : t = s) : Touches l s t := h ▸ refl l s

theorem trans (h : Touches l s t) (g : Touches l t u) : Touches l s u := by
  refine ⟨fun p hp => ?_⟩
  have a := h.same p hp
  have b := g.same p hp
  cases p <;> exact Eq.trans b a

/-- A frame holds for any longer list. -/
theorem mono (h : Touches l s t) (sub : ∀ p ∈ l, p ∈ m := by decide) : Touches m s t :=
  ⟨fun p hp => h.same p fun hl => hp (sub p hl)⟩

/-- Two frames in a row touch the parts of both. -/
theorem seq (h : Touches l s t) (g : Touches m t u) : Touches (l ++ m) s u :=
  (h.mono fun _ hp => List.mem_append_left m hp).trans (g.mono fun _ hp => List.mem_append_right l hp)

/-- Both branches of a choice. -/
theorem ite {c : Prop} [Decidable c] (h : Touches l s t) (g : Touches l s u) : Touches l s (if c then t else u) := by
  split
  · exact h
  · exact g

theorem foldl {α : Type} {f : State → α → State} (h : ∀ s a, Touches l s (f s a)) (as : List α) (s : State) :
    Touches l s (as.foldl f s) := by
  induction as generalizing s with
  | nil => exact refl l s
  | cons a as ih => exact (h s a).trans (ih (f s a))

theorem powered (h : Touches l s t) (n : Part.powered ∉ l := by decide) : t.powered = s.powered := h.same .powered n
theorem cfg (h : Touches l s t) (n : Part.cfg ∉ l := by decide) : t.cfg = s.cfg := h.same .cfg n
theorem berth (h : Touches l s t) (n : Part.berth ∉ l := by decide) : t.berth = s.berth := h.same .berth n
theorem fcu (h : Touches l s t) (n : Part.fcu ∉ l := by decide) : t.fcu = s.fcu := h.same .fcu n
theorem tanks (h : Touches l s t) (n : Part.tanks ∉ l := by decide) : t.tanks = s.tanks := h.same .tanks n
theorem ptr (h : Touches l s t) (n : Part.ptr ∉ l := by decide) : t.ptr = s.ptr := h.same .ptr n
theorem cen (h : Touches l s t) (n : Part.cen ∉ l := by decide) : t.cen = s.cen := h.same .cen n
theorem lsl (h : Touches l s t) (n : Part.lsl ∉ l := by decide) : t.lsl = s.lsl := h.same .lsl n
theorem tsq (h : Touches l s t) (n : Part.tsq ∉ l := by decide) : t.tsq = s.tsq := h.same .tsq n
theorem pva (h : Touches l s t) (n : Part.pva ∉ l := by decide) : t.pva = s.pva := h.same .pva n
theorem pmu (h : Touches l s t) (n : Part.pmu ∉ l := by decide) : t.pmu = s.pmu := h.same .pmu n
theorem rcu (h : Touches l s t) (n : Part.rcu ∉ l := by decide) : t.rcu = s.rcu := h.same .rcu n
theorem sst (h : Touches l s t) (n : Part.sst ∉ l := by decide) : t.sst = s.sst := h.same .sst n
theorem lnk (h : Touches l s t) (n : Part.lnk ∉ l := by decide) : t.lnk = s.lnk := h.same .lnk n
theorem ccl (h : Touches l s t) (n : Part.ccl ∉ l := by decide) : t.ccl = s.ccl := h.same .ccl n
theorem pins (h : Touches l s t) (n : Part.pins ∉ l := by decide) : t.pins = s.pins := h.same .pins n
theorem now (h : Touches l s t) (n : Part.now ∉ l := by decide) : t.now = s.now := h.same .now n
theorem choices (h : Touches l s t) (n : Part.choices ∉ l := by decide) : t.choices = s.choices := h.same .choices n
theorem pending (h : Touches l s t) (n : Part.pending ∉ l := by decide) : t.pending = s.pending := h.same .pending n

end Touches

/-! ### Updates of one part -/

theorem touch_powered (s : State) (x : Bool) : Touches [.powered] s { s with powered := x } :=
  ⟨fun p hp => by cases p <;> first | rfl | exact absurd List.mem_cons_self hp⟩
theorem touch_cfg (s : State) (x : ConfigTables) : Touches [.cfg] s { s with cfg := x } :=
  ⟨fun p hp => by cases p <;> first | rfl | exact absurd List.mem_cons_self hp⟩
theorem touch_berth (s : State) (x : BerthLimits) : Touches [.berth] s { s with berth := x } :=
  ⟨fun p hp => by cases p <;> first | rfl | exact absurd List.mem_cons_self hp⟩
theorem touch_fcu (s : State) (x : Fcu) : Touches [.fcu] s { s with fcu := x } :=
  ⟨fun p hp => by cases p <;> first | rfl | exact absurd List.mem_cons_self hp⟩
theorem touch_tanks (s : State) (x : Vector TankRun 16) : Touches [.tanks] s { s with tanks := x } :=
  ⟨fun p hp => by cases p <;> first | rfl | exact absurd List.mem_cons_self hp⟩
theorem touch_ptr (s : State) (x : Ptr) : Touches [.ptr] s { s with ptr := x } :=
  ⟨fun p hp => by cases p <;> first | rfl | exact absurd List.mem_cons_self hp⟩
theorem touch_cen (s : State) (x : Cen) : Touches [.cen] s { s with cen := x } :=
  ⟨fun p hp => by cases p <;> first | rfl | exact absurd List.mem_cons_self hp⟩
theorem touch_lsl (s : State) (x : Lsl) : Touches [.lsl] s { s with lsl := x } :=
  ⟨fun p hp => by cases p <;> first | rfl | exact absurd List.mem_cons_self hp⟩
theorem touch_tsq (s : State) (x : Tsq) : Touches [.tsq] s { s with tsq := x } :=
  ⟨fun p hp => by cases p <;> first | rfl | exact absurd List.mem_cons_self hp⟩
theorem touch_pva (s : State) (x : Pva) : Touches [.pva] s { s with pva := x } :=
  ⟨fun p hp => by cases p <;> first | rfl | exact absurd List.mem_cons_self hp⟩
theorem touch_pmu (s : State) (x : Pmu) : Touches [.pmu] s { s with pmu := x } :=
  ⟨fun p hp => by cases p <;> first | rfl | exact absurd List.mem_cons_self hp⟩
theorem touch_rcu (s : State) (x : Rcu) : Touches [.rcu] s { s with rcu := x } :=
  ⟨fun p hp => by cases p <;> first | rfl | exact absurd List.mem_cons_self hp⟩
theorem touch_sst (s : State) (x : Sst) : Touches [.sst] s { s with sst := x } :=
  ⟨fun p hp => by cases p <;> first | rfl | exact absurd List.mem_cons_self hp⟩
theorem touch_lnk (s : State) (x : Lnk) : Touches [.lnk] s { s with lnk := x } :=
  ⟨fun p hp => by cases p <;> first | rfl | exact absurd List.mem_cons_self hp⟩
theorem touch_ccl (s : State) (x : Ccl) : Touches [.ccl] s { s with ccl := x } :=
  ⟨fun p hp => by cases p <;> first | rfl | exact absurd List.mem_cons_self hp⟩
theorem touch_pins (s : State) (x : Pins) : Touches [.pins] s { s with pins := x } :=
  ⟨fun p hp => by cases p <;> first | rfl | exact absurd List.mem_cons_self hp⟩
theorem touch_now (s : State) (x : Nat) : Touches [.now] s { s with now := x } :=
  ⟨fun p hp => by cases p <;> first | rfl | exact absurd List.mem_cons_self hp⟩
theorem touch_choices (s : State) (x : Nat) : Touches [.choices] s { s with choices := x } :=
  ⟨fun p hp => by cases p <;> first | rfl | exact absurd List.mem_cons_self hp⟩
theorem touch_pending (s : State) (x : List Instr) : Touches [.pending] s { s with pending := x } :=
  ⟨fun p hp => by cases p <;> first | rfl | exact absurd List.mem_cons_self hp⟩

end Sys2Proof.Machine
end

