-- ==== Sys2Proof/Laws/Touch.lean ====
section
/-! SUPPORT. The frames of the shared operations of Ops, Limits, Permit, Records and Engine. -/

namespace Sys2Proof.Machine

/- Each proof is checked before the next is begun: checked side by side, they take a thread each. -/
set_option Elab.async false

open State

/-! ### Ops -/

theorem choose_touch (f : Nat → Bool) (s : State) : Touches [.choices] s (s.choose f).2 := touch_choices s _

theorem log_touch (k : EntryKind) (ps : List Nat) (s : State) : Touches [.rcu] s (s.log k ps) := touch_rcu s _

theorem notify_touch (n : Notice) (c : List Byte) (s : State) : Touches [.lnk] s (s.notify n c) := by
  unfold notify
  split
  · exact touch_lnk s _
  · exact .refl _ s

theorem withdraw_touch (n : Notice) (s : State) : Touches [.lnk] s (s.withdraw n) := touch_lnk s _

theorem reserve_touch (r : ReplyNo) (k : Byte) (t : Tag) (s : State) : Touches [.lnk] s (s.reserve r k t) := touch_lnk s _

theorem reply_touch (r : ReplyNo) (st : Status) (b : List Byte) (s : State) : Touches [.lnk] s (s.reply r st b) := by
  unfold reply
  split
  · exact touch_lnk s _
  · exact .refl _ s

theorem transmit_touch (s : State) : Touches [.lnk] s s.transmit := by
  unfold transmit
  repeat' split
  all_goals first | exact .refl _ s | exact touch_lnk s _

/-! ### Limits -/

theorem evalPermit_touch (c : PermitCause) (s : State) : Touches [.pmu, .rcu, .lnk] s (s.evalPermit c) :=
  .ite (.refl _ s) (((touch_pmu s _).seq ((log_touch ..).seq (notify_touch ..))).mono)

theorem stopEvaluated_touch (f : Lsl → Lsl) (s : State) : Touches [.lsl, .rcu, .lnk] s (s.stopEvaluated f) := by
  unfold stopEvaluated
  extract_lets old l s₁ s₂
  have h₁ : Touches [.lsl] s s₁ := touch_lsl s _
  have h₂ : Touches [.rcu] s₁ s₂ := .ite (log_touch ..) (.ite (log_touch ..) (.refl _ _))
  exact h₁.seq (h₂.seq (Touches.ite (notify_touch ..) (.refl _ _)))

theorem stopTaken_touch (b : Bool) (s : State) : Touches [.pmu, .rcu, .lnk] s (s.stopTaken b) :=
  .ite (.refl _ s) (evalPermit_touch .stop s)

theorem stopChange_touch (f : Lsl → Lsl) (s : State) : Touches [.lsl, .rcu, .lnk, .pmu] s (s.stopChange f) :=
  ((stopEvaluated_touch f s).seq (stopTaken_touch s.lsl.line _)).mono

theorem counterCause_touch (b : Bool) (s : State) : Touches [.lsl, .rcu, .lnk] s (s.counterCause b) := stopEvaluated_touch _ s

theorem emergencyReport_touch (b : Bool) (s : State) : Touches [.lsl, .rcu, .lnk, .pmu] s (s.emergencyReport b) :=
  stopChange_touch _ s

theorem evalAlarm_touch (s : State) : Touches [.lsl] s s.evalAlarm := touch_lsl s _

theorem setCause_touch (g : AlarmGroup) (b : Bool) (s : State) : Touches [.lsl] s (s.setCause g b) :=
  (touch_lsl s _).trans (evalAlarm_touch _)

theorem startPulse_touch (s : State) : Touches [.lsl] s s.startPulse := .ite (touch_lsl s _) (.refl _ s)

theorem alarmEvent_touch (g : AlarmGroup) (a b : Nat) (s : State) : Touches [.lsl, .rcu, .lnk] s (s.alarmEvent g a b) := by
  unfold alarmEvent
  extract_lets m s₁ s₂ s₃ s₄
  have h₁ : Touches [.lsl] s s₁ := .ite (.refl _ s) (touch_lsl s _)
  have h₂ : Touches [.rcu] s₁ s₂ := log_touch ..
  have h₃ : Touches [.lnk] s₂ s₃ := notify_touch ..
  have h₄ : Touches [.lsl] s₃ s₄ := .ite (.refl _ _) (startPulse_touch _)
  exact (h₁.seq (h₂.seq (h₃.seq (h₄.seq (evalAlarm_touch s₄))))).mono

theorem paceCause_touch (s : State) : Touches [.lsl] s s.paceCause := setCause_touch ..

theorem counterLowReport_touch (b : Bool) (s : State) : Touches [.lsl, .rcu, .lnk] s (s.counterLowReport b) := by
  unfold counterLowReport
  extract_lets _ s₁
  have h : Touches [.lsl] s s₁ := (touch_lsl s _).trans (paceCause_touch _)
  exact .ite (h.seq (alarmEvent_touch ..)).mono h.mono

theorem paceReport_touch (b : Bool) (n : Nat) (s : State) : Touches [.lsl, .rcu, .lnk] s (s.paceReport b n) := by
  unfold paceReport
  extract_lets _ s₁
  have h : Touches [.lsl] s s₁ := (touch_lsl s _).trans (paceCause_touch _)
  exact .ite (h.seq (alarmEvent_touch ..)).mono h.mono

theorem attendanceReport_touch (f : StatusFlag) (s : State) : Touches [.lsl, .rcu, .lnk] s (s.attendanceReport f) :=
  alarmEvent_touch ..

theorem faultReport_touch (e : Equipment) (s : State) : Touches [.lsl, .rcu, .lnk] s (s.faultReport e) :=
  .ite (.refl _ s) (((touch_lsl s _).seq ((setCause_touch ..).seq (alarmEvent_touch ..))).mono)

theorem faultWithdraw_touch (e : Equipment) (s : State) : Touches [.lsl] s (s.faultWithdraw e) :=
  .ite ((touch_lsl s _).trans (setCause_touch ..)) (.refl _ s)

/-! ### Permit -/

theorem setFlag_touch (f : StatusFlag) (s : State) : Touches [.pmu] s (s.setFlag f) := touch_pmu s _

theorem setCounter_touch (n : Nat) (s : State) : Touches [.pmu] s (s.setCounter n) := touch_pmu s _

theorem reportConditions_touch (s : State) : Touches [.pmu, .lsl, .rcu, .lnk] s s.reportConditions := by
  unfold reportConditions
  extract_lets low zero wasLow wasZero _ s₁ s₂
  have h₁ : Touches [.pmu] s s₁ := touch_pmu s _
  have h₂ : Touches [.lsl, .rcu, .lnk] s₁ s₂ := .ite (.refl _ _) (counterLowReport_touch ..)
  exact h₁.seq (h₂.trans (Touches.ite (.refl _ s₂) (counterCause_touch zero s₂)))

theorem counterSettled_touch (h : Bool) (s : State) : Touches [.pmu, .lsl, .rcu, .lnk] s (s.counterSettled h) := by
  unfold counterSettled
  extract_lets was line s₁ _ s₂ s₃ s₄
  have h₁ : Touches [.pmu] s s₁ := .ite (setFlag_touch ..) (.refl _ s)
  have h₂ : Touches [.pmu] s₁ s₂ := touch_pmu s₁ _
  have h₃ : Touches [.pmu, .lsl, .rcu, .lnk] s₂ s₃ := reportConditions_touch s₂
  have h₄ : Touches [.pmu, .rcu, .lnk] s₃ s₄ := .ite (.refl _ _) (evalPermit_touch ..)
  exact (h₁.seq (h₂.seq (h₃.seq (h₄.seq (stopTaken_touch line s₄))))).mono

theorem permitEvent_touch (g : Bool) (s : State) : Touches [.pmu, .lsl, .rcu, .lnk] s (s.permitEvent g) :=
  .ite (.refl _ s) (((setCounter_touch ..).seq (counterSettled_touch ..)).mono)

theorem attendanceBad_touch (f : StatusFlag) (e : Nat) (b : Bool) (s : State) :
    Touches [.lsl, .rcu, .lnk] s (s.attendanceBad f e b) :=
  ((attendanceReport_touch f s).seq (log_touch ..)).mono

theorem attendanceEvent_touch (f : StatusFlag) (e : Nat) (s : State) :
    Touches [.pmu, .lsl, .rcu, .lnk] s (s.attendanceEvent f e) :=
  ((setFlag_touch f s).seq ((setCounter_touch ..).seq ((attendanceBad_touch ..).seq (counterSettled_touch ..)))).mono

theorem challengeDue_touch (s : State) : Touches [.pmu, .lnk] s s.challengeDue := by
  unfold challengeDue
  split
  · exact ((touch_pmu s _).seq (notify_touch ..)).mono
  · exact .refl _ s

theorem startChallengeTimer_touch (s : State) : Touches [.pmu, .lnk] s s.startChallengeTimer :=
  ((touch_pmu s _).seq (Touches.ite (l := [.pmu, .lnk]) (challengeDue_touch _) (.refl _ _))).mono

theorem startAnswerTimer_touch (s : State) : Touches [.pmu] s s.startAnswerTimer := touch_pmu s _

theorem tripCheck_touch (f : StatusFlag) (n : Nat) (s : State) : Touches [.pmu, .lsl, .rcu, .lnk] s (s.tripCheck f n) :=
  ((touch_pmu s _).seq ((setFlag_touch ..).seq ((setCounter_touch ..).seq ((attendanceBad_touch ..).seq
    (counterSettled_touch ..))))).mono

/-! ### Records -/

theorem stepEnd_touch (x : StepRec) (o : StepOutcome) (d : Disposition) (s : State) : Touches [.rcu] s (s.stepEnd x o d) :=
  (log_touch ..).trans (touch_rcu _ _)

theorem bandMemory_touch (r : ConditionRecord) (s : State) : Touches [.rcu] s (s.bandMemory r) :=
  (Touches.ite (log_touch ..) (.refl _ s)).trans (touch_rcu _ _)

theorem recordsTake_touch (r : ConditionRecord) (s : State) : Touches [.rcu] s (s.recordsTake r) :=
  (bandMemory_touch r s).trans (touch_rcu _ _)

/-! ### Engine -/

theorem beginCurrent_touch (s : State) : Touches [.cen] s s.beginCurrent := touch_cen s _

theorem beginPrediction_touch (s : State) : Touches [.cen] s s.beginPrediction := by
  unfold beginPrediction
  split
  · exact .refl _ s
  · exact touch_cen s _

theorem requestRecompute_touch (s : State) : Touches [.cen] s s.requestRecompute := by
  unfold requestRecompute
  split <;> [skip; split]
  all_goals first | exact .refl _ s | exact beginCurrent_touch s | exact touch_cen s _

theorem queuePrediction_touch (r : PredictionRequest) (s : State) : Touches [.cen] s (s.queuePrediction r) :=
  (touch_cen s _).trans (.ite (beginPrediction_touch _) (.refl _ _))

theorem chooseNext_touch (b : Bool) (s : State) : Touches [.cen] s (s.chooseNext b) :=
  (touch_cen s _).trans (.ite (beginPrediction_touch _) (.ite (beginCurrent_touch _) (beginPrediction_touch _)))

theorem bandRise_touch (r : ConditionRecord) (was : Band) (s : State) :
    Touches [.pmu, .lsl, .rcu, .lnk] s (s.bandRise r was) :=
  .ite (permitEvent_touch ..) (.refl _ s)

theorem bandNotice_touch (r : ConditionRecord) (s : State) : Touches [.lnk] s (s.bandNotice r) :=
  .ite (notify_touch ..) (.refl _ s)

theorem groupRecord_touch (g : AlarmGroup) (a b : BandClass) (r : ConditionRecord) (v : Vector Band 7) (s : State) :
    Touches [.lsl, .rcu, .lnk] s (s.groupRecord g a b r v) :=
  ((setCause_touch ..).seq (Touches.ite (l := [.lsl, .rcu, .lnk]) (alarmEvent_touch ..) (.refl _ _))).mono

theorem conditionRecord_touch (r : ConditionRecord) (s : State) : Touches [.lsl, .rcu, .lnk] s (s.conditionRecord r) :=
  stopEvaluated_touch _ s

theorem limitsHandle_touch (r : ConditionRecord) (s : State) : Touches [.lsl, .rcu, .lnk] s (s.limitsHandle r) :=
  ((bandNotice_touch r s).seq ((groupRecord_touch ..).seq ((groupRecord_touch ..).seq
    ((conditionRecord_touch ..).seq (touch_lsl _ _))))).mono

theorem limitsTake_touch (r : ConditionRecord) (s : State) : Touches [.pmu, .lsl, .rcu, .lnk] s (s.limitsTake r) :=
  ((limitsHandle_touch r s).seq ((bandRise_touch ..).seq (stopTaken_touch ..))).mono

theorem deliver_touch (r : ConditionRecord) (s : State) : Touches [.choices, .pmu, .lsl, .rcu, .lnk] s (s.deliver r) := by
  unfold deliver
  refine (Touches.seq (m := [.pmu, .lsl, .rcu, .lnk]) (choose_touch Config.recordsFirst s) ?_).mono
  exact .ite (((recordsTake_touch ..).seq (limitsTake_touch ..)).mono)
    (((limitsTake_touch ..).seq (recordsTake_touch ..)).mono)

theorem putRecord_touch (r : ConditionRecord) (s : State) :
    Touches [.cen, .ptr, .choices, .pmu, .lsl, .rcu, .lnk] s (s.putRecord r) := by
  unfold putRecord
  refine Touches.trans (Touches.mono (l := [.cen, .ptr]) ?_) (deliver_touch r _).mono
  exact ⟨fun p hp => by cases p <;> first | rfl | exact absurd (by decide) hp⟩

end Sys2Proof.Machine
end

