-- ==== Sys2Proof/Laws/PlantTouch.lean ====
section
/-! SUPPORT. The frames of the shared operations of Plant. -/

namespace Sys2Proof.Machine

/- Each proof is checked before the next is begun: checked side by side, they take a thread each. -/
set_option Elab.async false

open State

/-! ### Records of steps, pumps and valves -/

theorem setStep_touch (k : SlotNo) (x : StepRec) (s : State) : Touches [.tsq] s (s.setStep k x) := touch_tsq s _
theorem setPump_touch (p : PumpNo) (y : Pump) (s : State) : Touches [.pva] s (s.setPump p y) := touch_pva s _
theorem setValve_touch (v : ValveNo) (y : Valve) (s : State) : Touches [.pva] s (s.setValve v y) := touch_pva s _

theorem enterState_touch (k : SlotNo) (x : StepRec) (s : State) : Touches [.tsq, .lnk] s (s.enterState k x) :=
  (setStep_touch k x s).seq (notify_touch ..)

theorem openValve_touch (v : ValveNo) (s : State) : Touches [.pva] s (s.openValve v) := setValve_touch ..
theorem closeValve_touch (v : ValveNo) (s : State) : Touches [.pva] s (s.closeValve v) := setValve_touch ..
theorem closeValves_touch (l : List ValveNo) (s : State) : Touches [.pva] s (s.closeValves l) :=
  .foldl (fun s v => closeValve_touch v s) l s
theorem haltPump_touch (p : PumpNo) (s : State) : Touches [.pva] s (s.haltPump p) := setPump_touch ..

theorem offer_touch (s : State) : Touches [.pva] s s.offer := by
  refine .foldl (fun s k => ?_) _ s
  split
  · exact .ite (touch_pva s _) (.refl _ s)
  · exact .refl _ s

theorem leaveWaiting_touch (n : Nat) (s : State) : Touches [.pva] s (s.leaveWaiting n) :=
  (touch_pva s _).trans (offer_touch _)

theorem forSteps_touch {l : List Part} (which : StepRec → Bool) (act : SlotNo → State → State)
    (h : ∀ k s, Touches l s (act k s)) (s : State) : Touches l s (s.forSteps which act) := by
  refine .foldl (fun s k => ?_) _ s
  split
  · exact .ite (h k s) (.refl _ s)
  · exact .refl _ s

/-! ### Removal and winding down -/

theorem removeStep_touch (k : SlotNo) (x : StepRec) (o : StepOutcome) (d : Disposition) (s : State) :
    Touches [.tsq, .rcu, .lnk] s (s.removeStep k x o d) :=
  (touch_tsq s _).seq ((stepEnd_touch x o d _).seq (notify_touch ..))

theorem dropStep_touch (k : SlotNo) (x : StepRec) (o : StepOutcome) (s : State) :
    Touches [.tsq, .rcu, .lnk, .pva] s (s.dropStep k x o) :=
  (removeStep_touch k x o .cancelled s).seq (Touches.ite (leaveWaiting_touch x.number _) (.refl _ _))

theorem settleMode_touch (s : State) : Touches [.pva] s s.settleMode := .ite (.refl _ s) (touch_pva s _)

theorem releasePump_touch (x : StepRec) (s : State) : Touches [.pva] s (s.releasePump x) := by
  unfold releasePump
  split
  · exact .refl _ s
  · exact .ite (setPump_touch ..) (.refl _ s)

theorem checkClosed_touch (k : SlotNo) (s : State) : Touches [.tsq, .rcu, .lnk, .pva] s (s.checkClosed k) := by
  unfold checkClosed
  split
  · exact .refl _ s
  · rename_i x _
    refine .ite ?_ (.refl _ s)
    extract_lets o s₁
    have h : Touches [.tsq, .rcu, .lnk, .pva] s s₁ := (removeStep_touch k x o _ s).seq (releasePump_touch x _)
    exact .ite (h.trans (settleMode_touch s₁).mono) h

theorem closeLineup_touch (k : SlotNo) (s : State) : Touches [.pva] s (s.closeLineup k) := by
  unfold closeLineup
  split
  · exact .refl _ s
  · exact closeValves_touch ..

theorem closeCheck_touch (k : SlotNo) (s : State) :
    Touches [.tsq, .rcu, .lnk, .pva] s ((s.closeLineup k).checkClosed k) :=
  (closeLineup_touch k s).mono.trans (checkClosed_touch k _)

theorem plantWindDown_touch (k : SlotNo) (x : StepRec) (s : State) :
    Touches [.tsq, .rcu, .lnk, .pva] s (s.plantWindDown k x) := by
  unfold plantWindDown
  split
  · exact .refl _ s
  · exact .ite (setPump_touch ..).mono (closeCheck_touch k s)

theorem windDown_touch (k : SlotNo) (o : StepOutcome) (s : State) : Touches [.tsq, .rcu, .lnk, .pva] s (s.windDown k o) := by
  unfold windDown
  split
  · exact .refl _ s
  · exact .ite ((enterState_touch k _ s).mono.trans (plantWindDown_touch k _ _)) (.refl _ s)

theorem endStep_touch (k : SlotNo) (o : StepOutcome) (s : State) : Touches [.tsq, .rcu, .lnk, .pva] s (s.endStep k o) := by
  unfold endStep
  split
  · exact .refl _ s
  · exact .ite (dropStep_touch ..) (windDown_touch ..)

/-! ### Grants -/

theorem grant_touch (p : PumpNo) (k : SlotNo) (s : State) : Touches [.pva, .tsq, .lnk] s (s.grant p k) := by
  unfold grant
  split
  · exact .refl _ s
  · rename_i x _
    extract_lets a n _ y s₁ s₂ s₃
    have h₁ : Touches [.pva] s s₁ := touch_pva s _
    have h₂ : Touches [.pva] s₁ s₂ := .foldl (fun s v => openValve_touch v s) _ s₁
    have h₃ : Touches [.tsq, .lnk] s₂ s₃ := enterState_touch ..
    exact (h₁.seq (h₂.seq (h₃.seq (leaveWaiting_touch x.number s₃)))).mono

theorem decidePump_touch (f : StepRec → Bool) (p : PumpNo) (s : State) : Touches [.pva, .tsq, .lnk] s (s.decidePump f p) := by
  unfold decidePump
  split
  · exact .refl _ s
  · exact grant_touch ..

theorem decideAll_touch (f : StepRec → Bool) (s : State) : Touches [.pva, .tsq, .lnk] s (s.decideAll f) :=
  (decidePump_touch f 0 s).trans ((decidePump_touch f 1 _).trans (decidePump_touch f 2 _))

theorem grantsBut_touch (f : StepRec → Bool) (s : State) : Touches [.pva, .tsq, .lnk] s (s.grantsBut f) :=
  (decideAll_touch f s).trans ((decideAll_touch f _).trans (decideAll_touch f _))

theorem grants_touch (s : State) : Touches [.pva, .tsq, .lnk] s s.grants := grantsBut_touch _ s

theorem endSteps_touch (f : StepRec → Bool) (o : StepOutcome) (s : State) :
    Touches [.tsq, .rcu, .lnk, .pva] s (s.endSteps f o) :=
  forSteps_touch _ _ (fun k s => (endStep_touch k o s).trans (grantsBut_touch f _).mono) s

/-! ### Locks and faults -/

theorem lockTank_touch (t : TankNo) (why : Lock) (s : State) :
    Touches [.tanks, .tsq, .rcu, .lnk, .pva, .cen] s (s.lockTank t why) := by
  unfold lockTank
  extract_lets _ s₁ s₂
  have h₁ : Touches [.tanks] s s₁ := touch_tanks s _
  have h₂ : Touches [.rcu] s₁ s₂ := log_touch ..
  exact (h₁.seq (h₂.seq ((endSteps_touch _ .locked s₂).seq (requestRecompute_touch _)))).mono

theorem failedToClose_touch (v : ValveNo) (s : State) :
    Touches [.tanks, .tsq, .rcu, .lnk, .pva, .cen] s (s.failedToClose v) := by
  unfold failedToClose
  split
  · exact .refl _ s
  · exact .ite (.refl _ s) (lockTank_touch ..)

theorem markValve_touch (v : ValveNo) (s : State) : Touches [.pva] s (s.markValve v) := setValve_touch ..

theorem reportValve_touch (v : ValveNo) (why : ValveCause) (n : Nat) (s : State) :
    Touches [.lsl, .rcu, .lnk] s (s.reportValve v why n) :=
  (faultReport_touch (.valve v) s).trans (log_touch ..).mono

theorem markStep_touch (k : SlotNo) (s : State) : Touches [.tsq] s (s.markStep k) := by
  unfold markStep
  split
  · exact .ite (setStep_touch ..) (.refl _ s)
  · exact .refl _ s

theorem lineupFailed_touch (k : SlotNo) (v : ValveNo) (why : ValveCause) (n : Nat) (s : State) :
    Touches [.tsq, .rcu, .lnk, .pva, .lsl] s (s.lineupFailed k v why n) :=
  ((markValve_touch v s).seq ((closeLineup_touch k _).seq ((reportValve_touch v why n _).seq (windDown_touch k .valve _)))).mono

theorem pumpFault_touch (p : PumpNo) (why : PumpCause) (s : State) :
    Touches [.tsq, .rcu, .lnk, .pva, .lsl] s (s.pumpFault p why) := by
  unfold pumpFault
  extract_lets n k s₁ s₂
  have h₁ : Touches [.pva] s s₁ := setPump_touch ..
  have h₂ : Touches [.lsl, .rcu, .lnk] s₁ s₂ := (faultReport_touch (.pump p) s₁).trans (log_touch ..).mono
  have h : Touches [.tsq, .rcu, .lnk, .pva, .lsl] s s₂ := (h₁.seq h₂).mono
  clear_value k
  split
  · exact h
  · split
    · exact h
    · refine h.trans (.ite ?_ (windDown_touch _ .pump s₂).mono)
      exact ((markStep_touch _ s₂).seq (closeCheck_touch _ _)).mono

/-! ### Running -/

theorem testStep_touch (k : SlotNo) (t : TankNo) (s : State) : Touches [.tsq, .rcu, .lnk, .pva] s (s.testStep k t) := by
  unfold testStep
  split
  · exact .refl _ s
  · refine .ite ?_ (.refl _ s)
    split
    · exact windDown_touch ..
    · exact .refl _ s

theorem levelPassed_touch (t : TankNo) (s : State) : Touches [.tsq, .rcu, .lnk, .pva] s (s.levelPassed t) :=
  (forSteps_touch _ _ (fun k s => testStep_touch k t s) s).trans (offer_touch _).mono

theorem tankStale_touch (t : TankNo) (s : State) : Touches [.tsq, .rcu, .lnk, .pva] s (s.tankStale t) :=
  (forSteps_touch _ _ (fun k s => windDown_touch k .stale s) s).trans (offer_touch _).mono

theorem boundsPassed_touch (t : TankNo) (s : State) : Touches [.tsq, .rcu, .lnk, .pva] s (s.boundsPassed t) :=
  (endSteps_touch _ .bound s).trans
    (forSteps_touch _ _ (fun k s => testStep_touch k t s) _)

theorem checkRamp_touch (k : SlotNo) (s : State) : Touches [.tsq, .rcu, .lnk, .pva] s (s.checkRamp k) := by
  unfold checkRamp
  split
  · exact .refl _ s
  · rename_i x _
    split
    · exact .refl _ s
    · extract_lets y
      split
      · rename_i s₁ s₂ _
        have h₁ : Touches [.pva] s s₁ := .ite (.refl _ s) (setPump_touch ..)
        have h₂ : Touches [.tsq, .lnk] s₁ s₂ := enterState_touch ..
        exact (h₁.seq (h₂.seq (Touches.foldl (fun s t => testStep_touch k t s) x.tanks s₂))).mono
      · exact .refl _ s

theorem checkLineup_touch (k : SlotNo) (s : State) : Touches [.tsq, .lnk, .pva] s (s.checkLineup k) := by
  unfold checkLineup
  split
  · exact .refl _ s
  · split
    · exact .refl _ s
    · exact .ite ((enterState_touch k _ s).mono.trans (setPump_touch ..).mono) (.refl _ s)

/-! ### Feedback and flow -/

theorem judgeAtRest_touch (v : ValveNo) (was : Proved) (s : State) :
    Touches [.tsq, .rcu, .lnk, .pva, .lsl, .tanks, .cen] s (s.judgeAtRest v was) := by
  have h (c : ValveCause) (n : Nat) :
      Touches [.tsq, .rcu, .lnk, .pva, .lsl, .tanks, .cen] s ((s.markValve v).reportValve v c n) :=
    ((markValve_touch v s).seq (reportValve_touch v c n _)).mono
  unfold judgeAtRest
  refine .ite (.ite ?_ (.refl _ s)) (.ite ((h ..).trans (failedToClose_touch v _).mono) (.refl _ s))
  split
  · exact .refl _ s
  · split
    · exact (lineupFailed_touch ..).mono
    · exact (h ..).trans (markStep_touch ..).mono
    · exact h ..

theorem valveFeedback_touch (v : ValveNo) (a : Bool) (s : State) :
    Touches [.tsq, .rcu, .lnk, .pva, .lsl, .tanks, .cen] s (s.valveFeedback v a) := by
  unfold valveFeedback
  extract_lets y was y₁ s₁
  have h₁ : Touches [.tsq, .rcu, .lnk, .pva, .lsl, .tanks, .cen] s s₁ := (setValve_touch ..).mono
  have h₂ : Touches [.tsq, .rcu, .lnk, .pva, .lsl, .tanks, .cen] s (s₁.setValve v { y₁ with watch := .absent }) :=
    h₁.trans (setValve_touch ..).mono
  split
  · refine .ite ?_ h₁
    split
    · exact h₂.trans (checkLineup_touch ..).mono
    · exact h₂
  · refine .ite h₁ ?_
    split
    · exact h₂.trans (checkClosed_touch ..).mono
    · exact h₂
  · exact .ite h₁ (h₁.trans (judgeAtRest_touch ..))

theorem runFeedback_touch (p : PumpNo) (a : Bool) (s : State) :
    Touches [.tsq, .rcu, .lnk, .pva, .lsl] s (s.runFeedback p a) := by
  unfold runFeedback
  extract_lets y was y₁ s₁
  have h₁ : Touches [.tsq, .rcu, .lnk, .pva, .lsl] s s₁ := (setPump_touch ..).mono
  have h₂ : Touches [.tsq, .rcu, .lnk, .pva, .lsl] s (s₁.setPump p { y₁ with watch := .absent }) :=
    h₁.trans (setPump_touch ..).mono
  refine .ite h₁ ?_
  split
  · refine .ite ?_ h₁
    split
    · exact h₂.trans (checkRamp_touch ..).mono
    · exact h₂
  · exact .ite h₁ h₂
  · exact .ite (.ite (h₁.trans (pumpFault_touch ..)) h₁) (.ite (h₁.trans (pumpFault_touch ..)) h₁)

theorem countLitres_touch (p : PumpNo) (s : State) : Touches [.tsq] s (s.countLitres p) := by
  unfold countLitres
  split
  · exact .refl _ s
  · exact setStep_touch ..

theorem judgePulse_touch (p : PumpNo) (i : Option Nat) (s : State) :
    Touches [.pva, .lsl, .rcu, .lnk] s (s.judgePulse p i) := by
  unfold judgePulse
  split
  · exact .refl _ s
  · exact .ite ((setPump_touch p _ s).seq ((faultReport_touch (.meter p) _).trans (log_touch ..).mono)) (.refl _ s)

theorem restartFlow_touch (p : PumpNo) (s : State) : Touches [.pva] s (s.restartFlow p) :=
  .ite (setPump_touch ..) (.refl _ s)

theorem pulse_touch (p : PumpNo) (i : Option Nat) (s : State) : Touches [.pva, .lsl, .rcu, .lnk, .tsq] s (s.pulse p i) :=
  ((judgePulse_touch p i s).seq ((restartFlow_touch p _).seq (countLitres_touch p _))).mono

end Sys2Proof.Machine
end

