-- ==== Sys2Proof/Laws/CommandTouch.lean ====
section
/-! SUPPORT. The frames of the shared operations of Metering and Admission, and of what the commands do besides them. -/

namespace Sys2Proof.Machine

/- Each proof is checked before the next is begun: checked side by side, they take a thread each. -/
set_option Elab.async false

open State

/-! ### Metering -/

theorem setChannel_touch (ch : ChannelNo) (r : ChannelRun) (s : State) : Touches [.fcu] s (s.setChannel ch r) := touch_fcu s _
theorem setTank_touch (t : TankNo) (x : TankRun) (s : State) : Touches [.tanks] s (s.setTank t x) := touch_tanks s _

theorem figures_touch (t : TankNo) (n : Nat) (s : State) : Touches [.tanks, .lsl, .rcu, .lnk] s (s.figures t n) := by
  unfold figures
  extract_lets was x s₁
  have h : Touches [.tanks, .lsl, .rcu, .lnk] s s₁ := (setTank_touch ..).mono
  exact .ite h (.ite (h.trans (faultReport_touch ..).mono) (h.trans (faultWithdraw_touch ..).mono))

theorem deliverLevel_touch (t : TankNo) (n : Nat) (s : State) :
    Touches [.tanks, .lsl, .rcu, .lnk, .tsq, .pva] s (s.deliverLevel t n) :=
  .ite (setTank_touch ..).mono ((figures_touch t n s).mono.trans (levelPassed_touch ..).mono)

theorem updateTanks_touch (s : State) : Touches [.tanks, .lsl, .rcu, .lnk] s s.updateTanks :=
  .foldl (fun s t => figures_touch t _ s) _ s

theorem goStale_touch (ch : Option ChannelNo) (t : TankNo) (s : State) :
    Touches [.tanks, .lsl, .rcu, .lnk, .tsq, .pva] s (s.goStale ch t) := by
  unfold goStale
  extract_lets _ s₁ s₂ s₃
  have h₁ : Touches [.tanks] s s₁ := setTank_touch ..
  have h₂ : Touches [.rcu] s₁ s₂ := log_touch ..
  have h₃ : Touches [.lnk] s₂ s₃ := notify_touch ..
  exact (h₁.seq (h₂.seq (h₃.seq ((faultReport_touch (.sensor t) s₃).seq (tankStale_touch t _))))).mono

theorem goValid_touch (ch : Option ChannelNo) (t : TankNo) (n : Option Nat) (s : State) :
    Touches [.tanks, .lsl, .rcu, .lnk, .tsq, .pva] s (s.goValid ch t n) := by
  unfold goValid
  extract_lets _ s₁ s₂ s₃ s₄
  have h₁ : Touches [.tanks] s s₁ := setTank_touch ..
  have h₂ : Touches [.tanks, .lsl, .rcu, .lnk, .tsq, .pva] s₁ s₂ := by
    cases n
    · exact .refl _ s₁
    · exact deliverLevel_touch t _ s₁
  have h₃ : Touches [.rcu] s₂ s₃ := log_touch ..
  have h₄ : Touches [.lnk] s₃ s₄ := notify_touch ..
  exact (h₁.seq (h₂.seq (h₃.seq (h₄.seq (faultWithdraw_touch (.sensor t) s₄))))).mono

theorem looseChange_touch (ch : ChannelNo) (b : Bool) (s : State) : Touches [.rcu, .lnk] s (s.looseChange ch b) :=
  (log_touch _ _ s).seq (notify_touch ..)

theorem rebindTank_touch (t : TankNo) (s : State) : Touches [.tanks, .lsl, .rcu, .lnk, .tsq, .pva] s (s.rebindTank t) :=
  .ite (.refl _ s) (.ite (goStale_touch ..) (goValid_touch ..))

theorem rebindTanks_touch (s : State) : Touches [.tanks, .lsl, .rcu, .lnk, .tsq, .pva] s s.rebindTanks :=
  .foldl (fun s t => rebindTank_touch t s) _ s

theorem sampleChannel_touch (ch : ChannelNo) (raw : Sample) (s : State) :
    Touches [.fcu, .tanks, .lsl, .rcu, .lnk, .tsq, .pva] s (s.sampleChannel ch raw) := by
  have h (r : ChannelRun) : Touches [.fcu, .tanks, .lsl, .rcu, .lnk, .tsq, .pva] s (s.setChannel ch r) :=
    (setChannel_touch ..).mono
  unfold sampleChannel
  split
  · extract_lets level last
    split
    · exact h _
    · extract_lets
      split
      · exact (h _).trans (deliverLevel_touch ..).mono
      · exact h _
    · extract_lets
      split
      · exact (h _).trans (goValid_touch ..).mono
      · exact (h _).trans (looseChange_touch ..).mono
    · split
      · exact (h _).trans (goStale_touch ..).mono
      · exact (h _).trans (looseChange_touch ..).mono
  · exact .refl _ s

theorem scan_touch (v : Vector Sample 48) (s : State) :
    Touches [.fcu, .tanks, .lsl, .rcu, .lnk, .tsq, .pva, .cen] s (s.scan v) := by
  exact (Touches.foldl (fun s ch => (sampleChannel_touch ch _ s).trans (grants_touch _).mono) _ s).seq
    (requestRecompute_touch _)

theorem nextPeriod_touch (s : State) : Touches [.fcu] s s.nextPeriod := touch_fcu s _

theorem deliverSwitch_touch (ch : ChannelNo) (a : Bool) (s : State) :
    Touches [.tsq, .rcu, .lnk, .pva, .lsl, .tanks, .cen] s (s.deliverSwitch ch a) :=
  (Touches.foldl (fun s p => (runFeedback_touch p a s).mono.trans (grants_touch _).mono) _ s).trans
    (.foldl (fun s v => (valveFeedback_touch v a s).trans (grants_touch _).mono) _ _)

theorem contactChange_touch (ch : ChannelNo) (s : State) : Touches [.fcu] s (s.contactChange ch) := by
  unfold contactChange
  split
  · exact setChannel_touch ..
  · exact .refl _ s

theorem debounced_touch (ch : ChannelNo) (s : State) :
    Touches [.fcu, .tsq, .rcu, .lnk, .pva, .lsl, .tanks, .cen] s (s.debounced ch) := by
  have h (r : ChannelRun) : Touches [.fcu, .tsq, .rcu, .lnk, .pva, .lsl, .tanks, .cen] s (s.setChannel ch r) :=
    (setChannel_touch ..).mono
  unfold debounced
  split
  · exact .ite (.refl _ s) (.ite ((h _).trans (deliverSwitch_touch ..).mono)
      (.ite ((h _).trans (notify_touch ..).mono) (h _)))
  · exact .refl _ s

theorem bindPump_touch (p : PumpNo) (ch : ChannelNo) (s : State) :
    Touches [.tsq, .rcu, .lnk, .pva, .lsl] s (s.bindPump p ch) := by
  unfold bindPump
  split
  · exact .refl _ s
  · exact runFeedback_touch ..
  · exact (setPump_touch ..).mono

theorem bindValve_touch (v : ValveNo) (ch : ChannelNo) (s : State) :
    Touches [.tsq, .rcu, .lnk, .pva, .lsl, .tanks, .cen] s (s.bindValve v ch) := by
  unfold bindValve
  split
  · exact .refl _ s
  · exact valveFeedback_touch ..
  · exact (setValve_touch ..).mono

theorem countPulse_touch (ch : ChannelNo) (s : State) :
    Touches [.fcu, .pva, .lsl, .rcu, .lnk, .tsq] s (s.countPulse ch) := by
  unfold countPulse
  split
  · exact (setChannel_touch ..).mono.trans (.foldl (fun s p => (pulse_touch p _ s).mono) _ _)
  · exact .refl _ s

/-! ### Admission -/

theorem reserveStep_touch (r : StepRequest) (k : SlotNo) (reply : ReplyNo) (s : State) :
    Touches [.tsq, .cen] s (s.reserveStep r k reply) :=
  (touch_tsq s _).seq (queuePrediction_touch _ _)

theorem openGate_touch (k : SlotNo) (s : State) : Touches [.tsq, .lnk, .pva] s (s.openGate k) := by
  unfold openGate
  split
  · exact (enterState_touch ..).mono.trans ((offer_touch _).mono.trans (grants_touch _).mono)
  · exact .refl _ s

theorem takeEdge_touch (g : Gate) (s : State) : Touches [.tsq, .lnk, .pva] s (s.takeEdge g) :=
  forSteps_touch _ _ openGate_touch s

theorem refuseStep_touch (k : SlotNo) (x : StepRec) (why : Reason) (s : State) :
    Touches [.tsq, .rcu] s (s.refuseStep k x why) :=
  (touch_tsq s _).seq (log_touch ..)

theorem admitStep_touch (k : SlotNo) (x : StepRec) (reply : ReplyNo) (r : ConditionRecord) (s : State) :
    Touches [.tsq, .lnk, .pva] s (s.admitStep k x reply r) := by
  unfold admitStep
  extract_lets w y _ s₁ s₂ s₃
  have h₁ : Touches [.tsq] s s₁ := touch_tsq s _
  have h₂ : Touches [.tsq, .lnk] s₁ s₂ := enterState_touch ..
  have h₃ : Touches [.lnk] s₂ s₃ := reply_touch ..
  have h : Touches [.tsq, .lnk, .pva] s s₃ := (h₁.seq (h₂.seq h₃)).mono
  exact .ite (h.trans (offer_touch s₃).mono) h

theorem decideStep_touch (n : Nat) (reply : ReplyNo) (r : ConditionRecord) (s : State) :
    Touches [.tsq, .lnk, .pva, .rcu] s (s.decideStep n reply r) := by
  unfold decideStep
  split
  · exact .refl _ s
  · split
    · exact .refl _ s
    · split
      · exact (admitStep_touch ..).mono
      · exact (refuseStep_touch ..).mono.trans (reply_touch ..).mono

theorem abort_touch (why : Reason) (q : PredictionRequest) (s : State) : Touches [.lnk] s (s.abort why q) := by
  unfold abort
  split <;> exact reply_touch ..

theorem abortAll_touch (why : Reason) (s : State) : Touches [.lnk] s (s.abortAll why) :=
  .foldl (fun s q => abort_touch why q s) _ s

theorem removeChecking_touch (why : Reason) (s : State) : Touches [.tsq, .rcu] s (s.removeChecking why) := by
  refine .foldl (fun s k => ?_) _ s
  split
  · exact .refl _ s
  · exact refuseStep_touch k _ why s

theorem restartSteps_touch (s : State) : Touches [.tsq, .rcu, .lnk] s s.restartSteps := by
  refine (forSteps_touch _ _ (fun k s => ?_) s).trans (removeChecking_touch ..).mono
  split
  · exact removeStep_touch ..
  · exact .refl _ s

theorem restartEngine_touch (s : State) : Touches [.lnk, .cen] s s.restartEngine :=
  (abortAll_touch .restarted s).seq ((touch_cen _ _).trans (requestRecompute_touch _))

theorem abandonEngine_touch (s : State) : Touches [.lnk, .cen] s s.abandonEngine :=
  (abortAll_touch .aborted s).seq (touch_cen _ _)

theorem restartPlant_touch (s : State) : Touches [.pva] s s.restartPlant :=
  (Touches.foldl (fun s p => haltPump_touch p s) _ s).trans (closeValves_touch ..)

/-! ### The commands' own work -/

theorem writePump_touch (x : PumpNo × PumpConfig) (s : State) :
    Touches [.cfg, .tsq, .rcu, .lnk, .pva, .lsl] s (writePump x s) := by
  have h := (touch_cfg s { s.cfg with pumps := s.cfg.pumps.set x.1 x.2 }).mono (m := [.cfg, .tsq, .rcu, .lnk, .pva, .lsl])
  unfold writePump
  split
  · exact h
  · exact .ite h (h.trans (bindPump_touch ..).mono)

theorem writeValve_touch (x : ValveNo × ValveConfig) (s : State) :
    Touches [.cfg, .tsq, .rcu, .lnk, .pva, .lsl, .tanks, .cen] s (writeValve x s) := by
  have h := (touch_cfg s { s.cfg with valves := s.cfg.valves.set x.1 x.2 }).mono
    (m := [.cfg, .tsq, .rcu, .lnk, .pva, .lsl, .tanks, .cen])
  unfold writeValve
  split
  · exact h
  · exact .ite h (h.trans (bindValve_touch ..).mono)

theorem writeTank_touch (x : TankNo × TankConfig) (s : State) :
    Touches [.cfg, .tanks, .lsl, .rcu, .lnk, .tsq, .pva] s (writeTank x s) :=
  (touch_cfg s _).mono.trans (rebindTanks_touch _).mono

theorem writeChannel_touch (x : ChannelNo × ChannelConfig) (s : State) :
    Touches [.cfg, .fcu, .tanks, .lsl, .rcu, .lnk, .tsq, .pva] s (writeChannel x s) :=
  ((touch_cfg s _).seq ((setChannel_touch x.1 _ _).seq (rebindTanks_touch _))).mono

theorem takeBounds_touch (x : TankNo × Bounds) (s : State) :
    Touches [.cfg, .tsq, .rcu, .lnk, .pva, .cen] s (takeBounds x s) :=
  ((touch_cfg s _).seq ((boundsPassed_touch x.1 _).seq ((requestRecompute_touch _).seq (grants_touch _)))).mono

theorem takeBerth_touch (b : BerthLimits) (s : State) : Touches [.berth, .rcu, .cen] s (takeBerth b s) :=
  (touch_berth s _).seq ((log_touch ..).seq (requestRecompute_touch _))

theorem takeLock_touch (t : TankNo) (s : State) : Touches [.tanks, .tsq, .rcu, .lnk, .pva, .cen] s (takeLock t s) :=
  .ite ((lockTank_touch t .operator s).trans (grants_touch _).mono) (.refl _ s)

theorem unlockTank_touch (t : TankNo) (s : State) : Touches [.tanks, .rcu, .cen] s (s.unlockTank t) :=
  (setTank_touch t _ s).seq ((log_touch ..).seq (requestRecompute_touch _))

theorem paceEvent_touch (b : Bool) (s : State) : Touches [.pmu, .lsl, .rcu, .lnk] s (s.paceEvent b) :=
  (Touches.ite (.refl _ s) (setFlag_touch .paceLag s).mono).trans (permitEvent_touch b _)

theorem handPace_touch (b : Bool) (n : Nat) (s : State) : Touches [.choices, .pmu, .lsl, .rcu, .lnk] s (s.handPace b n) := by
  unfold handPace
  refine (Touches.seq (m := [.pmu, .lsl, .rcu, .lnk]) (choose_touch Config.limitsFirst s) ?_).mono
  exact .ite ((paceReport_touch (!b) n _).mono.trans (paceEvent_touch b _))
    ((paceEvent_touch b _).trans (paceReport_touch (!b) n _).mono)

theorem startCheck_touch (s : State) : Touches [.pmu, .lsl, .rcu, .lnk] s s.startCheck :=
  ((setCounter_touch _ s).seq ((counterSettled_touch _ _).seq (startAnswerTimer_touch _))).mono

theorem retime_touch (s : State) : Touches [.pmu, .lnk] s s.retime := by
  unfold retime
  split
  · exact .refl _ s
  · exact (startAnswerTimer_touch s).mono
  · exact (withdraw_touch .challengeDue s).mono.trans (startChallengeTimer_touch _)

theorem enterPhase_touch (d : Phase) (s : State) : Touches [.ccl, .pmu, .rcu, .lnk] s (s.enterPhase d) :=
  ((touch_ccl s _).seq ((evalPermit_touch .phase _).seq (log_touch ..))).mono

end Sys2Proof.Machine
end

