-- ==== Sys2Proof/Laws/Lines.lean ====
section
/-! SUPPORT. What the operations on the lines leave: LOADER PERMIT, LOADER STOP, the alarm groups and the equipment fault set. -/

namespace Sys2Proof.Machine

open State

/-- After its evaluation LOADER PERMIT is what R169 makes it, and nothing else of the permit unit has changed. -/
theorem evalPermit_pmu (c : PermitCause) (s : State) :
    (s.evalPermit c).pmu = { s.pmu with permit := permitLine s.ccl.phase s.pmu.hysteresis s.lsl.line } := by
  unfold evalPermit
  extract_lets line s₁ s₂
  split
  · rename_i h
    rw [show permitLine s.ccl.phase s.pmu.hysteresis s.lsl.line = s.pmu.permit from h]
  · exact (notify_touch ..).pmu.trans (log_touch ..).pmu

/-- LSL's own part of a change of causes or of the acknowledgement leaves LSL as R75 evaluates it. -/
theorem stopEvaluated_lsl (f : Lsl → Lsl) (s : State) : (s.stopEvaluated f).lsl = s.lsl.evaluated (f s.lsl) := by
  unfold stopEvaluated
  extract_lets old l s₁ s₂
  have h₂ : s₂.lsl = l := by
    show (ite _ _ _ : State).lsl = l
    split
    · exact (log_touch ..).lsl
    · split
      · exact (log_touch ..).lsl
      · rfl
  split
  · exact (notify_touch ..).lsl.trans h₂
  · exact h₂

/-- A change of causes or of the acknowledgement leaves LSL as R75 evaluates it. -/
theorem stopChange_lsl (f : Lsl → Lsl) (s : State) : (s.stopChange f).lsl = s.lsl.evaluated (f s.lsl) :=
  (stopTaken_touch ..).lsl.trans (stopEvaluated_lsl f s)

/-- Where LOADER STOP is no longer what it was, PMU evaluates LOADER PERMIT; else the permit unit is untouched (R75, R169). -/
theorem stopTaken_pmu (was : Bool) (s : State) :
    (s.stopTaken was).pmu =
      if s.lsl.line = was then s.pmu
      else { s.pmu with permit := permitLine s.ccl.phase s.pmu.hysteresis s.lsl.line } := by
  unfold stopTaken
  split
  · rfl
  · exact evalPermit_pmu .stop s

/-- A change of LOADER STOP has PMU evaluate LOADER PERMIT; without one the permit unit is untouched (R75, R169). -/
theorem stopChange_pmu (f : Lsl → Lsl) (s : State) :
    (s.stopChange f).pmu =
      if (s.lsl.evaluated (f s.lsl)).line ≠ s.lsl.line then
        { s.pmu with permit := permitLine s.ccl.phase s.pmu.hysteresis (s.lsl.evaluated (f s.lsl)).line }
      else s.pmu := by
  have h := stopEvaluated_touch f s
  rw [stopChange, stopTaken_pmu, stopEvaluated_lsl, h.pmu, h.ccl, ite_not]

/-- Setting or clearing a cause-present flag leaves ALARM as R82 makes it. -/
theorem setCause_lsl (g : AlarmGroup) (present : Bool) (s : State) :
    (s.setCause g present).lsl =
      let groups := s.lsl.groups.set g.ix { s.lsl.groups[g.ix] with causePresent := present }
      { s.lsl with groups := groups, alarmLine := alarmLine s.cfg.alarm groups s.lsl.pulseUntil } := rfl

/-- A log entry and a notice leave LSL, the tables and the clock alone. -/
theorem noted (k : EntryKind) (ps : List Nat) (n : Notice) (c : List Byte) (s : State) :
    ((s.log k ps).notify n c).lsl = s.lsl ∧ ((s.log k ps).notify n c).cfg = s.cfg ∧ ((s.log k ps).notify n c).now = s.now :=
  ⟨(notify_touch ..).lsl, (notify_touch ..).cfg, (notify_touch ..).now⟩

/-- An alarm event in a masked group changes no flag and starts no pulse (R78). -/
theorem alarmEvent_masked (g : AlarmGroup) (source item : Nat) (s : State) (h : s.cfg.alarm.masked[g.ix] = true) :
    (s.alarmEvent g source item).lsl =
      { s.lsl with alarmLine := alarmLine s.cfg.alarm s.lsl.groups s.lsl.pulseUntil } := by
  simp only [alarmEvent, evalAlarm, h, if_true, (noted ..).1, (noted ..).2.1]

/-- An alarm event in an unmasked group makes it unacknowledged and starts the pulse in PULSE mode; ALARM is as R82 makes it (R78, R82). -/
theorem alarmEvent_unmasked (g : AlarmGroup) (source item : Nat) (s : State) (h : s.cfg.alarm.masked[g.ix] = false) :
    (s.alarmEvent g source item).lsl =
      let groups := s.lsl.groups.set g.ix { s.lsl.groups[g.ix] with unacknowledged := true }
      let pulse := if s.cfg.alarm.mode = .pulse then some (s.now + seconds s.cfg.alarm.pulseLength) else s.lsl.pulseUntil
      { s.lsl with groups := groups, pulseUntil := pulse, alarmLine := alarmLine s.cfg.alarm groups pulse } := by
  by_cases hm : s.cfg.alarm.mode = .pulse <;>
    simp only [alarmEvent, evalAlarm, startPulse, h, hm, Bool.false_eq_true, if_false, if_true, (noted ..).1, (noted ..).2.1,
      (noted ..).2.2, Lsl.setGroup]

/-- A fault put in the set is there exactly when it was put there present, and every other fault stands as before (R81). -/
theorem put_has (x : FaultSet) (b : Bool) (e e' : Equipment) :
    (x.put b e).has e' = if e = e' then b else x.has e' := by
  cases e <;> cases e' <;> simp [FaultSet.put, FaultSet.has, Vector.getElem_set, Fin.ext_iff]

end Sys2Proof.Machine
end

