-- ==== Sys2Proof/Laws/Link.lean ====
section
/-! SUPPORT. What the shared operations of the link do: a reply, the transmitter, and a request served whole; and what an entry does to the log. -/

namespace Sys2Proof.Machine

/- Each proof is checked before the next is begun: checked side by side, they take a thread each. -/
set_option Elab.async false

open State

/-! ### Reply slots and replies -/

/-- The slot a request takes is the lowest-numbered FREE one (R191, log entry 37). -/
theorem freeSlot_spec {l : Lnk} {r : ReplyNo} (h : l.freeSlot = some r) :
    l.slots[r] = .free ∧ ∀ q : ReplyNo, q < r → l.slots[q] ≠ .free := by
  rw [Lnk.freeSlot, List.find?_eq_some_iff_getElem] at h
  obtain ⟨hr, i, hi, rfl, hlt⟩ := h
  refine ⟨by simpa using hr, fun q hq => ?_⟩
  have := hlt q.val (by simpa [Fin.lt_def] using hq)
  simpa using this

/-- A reply to a reserved slot fills it and stands last in turn (R193). -/
theorem reply_reserved {s : State} {r : ReplyNo} {kind : Byte} {tag : Tag} (h : s.lnk.slots[r] = .reserved kind tag)
    (st : Status) (body : List Byte) :
    s.reply r st body = { s with lnk := { s.lnk with
      slots := s.lnk.slots.set r (.filled kind tag st body), filled := s.lnk.filled ++ [r] } } := by
  simp only [reply, h]

/-! ### The transmitter -/

/-- Everything the transmitter can do at the end of a command: nothing, begin the reply first in turn, or begin a pending notice, whose place it empties (R196). -/
theorem transmit_cases (s : State) :
    s.transmit = s
    ∨ (∃ r rest kind tag st body, s.lnk.tx = .idle ∧ s.lnk.filled = r :: rest ∧ s.lnk.slots[r] = .filled kind tag st body
        ∧ s.transmit = { s with lnk := { s.lnk with
            filled := rest, tx := .reply r { cls := 2, kind := kind, tag := tag, body := u8 st.code ++ body } } })
    ∨ ∃ p f, s.lnk.tx = .idle ∧ s.lnk.filled = [] ∧ nextNotice s.lnk.notices = some p
        ∧ s.transmit = { s with lnk := { s.lnk with notices := s.lnk.notices.set p none, tx := .notice f } } := by
  unfold transmit
  split
  · split
    · split
      · exact .inr (.inl ⟨_, _, _, _, _, _, ‹_›, ‹_›, ‹_›, rfl⟩)
      · exact .inl rfl
    · split
      · exact .inl rfl
      · exact .inr (.inr ⟨_, _, ‹_›, ‹_›, ‹_›, rfl⟩)
  · exact .inl rfl

/-- A busy transmitter begins nothing (R196). -/
theorem transmit_busy {s : State} (h : s.lnk.tx ≠ .idle) : s.transmit = s := by
  rcases transmit_cases s with e | ⟨_, _, _, _, _, _, hi, _⟩ | ⟨_, _, hi, _⟩
  · exact e
  · exact absurd hi h
  · exact absurd hi h

/-- With a settled link the transmitter does nothing (R196). -/
theorem transmit_settled {s : State} (h : Settled s) : s.transmit = s := by
  rcases transmit_cases s with e | ⟨r, l, _, _, _, _, hi, hf, _⟩ | ⟨p, f, hi, _, hn, _⟩
  · exact e
  · simp [(h hi).1] at hf
  · have hnone : ∀ q : Fin 41, s.lnk.notices[q.val] = none := (h hi).2
    simp [nextNotice, hnone] at hn

/-- The transmitter keeps the assembler, the slots and the enabled kinds. -/
theorem transmit_link (s : State) :
    s.transmit.lnk.rx = s.lnk.rx ∧ s.transmit.lnk.slots = s.lnk.slots ∧ s.transmit.lnk.enabled = s.lnk.enabled := by
  rcases transmit_cases s with e | ⟨_, _, _, _, _, _, _, _, _, e⟩ | ⟨_, _, _, _, _, e⟩ <;> rw [e] <;> exact ⟨rfl, rfl, rfl⟩

/-- A waiting reply keeps every notice in its place (R196). -/
theorem transmit_notices {s : State} (h : s.lnk.filled ≠ []) : s.transmit.lnk.notices = s.lnk.notices := by
  rcases transmit_cases s with e | ⟨_, _, _, _, _, _, _, _, _, e⟩ | ⟨_, _, _, hf, _⟩
  · rw [e]
  · rw [e]
  · exact absurd hf h

/-! ### A request served whole -/

/-- The state in which a request is judged: the assembler in HUNT, the slot reserved (R190, R191). -/
def State.opened (r : ReplyNo) (kind : Byte) (tag : Tag) (s : State) : State :=
  { s with lnk := { s.lnk with rx := .hunt, slots := s.lnk.slots.set r (.reserved kind tag) } }

/-- A request that finds a slot is judged with it reserved (R191). -/
theorem serve_eq {s : State} {r : ReplyNo} (hp : s.powered = true) (hr : s.lnk.freeSlot = some r) (kind : Byte) (tag : Tag)
    (judge : ReplyNo → State → Judged) :
    s.serve kind tag judge =
      (match judge r (s.opened r kind tag) with
        | (t, none) => t
        | (t, some a) => t.reply r a.status a.body).transmit := by
  have h' : ({ s.lnk with rx := Rx.hunt } : Lnk).freeSlot = some r := hr
  simp only [serve, event, hp, if_true, h', reserve, opened]
  all_goals rfl

/-- A request answered at once, by a judgement that leaves the link as it found it but for notices, is `Answered`. -/
theorem answered_of_judge {s t : State} {r : ReplyNo} {kind : Byte} {tag : Tag} {st : Status} {body : List Byte}
    {judge : ReplyNo → State → Judged} (hp : s.powered = true) (hr : s.lnk.freeSlot = some r)
    (hj : judge r (s.opened r kind tag) = (t, some ⟨st, body⟩)) (hx : t.lnk.rx = .hunt)
    (hs : t.lnk.slots = s.lnk.slots.set r (.reserved kind tag)) (hf : t.lnk.filled = s.lnk.filled)
    (ht : t.lnk.tx = s.lnk.tx) :
    Answered s (s.serve kind tag judge) kind tag st body := by
  have hslot : t.lnk.slots[r] = .reserved kind tag := by rw [hs]; exact Vector.getElem_set_self ..
  rw [serve_eq hp hr, hj]
  simp only []
  rw [reply_reserved hslot]
  refine ⟨r, (freeSlot_spec hr).1, (transmit_link _).1.trans hx, (transmit_link _).2.1.trans (by simp [hs]), fun h => ?_, fun h g => ?_⟩
  · rw [transmit_busy (by simpa [ht] using h)]
    simp [hf, ht]
  · have : (⟨r, r.2⟩ : ReplyNo) = r := rfl
    simp [transmit, ht, h, hf, g]

/-- A request answered at once by a judgement that changes nothing is `Replied`: every refusal, and every reader. -/
theorem replied_of_judge {s : State} {r : ReplyNo} {kind : Byte} {tag : Tag} {st : Status} {body : List Byte}
    {judge : ReplyNo → State → Judged} (hp : s.powered = true) (hr : s.lnk.freeSlot = some r)
    (hj : judge r (s.opened r kind tag) = (s.opened r kind tag, some ⟨st, body⟩)) :
    Replied s (s.serve kind tag judge) kind tag st body := by
  have hslot : (s.opened r kind tag).lnk.slots[r] = .reserved kind tag := Vector.getElem_set_self ..
  have hA := answered_of_judge hp hr hj rfl rfl rfl rfl
  refine ⟨?_, ?_, hA⟩
  · rw [serve_eq hp hr, hj]
    simp only []
    rw [reply_reserved hslot]
    rcases transmit_cases (State.mk ..) with e | ⟨_, _, _, _, _, _, _, _, _, e⟩ | ⟨_, _, _, _, _, e⟩ <;> rw [e] <;> rfl
  · rw [Quiet, serve_eq hp hr, hj]
    simp only []
    rw [reply_reserved hslot]
    exact ⟨transmit_notices (by simp), (transmit_link _).2.2⟩

/-! ### The log -/

/-- Everything a log entry does: nothing to the log when EXHAUSTED, else the entry stands last, the oldest dropped from a full log; its event count is raised either way (R174, R180). -/
theorem log_cases (k : EntryKind) (ps : List Nat) (s : State) :
    let counts := s.rcu.counts.entry k ps
    (s.rcu.nextSequence = none ∧ s.log k ps = { s with rcu := { s.rcu with counts := counts } })
    ∨ ∃ n e, s.rcu.nextSequence = some n ∧ e.sequence = n ∧ e.kind = k ∧ e.callTime = s.ccl.callTime
        ∧ (∀ i : Fin 4, e.params[i] = ps.getD i.val 0)
        ∧ (s.log k ps).rcu.log =
            (if Config.logCapacity ≤ s.rcu.log.length then s.rcu.log.drop 1 else s.rcu.log) ++ [e]
        ∧ (s.log k ps).rcu.wrapped = (s.rcu.wrapped || decide (Config.logCapacity ≤ s.rcu.log.length))
        ∧ (s.log k ps).rcu.nextSequence = (if n = Config.maxU32 then none else some (n + 1))
        ∧ (s.log k ps).rcu.counts = counts := by
  cases h : s.rcu.nextSequence with
  | none => exact .inl ⟨rfl, by simp [State.log, Rcu.write, h]⟩
  | some n =>
    refine .inr ⟨n, ⟨n, s.ccl.callTime, k, Vector.ofFn fun i : Fin 4 => ps.getD i.val 0⟩, rfl, rfl, rfl, rfl, ?_, ?_, ?_, ?_, rfl⟩
    · simp
    all_goals simp [State.log, Rcu.write, h]

/-- What an entry adds to those numbered from `m` on: itself, last, where the oldest, if a full log drops it, is numbered below `m` (R174). -/
theorem log_entriesFrom (k : EntryKind) (ps : List Nat) {s : State} {n m : Nat} (hn : s.rcu.nextSequence = some n)
    (hm : m ≤ n) (hold : Config.logCapacity ≤ s.rcu.log.length → ∀ e ∈ s.rcu.log.head?, e.sequence < m) :
    (s.log k ps).rcu.entriesFrom m
      = s.rcu.entriesFrom m ++ [(k, Vector.ofFn fun i : Fin 4 => ps.getD i.val 0)] := by
  simp only [Rcu.entriesFrom, State.log, Rcu.write, hn]
  split
  · cases h : s.rcu.log with
    | nil => simp [hm]
    | cons e l =>
      have := hold (by simpa using ‹decide _ = true›) e (by simp [h])
      simp [hm, Nat.not_le.2 this]
  · simp [hm]

end Sys2Proof.Machine
end

