-- ==== Sys2Proof/Laws/Store.lean ====
section
/-! SUPPORT. What the items of the settings store keep: an item formed whole passes its check, and an item that is VALID was found to pass it. -/

namespace Sys2Proof.Machine

variable {α : Type}

@[simp] theorem form_version (f : ItemFormat α) (c : α) : (f.form c).version = f.version := rfl
@[simp] theorem form_length (f : ItemFormat α) (c : α) : (f.form c).length = f.length c := rfl
@[simp] theorem form_content (f : ItemFormat α) (c : α) : (f.form c).content = c := rfl
@[simp] theorem form_crc (f : ItemFormat α) (c : α) : (f.form c).crc = f.crc f.version (f.length c) c := rfl

@[simp] theorem read_version (x : StoredItem α) (e : StoreErrors) : (x.read e).version = x.version ^^^ e.version := rfl
@[simp] theorem read_length (x : StoredItem α) (e : StoreErrors) : (x.read e).length = x.length ^^^ e.length := rfl
@[simp] theorem read_content (x : StoredItem α) (e : StoreErrors) : (x.read e).content = x.content := rfl
@[simp] theorem read_crc (x : StoredItem α) (e : StoreErrors) : (x.read e).crc = x.crc ^^^ e.crc := rfl

/-- The check of power-on is the three agreements of R212. -/
theorem passes_iff (f : ItemFormat α) (x : StoredItem α) :
    f.passes x = true ↔
      x.version = f.version ∧ x.length = f.length x.content ∧ x.crc = f.crc x.version x.length x.content := by
  simp [ItemFormat.passes, and_assoc]

/-- An item formed of a content passes its check (R212). -/
theorem form_passes (f : ItemFormat α) (c : α) : f.passes (f.form c) = true := by simp [passes_iff]

/-- An item that passes is the item formed of its content (R212). -/
theorem eq_form_of_passes {f : ItemFormat α} {x : StoredItem α} (h : f.passes x = true) : x = f.form x.content := by
  obtain ⟨hv, hl, hc⟩ := (passes_iff f x).mp h
  cases x
  simp_all [ItemFormat.form]

/-- A read without errors shows the item as it was kept. -/
@[simp] theorem read_none (x : StoredItem α) : x.read .none = x := by simp [StoredItem.read, StoreErrors.none]

/-- Everything the read of a place of the store can find (R212): a VALID item that passes as it is read, or INVALID. -/
theorem read_cases (f : ItemFormat α) (e : StoreErrors) (x : Stored α) :
    (∃ i, x = .valid i ∧ f.passes (i.read e) = true ∧ x.read f e = .valid (i.read e)) ∨ x.read f e = .invalid := by
  cases x with
  | valid i =>
    by_cases h : f.passes (i.read e) = true
    · exact .inl ⟨i, rfl, h, by simp [Stored.read, h]⟩
    · exact .inr (by simp [Stored.read, h])
  | _ => exact .inr rfl

/-- What power-on finds VALID passes its check (R212). -/
theorem read_sound (f : ItemFormat α) (e : StoreErrors) (x : Stored α) : (x.read f e).sound f = true := by
  rcases read_cases f e x with ⟨i, _, h, g⟩ | g <;> rw [g]
  · exact h
  · rfl

/-- What a completed write leaves VALID passes its check (R212, R213). -/
theorem written_sound {f : ItemFormat α} {x : Stored α} (h : x.sound f = true) (agrees : Bool) :
    (x.written f agrees).sound f = true := by
  cases x with
  | writing c => cases agrees <;> simp [Stored.written, Stored.sound, form_passes]
  | _ => exact h

/-- A loss of power makes no item VALID (R214). -/
theorem kept_sound {f : ItemFormat α} {x : Stored α} (h : x.sound f = true) : x.kept.sound f = true := by
  cases x <;> first | rfl | exact h

end Sys2Proof.Machine
end

