-- ==== Sys2Proof/Laws/Tick.lean ====
section
/-! SUPPORT. What a tick of the clock can do. -/

namespace Sys2Proof.Machine

/-- Everything a tick can do (log entry 2): one command joins the queue, an expiry that is due or the end of a scan period, or a millisecond passes. -/
theorem tick_cases (s : State) :
    (∃ c l, s.powered = true ∧ s.due = c :: l ∧ s.tick = { s with pending := s.pending ++ [c] })
    ∨ (s.powered = true ∧ s.due = [] ∧ s.fcu.scan.endsAt ≤ s.now
        ∧ s.tick = { s with pending := s.pending ++ [s.scanEnding], choices := s.choices + 1 })
    ∨ (s.powered = true → s.due = [] ∧ s.now < s.fcu.scan.endsAt) ∧ s.tick = { s with now := s.now + 1 } := by
  unfold State.tick
  split
  · rename_i hp
    split
    · exact .inl ⟨_, _, hp, ‹_›, rfl⟩
    · rename_i hd
      split
      · exact .inr (.inl ⟨hp, hd, ‹_›, rfl⟩)
      · exact .inr (.inr ⟨fun _ => ⟨hd, by omega⟩, rfl⟩)
  · exact .inr (.inr ⟨fun hp => absurd hp ‹_›, rfl⟩)

end Sys2Proof.Machine
end

