-- ==== Sys2Proof/WellFormed.lean ====
section
/-! DEFINITION. Which commands can occur: a body fits a frame, and the events of the link are what their names say. -/

namespace Sys2Proof

open Machine

/-- Whether a body fits a frame (R189). -/
def bodyFits (body : List Byte) : Bool := decide (body.length ≤ Config.maxBody)

/-- Whether a command can occur (R189, R190, R191). -/
def Instr.wellFormed : Instr → Bool
  | .frameDiscarded frame => frameComplete frame && !frameAccepted frame
  | .rxGapTimeout after => !Rx.completesRequest .hunt after
  | .rxFramingError after => !Rx.completesRequest .hunt after
  | .lengthByteAbove240 length => decide (Config.maxBody < length.toNat)
  | .unknownKindRequest kind _ body => !knownKind kind && bodyFits body
  | .shipSet _ body | .segmentSet _ body | .stationSet _ body | .tankSet _ body | .soundingSet _ body
  | .holdSet _ body | .pumpSet _ body | .valveSet _ body | .bandSet _ body | .boundsSet _ body
  | .berthSet _ body | .tableGet _ body | .channelSet _ body | .scanSet _ body | .channelGet _ body
  | .tankLock _ body | .tankUnlock _ body | .tankGet _ body | .predict _ body | .conditionGet _ body
  | .stopAck _ body | .stopSet _ body | .alarmAck _ body | .alarmSet _ body | .limitStatus _ body
  | .stepAdd _ body | .stepCancel _ body | .stepList _ body | .stepPin _ body | .faultClear _ body
  | .plantStatus _ body | .planLoad _ body | .pourBegin _ body | .pourProgress _ body | .pourEnd _ body
  | .paceSet _ body | .pourStatus _ body | .permitSet _ body | .challenge _ body | .answer _ body
  | .permitStatus _ body | .logRead _ body | .totalsGet _ body | .reportCompose _ body
  | .reportRead _ body | .identify _ body | .clockSet _ body | .callSet _ body | .noticeSelect _ body
  | .phaseSet _ body | .storeWrite _ body | .storeStatus _ body | .restart _ body => bodyFits body
  | .powerOn _ _ | .powerLoss | .txFrameDone | .scanEnd _ | .switchInputChange _ _
  | .switchDebounceExpiry _ | .flowPulse _ | .emergencyStopActivation | .emergencyStopRelease
  | .valveOpenTimeout _ | .valveCloseTimeout _ | .rampGearExpiry _ | .windDownGearExpiry _
  | .pumpStartTimeout _ | .pumpStopTimeout _ | .noFlowExpiry _ | .alarmPulseExpiry | .answerTimeout
  | .challengeTimeout | .challengeWindowOpens | .currentRecomputeComplete | .predictionComplete
  | .reportCompositionComplete | .storeWriteComplete _ | .clockSecondAdvance => true

end Sys2Proof
end

