-- ==== Sys2Proof/Tests/Slice0.lean ====
section
/-! SUPPORT. Tests: ill-formed commands are refused; the worked cases of the manual; and for each statement with hypotheses a concrete state and operands that meet them. Expected figures are the manual's own or worked by hand from its rules. -/

namespace Sys2Proof.Tests

/- Each test is checked before the next is begun: checked side by side, they take a thread each. -/
set_option Elab.async false

open Machine

/-! ### Small helpers -/

/-- The state a command leaves. -/
def after (c : Instr) (s : State) : State :=
  match exec c s with
  | .next t => t
  | _ => s

/-- The body of the frame being sent: a reply's begins with its status. -/
def sent (s : State) : List Byte :=
  match s.lnk.tx with
  | .idle => []
  | .reply _ f => f.body
  | .notice f => f.body

/-- A table of five points (the worked example of section 2.6). -/
def soundings : List Point := [⟨0, 0⟩, ⟨2000, 6000⟩, ⟨8000, 30000⟩, ⟨14000, 54000⟩, ⟨18500, 71000⟩]

/-- Tables that pass validation: channels 0 to 15 level, 16 to 18 run feedback, 19 to 39 valve feedback, 40 to 42 flow. -/
def tables : ConfigTables :=
  { emptyTables with
    ship := ⟨1400, 3000, 2000, 300⟩
    segments := Vector.replicate 20 ⟨2080, 600⟩
    stations := Vector.replicate 19 ⟨50000, 5000000, 5000000⟩
    tanks := Vector.ofFn fun t : Fin 16 =>
      { side := .centre, first := t.val, count := 2, arm := 0, density := 1025, metered := true, fixedLevel := 0 }
    soundings := Vector.replicate 16 soundings
    bounds := Vector.replicate 16 ⟨500, 18000⟩
    holds := Vector.ofFn fun h : Fin 9 => { first := 2 * h.val, count := 2, arm := 0, coaming := 25000, maxMass := 60000 }
    pumps := Vector.ofFn fun p : Fin 3 =>
      { emptyPump with runChannel := some ⟨16 + p.val, by omega⟩, flowChannel := some ⟨40 + p.val, by omega⟩ }
    valves := Vector.ofFn fun v : Fin 21 => { travel := 30, channel := some ⟨19 + v.val, by omega⟩ }
    channels := Vector.ofFn fun c : Fin 48 =>
      if h : c.val < 16 then .level 800 4000 20000 100 (some ⟨c.val, h⟩)
      else if c.val < 40 then .switch 10 false else if c.val < 43 then .pulse else .off }

/-- The controller just powered on with those tables in force. -/
def fitted : State := .powerUp tables false .initial .quiet 0 0 []

/-- The same in another phase. -/
def inPhase (p : Phase) : State := { fitted with ccl := { fitted.ccl with phase := p } }

/-- Tank 4 VALID, its channel VALID with the window before the worked sequence of section 2.3, at the end of a scan period. -/
def metering (window : List Nat) (run : Nat) : State :=
  { inPhase .loading with
    tanks := fitted.tanks.set 4 { freshTank with level := 5125, stale := false }
    fcu := { fitted.fcu with
      channels := fitted.fcu.channels.set 4 (.level none window run true), scan := ⟨⟨1, 156⟩, 0⟩ } }

/-- One raw sample at every channel. -/
def samples (n : Nat) : Vector Sample 48 := Vector.replicate 48 (BitVec.ofNat 12 n)

/-- A DEBALLAST step of tank 4 in a state. -/
def deballast (n : Nat) (st : StepState) (p : Option PumpNo) : StepRec :=
  { number := n, kind := .deballast, source := some 4, dest := none, target := 1000, choice := none, cls := .normal
    gate := none, state := st, cancelRequested := false, grantedPump := p, outcome := none, faultMark := false
    startSource := none, startDest := none, litres := 0, timeAdmitted := some 0, timeRun := none, closeFailed := [] }

/-- A step held in slot 3, in the queue order. -/
def holding (x : StepRec) (s : State) : State :=
  { s with tsq := { s.tsq with slots := s.tsq.slots.set 3 (some x), order := [3], lastNumber := x.number } }

/-- A pump record for step 7. -/
def busyPump (g : Gear) (w : RunWatch) : Pump :=
  { state := .busy, granted := some 7, run := g != .g0, gear := g, gearUntil := none, proof := .running, watch := w
    noFlowUntil := none, meter := false, fairness := some (.normal, 1) }

/-- Step 7 active on pump 0, its lineup TV4 and OVB0 commanded OPEN. -/
def moving (st : StepState) (y : Pump) (v : Valve) : State :=
  let s := holding (deballast 7 st (some 0)) (inPhase .loading)
  { s with pva := { s.pva with
    mode := .drain, grants := 1, pumps := s.pva.pumps.set 0 y, valves := (s.pva.valves.set 4 v).set 17 v } }

/-- A valve that stands open. -/
def openValve : Valve := { open_ := true, proved := .opened, watch := .absent, faulted := false }

/-- Step 7 in RUN. -/
def running : State :=
  moving .run { busyPump .g100 .absent with noFlowUntil := some 30000 } openValve

/-- A step WAITING for a pump, offered, with its tank VALID and every pump and lineup valve at rest. -/
def waiting : State :=
  let s := holding (deballast 7 .waiting none) (inPhase .loading)
  { s with
    tanks := s.tanks.set 4 { freshTank with stale := false }
    pva := { s.pva with
      candidates := [⟨7, 0, false⟩]
      pumps := Vector.replicate 3 { (s.pva.pumps[0]) with watch := .absent }
      valves := Vector.replicate 21 { (s.pva.valves[0]) with watch := .absent, proved := .closed } } }

/-- Step 9 in CHECKING in slot 3, its prediction in flight. -/
def checking (x : StepRec) : State :=
  let s := inPhase .ready
  { s with
    tanks := s.tanks.set 4 { freshTank with stale := false }
    tsq := { s.tsq with slots := s.tsq.slots.set 3 (some x), checking := [3], lastNumber := x.number }
    cen := { s.cen with inFlight := some (.prediction ⟨.step x.number, 0, true, []⟩ (s.snapshot [x.move])) }
    lnk := { s.lnk with slots := s.lnk.slots.set 0 (.reserved 0x51 1), tx := .notice ⟨3, 5, 0, []⟩ } }

/-- Two planned pours, and maybe one on loader A. -/
def pouring (x : Option Pour) : State :=
  let s := inPhase .loading
  { s with
    ptr := { s.ptr with
      plan := [⟨6, 25000, 8000, if x.isSome then .pouring else .planned, x.map fun y => (.a, y.permitAtBegin), none⟩,
               ⟨2, 25000, 16000, .planned, none, none⟩]
      loaders := s.ptr.loaders.set 0 x }
    pmu := { s.pmu with unit := .awaitAnswer 0, hysteresis := true, permit := true, counter := 11 } }

/-- A contact stands open or closed at a channel whose debounced state is not yet known. -/
def seen (ch : ChannelNo) (closed : Bool) (s : State) : State :=
  { s with pins := { s.pins with contacts := s.pins.contacts.set ch closed } }

/-- The permit unit in a state at 12 s. -/
def attending (u : UnitState) (n : Nat) : State :=
  { inPhase .loading with
    now := 12000
    pmu := { fitted.pmu with unit := u, counter := n } }

/-- A condition record: case 2 of section 3.7 with the hull of `tables`. -/
def record : ConditionRecord := (fitted.snapshot []).compute false 41 ((fitted.snapshot []).masses [])

/-! ### Ill-formed commands are refused -/

theorem test_wf_frameDiscarded : Instr.wellFormed (.frameDiscarded [0xA7, 1]) = false := by decide +kernel
theorem test_wf_frameDiscarded_accepted :
    Instr.wellFormed (.frameDiscarded (Frame.wire ⟨1, 0xA1, 5, []⟩)) = false := by decide +kernel
theorem test_wf_rxGapTimeout : Instr.wellFormed (.rxGapTimeout (Frame.wire ⟨1, 0xA1, 5, []⟩)) = false := by decide +kernel
theorem test_wf_rxFramingError :
    Instr.wellFormed (.rxFramingError (Frame.wire ⟨1, 0xA1, 5, []⟩)) = false := by decide +kernel
theorem test_wf_lengthByte : Instr.wellFormed (.lengthByteAbove240 240) = false
    ∧ Instr.wellFormed (.lengthByteAbove240 241) = true := by decide +kernel
theorem test_wf_unknownKind : Instr.wellFormed (.unknownKindRequest 0xA1 0 []) = false
    ∧ Instr.wellFormed (.unknownKindRequest 0xA5 0 []) = true := by decide +kernel
theorem test_wf_body : Instr.wellFormed (.identify 0 (List.replicate 241 0)) = false
    ∧ Instr.wellFormed (.identify 0 (List.replicate 240 0)) = true := by decide +kernel

/-! ### The figures of the manual -/

/-- CRC-16 over "123456789" (R189). -/
theorem test_crc16 : crc16 [0x31, 0x32, 0x33, 0x34, 0x35, 0x36, 0x37, 0x38, 0x39] = 0x29B1 := by decide +kernel
/-- The scan periods of the table of R21. -/
theorem test_scanPeriod : [scanPeriod ⟨1, 156⟩, scanPeriod ⟨1, 250⟩, scanPeriod ⟨2, 206⟩, scanPeriod ⟨4, 231⟩,
    scanPeriod ⟨8, 0⟩] = [1000, 100, 1000, 1000, 20480] := by decide +kernel
/-- The worked example of section 2.6, and R32's 5,125 t. -/
theorem test_soundings : ([5225, 16000, 18500, 19000, 18400].map fun n =>
      (volumeAt soundings n, massAt soundings 1025 n, overTableAt soundings n))
    = [(18900, 1937, false), (61556, 6309, false), (71000, 7278, false), (71000, 7278, true), (70622, 7239, false)]
    ∧ massOf 50000 1025 = 5125 := by decide +kernel
/-- The expected answers of the table of R157, and the states of R156 after 0x2000. -/
theorem test_answers : ([1, 2, 4, 8, 0x4001, 3].map expectedAnswer) = [0xFEFF, 0xFDFF, 0xFBFF, 0xF7FF, 0xFEBF, 0xFCFF]
    ∧ seedStep 0x2000 = 0x4001 ∧ seedStep 0x4001 = 3 ∧ seedStep 3 = 6 := by decide +kernel
/-- Scans 1, 2 and 7 of the worked sequence of section 2.3. -/
theorem test_scan :
    (after (.scanEnd (samples 1624)) (metering [5100, 5125, 5125, 5150] 0)).tanks[4].level = 5138
    ∧ (after (.scanEnd (samples 0)) (metering [5125, 5125, 5150, 5150] 0)).fcu.channels[4]
        = .level (some (0, false)) [5125, 5125, 5150, 5150] 1 true
    ∧ (after (.scanEnd (samples 0)) (metering [5125, 5150, 5150, 5175] 2)).fcu.channels[4]
        = .level (some (0, false)) [] 0 false
    ∧ (after (.scanEnd (samples 0)) (metering [5125, 5150, 5150, 5175] 2)).tanks[4].stale = true := by decide +kernel
/-- Case 1 of section 3.7: trim by the stern. -/
theorem test_equilibrium :
    let ws := 10200 :: List.replicate 18 6000 ++ [1800]
    let u := hullSums (List.replicate 20 600) ws
    let f := solveEquilibrium (u.p 120000) (u.q 120000) u.determinant
    let nets := List.zipWith (fun (w : Nat) b => (w : Int) - b) ws (buoyancies (List.replicate 20 600) f.drafts 120000)
    u.determinant = 19152000000 ∧ (f.tm, f.trim, f.ta, f.tf) = (10000, 4000, 12000, 8000)
    ∧ [1, 2, 10, 19].map (shearForce nets) = [3060, 2040, -1800, 3060] ∧ bendingMoment 1400 nets 10 = 0
    ∧ usage 4000 3000 = 1333 ∧ usage 12000 12500 = 960 := by decide +kernel
/-- Cases 2 and 3 of section 3.7: hogging at even keel, and the list from one wing tank. -/
theorem test_hogging_and_list :
    let nets : List Int := 2700 :: List.replicate 18 (-300) ++ [2700]
    [1, 5, 10].map (bendingMoment 1400 nets) = [18900, 136500, 189000]
    ∧ bendingUsage 189000 ⟨1, 210000, 1⟩ = 900 ∧ placeBand ⟨900, 1000⟩ 900 = .caution
    ∧ listAngle 500 120000 (-3000000) = -287 ∧ usage 287 300 = 957 := by decide +kernel
/-- The tables of the samples pass validation; the repeated level of section 1.10 fails at SOUNDING of its tank. -/
theorem test_validate : tables.validate = none
    ∧ ({ tables with soundings := tables.soundings.set 4 [⟨0, 0⟩, ⟨14000, 1⟩, ⟨14000, 2⟩] } : ConfigTables).validate = some (6, 4)
    ∧ ({ tables with soundings := Vector.replicate 16 [], pumps := Vector.replicate 3 emptyPump } : ConfigTables).validate
      = some (6, 0) := by
  decide +kernel

/-- The plant of section 6.9 when step 18 is removed: pump 1 FREE with memory URGENT 39, and the same with pump 0 FREE too. -/
def arbitration (pump0 : PumpState) : State :=
  let step (n : Nat) (t : TankNo) (k : StepKind) (c : StepClass) (choice : Option PumpNo) : StepRec :=
    { deballast n .waiting none with
      kind := k, cls := c, choice := choice
      source := if k = .ballast then none else some t, dest := if k = .ballast then some t else none }
  let rest : Pump := { (fitted.pva.pumps[0]) with watch := .absent }
  let s := inPhase .loading
  { s with
    tanks := Vector.replicate 16 { freshTank with stale := false }
    tsq := { s.tsq with
      order := if pump0 = .busy then [0, 1, 2, 3, 4] else [1, 2, 3, 4]
      slots := (((((s.tsq.slots.set 0 (some { deballast 19 .run (some 0) with source := some 0 })).set 1
        (some (step 20 1 .deballast .normal none))).set 2 (some (step 21 2 .deballast .urgent none))).set 3
        (some (step 22 3 .deballast .urgent (some 0)))).set 4 (some (step 23 5 .ballast .normal none))) }
    pva := { s.pva with
      mode := .drain, grants := 39, candidates := [⟨20, 37, false⟩, ⟨21, 39, false⟩, ⟨22, 39, false⟩, ⟨23, 39, false⟩]
      pumps := #v[{ rest with state := pump0, fairness := some (.normal, 38) }, { rest with fairness := some (.urgent, 39) }, rest]
      valves := Vector.replicate 21 ⟨false, .closed, .absent, false⟩ } }

/-- Event 1 of section 6.9: the fairness exception gives pump 1 to step 20. Event 2: pump 0, whose memory is NORMAL, goes to the first URGENT candidate, step 21. A pinned step that cannot use the pump holds back the others (event 4). -/
theorem test_arbitration : (arbitration .busy).winner 1 = some 1 ∧ (arbitration .free).winner 0 = some 2
    ∧ { arbitration .busy with pva := { (arbitration .busy).pva with pin := some 23 } }.winner 1 = none := by decide +kernel

/-- Two steps that one edge frees, with one pump to be had: the decisions follow each candidate as it joins (R94, R116), so the NORMAL step that is first in the queue has the pump before the URGENT one joins. -/
def gated : State :=
  let step (n : Nat) (t : TankNo) (c : StepClass) : Option StepRec :=
    some { deballast n .queued none with source := some t, cls := c, gate := some ⟨1, .beginEdge⟩ }
  let s := inPhase .loading
  { s with
    tanks := Vector.replicate 16 { freshTank with stale := false }
    tsq := { s.tsq with order := [0, 1], slots := (s.tsq.slots.set 0 (step 20 1 .normal)).set 1 (step 21 2 .urgent) }
    pva := { s.pva with
      pumps := Vector.ofFn fun p : Fin 3 =>
        { s.pva.pumps[p] with watch := .absent, state := if p = 0 then .free else .tripped }
      valves := Vector.replicate 21 ⟨false, .closed, .absent, false⟩ } }

theorem test_grantsAfterEachMove :
    let t := gated.takeEdge ⟨1, .beginEdge⟩
    [t.tsq.slots[0].map (·.state), t.tsq.slots[1].map (·.state)] = [some .lineup, some .waiting]
    ∧ t.pva.pumps[0].granted = some 20 := by decide +kernel

/-- A fall of the counter from 8 to 0 is reported to LSL before LOADER PERMIT is evaluated, and the permit's cause is the counter's (R165, steps 4 and 5). -/
theorem test_counterOrder :
    let s : State := { inPhase .loading with
      cfg := { tables with permit := { defaultPermit with badStep := 8 } }
      pmu := { fitted.pmu with unit := .awaitAnswer 0, counter := 8, hysteresis := true, permit := true } }
    ((s.permitEvent false).rcu.log.map fun e => (e.kind, e.params))
      = [(.alarm, #v[2, 21, 255, 0]), (.stopOn, #v[0, 1, 0, 0]), (.permitChange, #v[0, 0, 0, 0])] := by decide +kernel
/-- Events 1, 2, 4, 8, 9 and 10 of the alarm sequence of section 4.4. -/
theorem test_alarms :
    let s1 := fitted.faultReport (.sensor 4)
    let s2 := after (.alarmAck 1 []) s1
    let s4 := s2.faultWithdraw (.sensor 4)
    let pulse : State := { fitted with cfg := { tables with alarm := ⟨.pulse, 5, Vector.replicate 4 false⟩ } }
    let s8 := pulse.paceReport true 6
    let s9 := { s8 with now := 3000 }.attendanceReport .lateAnswer
    [s1.lsl.groups[3], s2.lsl.groups[3], s4.lsl.groups[3]] = [⟨true, true⟩, ⟨true, false⟩, ⟨false, false⟩]
    ∧ [s1.lsl.alarmLine, s2.lsl.alarmLine, s4.lsl.alarmLine, s8.lsl.alarmLine] = [true, true, false, true]
    ∧ s9.lsl.pulseUntil = some 8000 ∧ (after .alarmPulseExpiry s9).lsl.alarmLine = false := by decide +kernel

/-- LSL handles a record whole before PMU takes its band-rise event (R69): a STOP record that makes CONDITION active, and whose event takes the counter to 0, is logged by a STOP_ON that names CONDITION alone, and then the permit falls by the counter. -/
theorem test_recordWhole :
    let snap := State.snapshot [] { fitted with berth := ⟨1, 0, 0⟩ }
    let s : State := { inPhase .loading with
      cfg := { tables with stop := ⟨1, true⟩, permit := { defaultPermit with badStep := 7 } }
      pmu := { fitted.pmu with unit := .awaitAnswer 0, counter := 7, hysteresis := true, permit := true } }
    let t := s.limitsTake (snap.compute false 1 (snap.masses []))
    (t.rcu.log.map fun e => (e.kind, e.params))
      = [(.alarm, #v[1, BandClass.draft.code, 255, 0]), (.stopOn, #v[1, 0, 0, 0]), (.alarm, #v[2, 21, 255, 0]),
         (.permitChange, #v[0, 0, 0, 0])]
    ∧ t.lsl.causes = ⟨true, true, false⟩ := by decide +kernel

/-- The expiries of one millisecond: the clocks' second, the gear timer of pump 0 in RAMP, and the challenge window at its timeout figures. -/
theorem test_due :
    let s : State := { moving .ramp { busyPump .g25 .absent with gearUntil := some 900000 } openValve with
      now := 900000, pmu := { fitted.pmu with unit := .awaitChallenge 720000 false } }
    let quiet : State := { s with
      pva := { s.pva with valves := Vector.replicate 21 openValve, pumps := Vector.replicate 3 (s.pva.pumps[0]) }
      pins := { s.pins with contacts := Vector.replicate 48 false }
      fcu := { s.fcu with channels := Vector.replicate 48 .off } }
    quiet.due = [.clockSecondAdvance, .rampGearExpiry 0, .challengeWindowOpens, .challengeTimeout]
    ∧ { quiet with now := 899999, ccl := { quiet.ccl with secondAt := 900000 } }.due = [.challengeWindowOpens] := by
  decide +kernel

/-! ### The machine: hypotheses met -/

/-- A state with a command in front for the statements about a step; what each promise says of it. -/
def stepping : State := { running with pending := [.emergencyStopActivation] }

theorem witness_emptyQueueTicks : State.reset.pending = [] ∧ State.reset.powered = true ∧ State.reset.due = []
    ∧ State.reset.now < State.reset.fcu.scan.endsAt
    ∧ { State.reset with now := 1000 }.due = [.clockSecondAdvance]
    ∧ (let s : State := { State.reset with now := 1000, ccl := { State.reset.ccl with secondAt := 2000 } }
      s.pending = [] ∧ s.due = [] ∧ s.fcu.scan.endsAt ≤ s.now)
    ∧ { State.reset with powered := false }.powered = false := by decide +kernel
theorem witness_withoutPower : { fitted with powered := false }.powered = false
    ∧ after .emergencyStopActivation { fitted with powered := false }
        = { fitted with powered := false, pins := { fitted.pins with emergency := true } } := by decide +kernel
theorem witness_recordsKept : LogSafe stepping ∧ StoreSafe stepping ∧ ∃ t, step stepping = .next t :=
  ⟨by decide +kernel, by decide +kernel, _, rfl⟩
theorem witness_permitKept : PermitSafe stepping ∧ ∃ t, step stepping = .next t := ⟨by decide +kernel, _, rfl⟩
theorem witness_linesKept : StopSafe stepping ∧ AlarmSafe stepping ∧ ∃ t, step stepping = .next t :=
  ⟨by decide +kernel, by decide +kernel, _, rfl⟩
theorem witness_engineKept : EngineSafe stepping ∧ ∃ t, step stepping = .next t := ⟨by decide +kernel, _, rfl⟩
/-- Serves QueueKept, LineKept, PumpKept and ValveKept. -/
theorem witness_plantKept : QueueSafe stepping ∧ LineSafe stepping ∧ PumpSafe stepping ∧ ValveSafe stepping
    ∧ ∃ t, step stepping = .next t :=
  ⟨by decide +kernel, by decide +kernel, by decide +kernel, by decide +kernel, _, rfl⟩
theorem witness_fieldKept : FieldSafe stepping ∧ ∃ t, step stepping = .next t := ⟨by decide +kernel, _, rfl⟩
theorem witness_pourKept : PourSafe stepping ∧ ∃ t, step stepping = .next t := ⟨by decide +kernel, _, rfl⟩
theorem witness_linkKept : QueueSafe stepping ∧ LinkSafe stepping ∧ ∃ t, step stepping = .next t :=
  ⟨by decide +kernel, by decide +kernel, _, rfl⟩

/-! ### Requests and tables: hypotheses met -/

/-- A controller whose eight reply slots are filled, the first being sent. -/
def fullQueue : State :=
  { fitted with lnk := { fitted.lnk with
    slots := Vector.replicate 8 (.filled 0xA1 0 .ok []), filled := [1, 2, 3, 4, 5, 6, 7]
    tx := .reply 0 ⟨2, 0xA1, 0, [0]⟩ } }

theorem witness_turnedAway :
    requestOf (.identify 5 []) = some (0xA1, 5, []) ∧ fullQueue.powered = true ∧ fullQueue.lnk.freeSlot = none
    ∧ Settled fullQueue ∧ after (.identify 5 []) fullQueue = fullQueue
    ∧ fitted.serving ∧ requestLengthOk (.tankLock 5 []) = false ∧ sent (after (.tankLock 5 []) fitted) = [1]
    ∧ (inPhase .ready).serving ∧ requestLengthOk (.paceSet 5 [0, 0]) = true ∧ writesTables (.paceSet 5 [0, 0]) = true
    ∧ (inPhase .ready).ccl.phase ≠ .setup ∧ sent (after (.paceSet 5 [0, 0]) (inPhase .ready)) = [3]
    ∧ fitted.lnk.slots[(0 : ReplyNo)] = .free ∧ (after (.identify 5 []) fitted).lnk.slots[0] = .filled 0xA1 5 .ok
        [0x0B, 0x24, 0xF0, 0x03, 0, 0, 0]
    ∧ knownKind 0xA5 = false ∧ (List.replicate 240 (0 : Byte)).length ≤ 240
    ∧ sent (after (.unknownKindRequest 0xA5 5 (List.replicate 240 0)) fitted) = [14] := by decide +kernel

/-- Each range of the eight requests at an end of it, and the first value beyond where the request is refused. -/
theorem witness_tablesWritten : fitted.serving ∧ fitted.ccl.phase = .setup
    ∧ [sent (after (.shipSet 1 (u16 100 ++ u16 20000 ++ u16 20000 ++ u16 3000)) fitted),
       sent (after (.shipSet 1 (u16 99 ++ u16 20000 ++ u16 20000 ++ u16 3000)) fitted),
       sent (after (.bandSet 1 (u8 6 ++ u16 500 ++ u16 1200)) fitted),
       sent (after (.bandSet 1 (u8 6 ++ u16 500 ++ u16 1201)) fitted),
       sent (after (.bandSet 1 (u8 7 ++ u16 500 ++ u16 1200)) fitted),
       sent (after (.paceSet 1 (u16 20000)) fitted), sent (after (.paceSet 1 (u16 20001)) fitted),
       sent (after (.scanSet 1 (u8 8 ++ u8 255)) fitted),
       sent (after (.segmentSet 1 (u8 19 ++ u8 1 ++ u16 60000 ++ u16 4000)) fitted),
       sent (after (.stationSet 1 (u8 19 ++ u8 1 ++ u32 100000 ++ u32 10000000 ++ u32 1)) fitted),
       sent (after (.soundingSet 1 (u8 15 ++ u8 2 ++ u16 0 ++ u32 0 ++ u16 40000 ++ u32 200000)) fitted),
       sent (after (.holdSet 1 (u8 8 ++ u8 19 ++ u8 4 ++ i16 (-3000) ++ u16 40000 ++ u32 200000)) fitted)]
      = [[0], [2], [0], [2], [2], [0], [2], [0], [0], [0], [0], [0]]
    ∧ (after (.stationSet 1 (u8 19 ++ u8 1 ++ u32 100000 ++ u32 10000000 ++ u32 1)) fitted).cfg.stations[18]
      = ⟨100000, 10000000, 1⟩ := by decide +kernel

theorem witness_tankAndChannelWritten : fitted.serving ∧ fitted.ccl.phase = .setup
    ∧ (after (.tankSet 1 (u8 15 ++ u8 2 ++ u8 19 ++ u8 4 ++ i16 (-3000) ++ u16 1040 ++ u8 1 ++ u16 40000)) fitted).cfg.tanks[15]
      = ⟨.starboard, 19, 4, -3000, 1040, false, 40000⟩
    ∧ [(after (.channelSet 1 (u8 47 ++ u8 0)) fitted).cfg.channels[47],
       (after (.channelSet 1 (u8 47 ++ u8 1 ++ u16 4095 ++ u16 0 ++ u16 40000 ++ u16 1000 ++ u8 255)) fitted).cfg.channels[47],
       (after (.channelSet 1 (u8 47 ++ u8 2 ++ u16 2000 ++ u8 1)) fitted).cfg.channels[47],
       (after (.channelSet 1 (u8 47 ++ u8 3)) fitted).cfg.channels[47]]
      = [.off, .level 4095 0 40000 1000 none, .switch 2000 true, .pulse] := by decide +kernel

/-- Channel 16, named afresh, in its three conditions; and the one pump 0 names already. -/
theorem witness_pumpAndValveWritten :
    let settle (x : Option Bool) : State :=
      { fitted with fcu := { fitted.fcu with channels := fitted.fcu.channels.set 17 (.switch x 0 none) } }
    let set : Instr := .pumpSet 1 (u8 0 ++ u8 30 ++ u8 60 ++ u8 120 ++ u16 10000 ++ u16 60000 ++ u8 17 ++ u8 40)
    let valve : Instr := .valveSet 1 (u8 20 ++ u8 120 ++ u8 17)
    fitted.serving ∧ fitted.ccl.phase = .setup ∧ fitted.cfg.pumps[(0 : PumpNo)].runChannel = some 16
    ∧ fitted.cfg.pumps[(0 : PumpNo)].runChannel ≠ some 17 ∧ fitted.cfg.valves[(20 : ValveNo)].channel = some 39
    ∧ fitted.fcu.channels[(47 : ChannelNo)].settled = none ∧ (settle none).fcu.channels[(17 : ChannelNo)].settled = some none
    ∧ (settle (some true)).fcu.channels[(17 : ChannelNo)].settled = some (some true)
    ∧ [(after set (settle none)).pva.pumps[0].proof, (after set (settle (some true))).pva.pumps[0].proof,
       (after set (settle (some false))).pva.pumps[0].proof] = [.unknown, .running, .stopped]
    ∧ [(after valve (settle none)).pva.valves[20].proved, (after valve (settle (some true))).pva.valves[20].proved]
      = [.unknown, .opened] := by decide +kernel

/-- A step whose target of 1000 mm is just outside the new lower bound, and berth limits at their ends. -/
theorem witness_boundsAndBerth : running.serving ∧ QueueSafe running ∧ LineSafe running
    ∧ running.tsq.slots[(3 : SlotNo)] = some (deballast 7 .run (some 0))
    ∧ ((after (.boundsSet 1 (u8 4 ++ u16 1001 ++ u16 40000)) running).tsq.slots[3].map (·.state)) = some .windDown
    ∧ (let held := holding (deballast 7 .queued none) (inPhase .ready)
      let winding := moving .windDown (busyPump .g50 .absent) openValve
      let shift : StepRec := { deballast 7 .run (some 0) with kind := .shift, source := some 5, dest := some 4, target := 20000 }
      let shifting : State := { holding shift running with pva := { running.pva with mode := .shift } }
      QueueSafe held ∧ LineSafe held ∧ (deballast 7 .queued none).targetTank = some 4
      ∧ (after (.boundsSet 1 (u8 4 ++ u16 1001 ++ u16 40000)) held).tsq.slots[3] = none
      ∧ QueueSafe winding ∧ LineSafe winding
      ∧ (after (.boundsSet 1 (u8 4 ++ u16 1001 ++ u16 40000)) winding).tsq.slots[3] = winding.tsq.slots[3]
      ∧ QueueSafe shifting ∧ LineSafe shifting ∧ shifting.tsq.slots[(3 : SlotNo)] = some shift ∧ 0 ≤ shifting.tanks[4].level
      ∧ ((after (.boundsSet 1 (u8 4 ++ u16 0 ++ u16 20000)) { shifting with
            tanks := shifting.tanks.set 4 { freshTank with level := 20000 } }).tsq.slots[3].map (·.outcome))
          = some (some .bound))
    ∧ sent (after (.boundsSet 1 (u8 4 ++ u16 40000 ++ u16 40000)) running) = [2]
    ∧ (after (.berthSet 1 (u16 40000 ++ u16 40000 ++ u16 2000)) running).berth = ⟨40000, 40000, 2000⟩
    ∧ sent (after (.berthSet 1 (u16 0 ++ u16 0 ++ u16 9)) running) = [2] := by
  (repeat' apply And.intro) <;> decide +kernel

/-! ### Readers: hypotheses met -/

/-- A current record is in place. -/
def recorded : State := { inPhase .final with cen := { fitted.cen with current := some record, sequence := 41 } }

theorem witness_readersReport : recorded.serving ∧ recorded.cen.current = some record ∧ fitted.cen.current = none
    ∧ parseTableGet [2, 19] = some (.station 18) ∧ parsePlantStatus [2] = some .candidates
    ∧ requestLengthOk (.pourStatus 1 [0, 48, 8]) = true ∧ parsePourStatus [0, 48, 8] = some (.plan 48 8)
    ∧ requestLengthOk (.totalsGet 1 [0, 8, 8]) = true ∧ parseTotalsGet [0, 8, 8] = some (.tanks 8 8)
    ∧ (sent (after (.conditionGet 1 [1, 19, 1]) recorded)).length = 1 + 4 + 12
    ∧ (sent (after (.conditionGet 1 [2, 0, 20]) recorded)).length = 1 + 4 + 20 * 10
    ∧ [sent (after (.conditionGet 1 [0]) fitted), sent (after (.conditionGet 1 [1, 19, 1]) fitted),
       sent (after (.conditionGet 1 [2, 0, 20]) fitted)] = [[12], [12], [12]]
    ∧ (sent (after (.stepList 1 [32, 8]) running)).take 1 = [0]
    ∧ (sent (after (.logRead 1 [0xFF, 0xFF, 0xFF, 0xFF, 16]) running)).take 1 = [0]
    ∧ (sent (after (.reportRead 1 [1, 0xFF, 0xFF, 200]) running)).take 1 = [0] := by decide +kernel

theorem witness_identify : fitted.serving
    ∧ sent (after (.identify 5 []) fitted) = [0, 0x0B, 0x24, 0xF0, 0x03, 0, 0, 0]
    ∧ sent (after (.identify 5 [0]) fitted) = [1] := by decide +kernel

/-! ### The field: hypotheses met -/

/-- Each row of the filter at the ends of its condition: the sample just inside and just outside the fault band, a third invalid sample, a fourth valid one. -/
theorem witness_scanEnd :
    let s := metering [5100, 5125, 5125, 5150] 0
    let stale (w : List Nat) : State :=
      { s with fcu := { s.fcu with channels := s.fcu.channels.set 4 (.level none w 0 false) } }
    s.powered = true ∧ s.fcu.scan.endsAt ≤ s.now ∧ s.cfg.channels[(4 : ChannelNo)] = .level 800 4000 20000 100 (some 4)
    ∧ s.fcu.channels[(4 : ChannelNo)] = .level none [5100, 5125, 5125, 5150] 0 true ∧ s.cfg.fedTank 4 = some 4
    ∧ fitted.ccl.phase = .setup ∧ s.ccl.phase ≠ .setup ∧ s.cen.inFlight = none
    ∧ (∃ c, fitted.cfg.channels[(47 : ChannelNo)] = c ∧ c = .off)
    ∧ [(after (.scanEnd (samples 700)) s).fcu.channels[4], (after (.scanEnd (samples 699)) s).fcu.channels[4],
       (after (.scanEnd (samples 4095)) s).fcu.channels[4],
       (after (.scanEnd (samples 800)) (stale [1, 2])).fcu.channels[4],
       (after (.scanEnd (samples 800)) (stale [1, 2, 3])).fcu.channels[4],
       (after (.scanEnd (samples 0)) (stale [1, 2, 3])).fcu.channels[4]]
      = [.level (some (700, true)) [5125, 5125, 5150, 0] 0 true,
         .level (some (699, false)) [5100, 5125, 5125, 5150] 1 true,
         .level (some (4095, true)) [5125, 5125, 5150, 20000] 0 true,
         .level (some (800, true)) [1, 2, 0] 0 false, .level (some (800, true)) [1, 2, 3, 0] 0 true,
         .level (some (0, false)) [] 0 false]
    ∧ (after (.scanEnd (samples 800)) (stale [1, 2, 3])).tanks[4].level = 2 := by
  refine ⟨?_, ?_, ?_, ?_, ?_, ?_, ?_, ?_, ⟨_, rfl, ?_⟩, ?_, ?_⟩ <;> decide +kernel

/-- The timer before its end and at it, the idle engine and the busy one, and SETUP. -/
theorem witness_scanTimer :
    let s := metering [5100, 5125, 5125, 5150] 0
    let busy : State := { s with cen := { s.cen with inFlight := some (.prediction ⟨.predict 0, 0, false, []⟩ (s.snapshot [])) } }
    let setup : State := { fitted with now := 1000 }
    fitted.powered = true ∧ fitted.now < fitted.fcu.scan.endsAt ∧ Settled fitted
    ∧ (after (.scanEnd (samples 800)) fitted).fcu = fitted.fcu
    ∧ (after (.scanEnd (samples 800)) s).fcu.scan = ⟨⟨1, 156⟩, 1000⟩
    ∧ (after (.scanEnd (samples 800)) s).cen.inFlight.isSome = true ∧ busy.cen.inFlight ≠ none
    ∧ (after (.scanEnd (samples 800)) busy).cen.pendingCurrent = true
    ∧ setup.ccl.phase = .setup ∧ setup.fcu.scan.endsAt ≤ setup.now
    ∧ (after (.scanEnd (samples 800)) setup).fcu.scan = ⟨⟨1, 156⟩, 2000⟩ := by decide +kernel

/-- Channel 16 with its contact closed and not yet reported; channel 40 at the top of its count, with step 7 on its pump. -/
def contacts : State :=
  { running with
    pins := { running.pins with contacts := running.pins.contacts.set 19 true }
    fcu := { running.fcu with channels :=
      (running.fcu.channels.set 19 (.switch none 0 none)).set 40 (.pulse 0xFFFFFFFF none) } }

theorem witness_contactsTaken : Settled contacts ∧ contacts.powered = true
    ∧ contacts.pins.contacts[(19 : ChannelNo)] = true ∧ contacts.pins.contacts[(20 : ChannelNo)] ≠ true
    ∧ contacts.fcu.channels[(20 : ChannelNo)] = .switch none 0 none
    ∧ contacts.cfg.channels[(19 : ChannelNo)] = .switch 10 false
    ∧ contacts.fcu.channels[(19 : ChannelNo)] = .switch none 0 none
    ∧ contacts.cfg.valves[(0 : ValveNo)].channel = some 19
    ∧ (after (.switchDebounceExpiry 19) contacts).pva.valves[0].proved = .opened
    ∧ contacts.fcu.channels[(40 : ChannelNo)] = .pulse 0xFFFFFFFF none ∧ contacts.cfg.flowPumps 40 = [0]
    ∧ contacts.tsq.stepOn 0 = some (3, deballast 7 .run (some 0)) ∧ contacts.cfg.flowPumps 41 = [1]
    ∧ contacts.cfg.plantBound 43 = false
    ∧ (let c : State := { contacts with
        cfg := { tables with channels := tables.channels.set 43 (.switch 10 true) }
        fcu := { contacts.fcu with channels := contacts.fcu.channels.set 43 (.switch (some true) 0 none) }
        lnk := { contacts.lnk with enabled := 0x3FF, tx := .notice ⟨3, 5, 0, []⟩ } }
      c.cfg.plantBound 43 = false ∧ c.lnk.tx ≠ .idle ∧ c.lnk.enables 8 = true ∧ some true ≠ some c.pins.contacts[(43 : ChannelNo)]
      ∧ ((after (.switchDebounceExpiry 43) c).lnk.notices[Notice.sensor.place].map (·.content)) = some [43, 0])
    ∧ (after (.flowPulse 40) contacts).fcu.channels[40] = .pulse 0 (some 0)
    ∧ ((after (.flowPulse 40) contacts).tsq.slots[3].map (·.litres)) = some 100 := by decide +kernel

/-- A pulse after 49 ms, within the minimum interval of 50 ms, sets METER, clears the no-flow timer and is logged behind its alarm; one after 50 ms restarts the timer (R126, R127). -/
theorem witness_pulseJudged :
    let at_ (now : Nat) : State := { contacts with now := now, fcu := { contacts.fcu with channels := contacts.fcu.channels.set 40 (.pulse 5 (some 0)) } }
    let fast := after (.flowPulse 40) (at_ 49)
    let slow := after (.flowPulse 40) (at_ 50)
    (at_ 49).cfg.flowPumps 40 = [0] ∧ (at_ 49).cfg.pumps[(0 : PumpNo)].minInterval = 50
    ∧ (at_ 49).pva.pumps[(0 : PumpNo)].state = .busy ∧ (at_ 49).pva.pumps[(0 : PumpNo)].meter = false
    ∧ (at_ 49).pva.pumps[(0 : PumpNo)].noFlowUntil = some 30000
    ∧ fast.pva.pumps[0].meter = true ∧ fast.pva.pumps[0].noFlowUntil = none ∧ fast.lsl.faults.meter[0] = true
    ∧ (fast.rcu.log.map fun e => (e.kind, e.params)) = [(.alarm, #v[3, 34, 0, 0]), (.meterFault, #v[0, 49, 50, 7])]
    ∧ slow.pva.pumps[0].meter = false ∧ slow.pva.pumps[0].noFlowUntil = some 30050 ∧ slow.rcu = (at_ 50).rcu := by
  decide +kernel

theorem witness_tankLocks :
    let faulty : State := running.setValve 4 { openValve with faulted := true }
    let locked (l : Lock) (s : State) : State := { s with tanks := s.tanks.set 4 { s.tanks[4] with lock := l } }
    running.serving ∧ QueueSafe running ∧ LineSafe running ∧ running.tanks[(4 : TankNo)].lock = .unlocked
    ∧ running.tsq.slots[(3 : SlotNo)] = some (deballast 7 .run (some 0)) ∧ (deballast 7 .run (some 0)).names 4 = true
    ∧ (locked .operator running).tanks[(4 : TankNo)].lock = .operator
    ∧ (locked .valve faulty).tanks[(4 : TankNo)].lock = .valve ∧ faulty.pva.valves[tankValve 4].faulted = true
    ∧ sent (after (.tankUnlock 1 [4]) (locked .valve faulty)) = [12]
    ∧ (after (.tankUnlock 1 [4]) (locked .valve running)).tanks[4].lock = .unlocked
    ∧ sent (after (.tankUnlock 1 [16]) running) = [2] ∧ sent (after (.tankUnlock 1 [4, 4]) running) = [1]
    ∧ sent (after (.tankLock 1 [16]) running) = [2] ∧ sent (after (.tankLock 1 []) running) = [1]
    ∧ running.ccl.phase ≠ .setup ∧ running.cen.inFlight = none ∧ (after (.tankLock 1 [4]) running).cen.inFlight.isSome = true
    ∧ (after (.tankLock 1 [15]) fitted).cen.inFlight = none
    ∧ ((after (.tankLock 1 [4]) running).tsq.slots[3].map (·.outcome)) = some (some .locked) := by
  (repeat' apply And.intro) <;> decide +kernel

/-! ### The engine, the lines: hypotheses met -/

theorem witness_engineArithmetic : roundDiv 5 2 = 3 ∧ roundDiv (-5) 2 = -3 ∧ soundingOk soundings = true
    ∧ soundings.getLast? = some ⟨18500, 71000⟩
    ∧ ((List.range 20).map (Item.share ⟨7, 16, 4, 0⟩)).drop 16 = [2, 2, 2, 1]
    ∧ (List.replicate 20 0 |>.set 0 1 |>.set 19 1 |>.filter (· != 0)).length = 2
    ∧ 0 < (hullSums (List.replicate 20 0 |>.set 0 1 |>.set 19 1) (List.replicate 20 0)).determinant := by decide +kernel

/-- The engine with four predictions waiting, with three and one in flight, and idle; and eight overrides. -/
def waitingOn (n : Nat) : State :=
  { inPhase .ready with cen := { fitted.cen with
    inFlight := some (.current (fitted.snapshot []))
    queue := List.replicate n ⟨.predict 0, 0, false, []⟩ } }

theorem witness_predictTaken :
    let body : List Byte := u8 1 ++ u8 8 ++ (List.range 8).flatMap fun i => u8 0 ++ u8 i ++ u32 40000
    (waitingOn 4).serving ∧ requestLengthOk (.predict 5 body) = true
    ∧ parsePredict body = some (true, (List.finRange 8).map fun i => .tank ⟨i.val, by omega⟩ 40000)
    ∧ (waitingOn 4).ccl.phase ≠ .setup ∧ 4 ≤ (waitingOn 4).cen.queue.length ∧ (waitingOn 3).cen.queue.length < 4
    ∧ (inPhase .ready).cen.inFlight = none ∧ (inPhase .ready).cen.pendingCurrent = false
    ∧ sent (after (.predict 5 body) fitted) = [3] ∧ sent (after (.predict 5 body) (waitingOn 4)) = [4]
    ∧ (after (.predict 5 body) (waitingOn 3)).cen.queue.length = 4 := by decide +kernel

theorem witness_currentRecordTaken :
    let s : State := { waitingOn 1 with
      rcu := { fitted.rcu with arrival := .pending 9 }
      ptr := { fitted.ptr with start := .pending (Vector.replicate 16 0) } }
    s.powered = true ∧ s.cen.inFlight = some (.current (fitted.snapshot []))
    ∧ s.cen.queue = [⟨.predict 0, 0, false, []⟩] ∧ (waitingOn 0).cen.queue = [] ∧ (waitingOn 0).cen.pendingCurrent = false
    ∧ s.rcu.arrival = .pending 9 ∧ s.ptr.start = .pending (Vector.replicate 16 0) := by decide +kernel

/-- A draft limit of 1 mm makes a STOP record; LSL takes it where all was CLEAR, every notice enabled while a frame is being sent. -/
theorem witness_recordJudged :
    let snap := State.snapshot [] { fitted with berth := ⟨1, 0, 0⟩ }
    let s : State := { inPhase .ready with
      cen := { fitted.cen with inFlight := some (.current snap) }
      lnk := { fitted.lnk with enabled := 0x3FF, tx := .notice ⟨3, 5, 0, []⟩ } }
    let t := s.limitsTake (snap.compute false 1 (snap.masses []))
    s.powered = true ∧ s.cen.inFlight = some (.current snap) ∧ s.cen.queue = [] ∧ s.cen.pendingCurrent = false
    ∧ s.lnk.tx ≠ .idle ∧ s.lnk.enables 5 = true ∧ s.lnk.enables 3 = true ∧ fitted.lnk.enables 5 = false
    ∧ s.rcu.nextSequence = some 1 ∧ 1 + 16 ≤ Config.maxU32 ∧ s.lsl.overallBand = .clear ∧ t.lsl.overallBand = .stop
    ∧ (t.lnk.notices[Notice.conditionBand.place]).isSome = true ∧ t.lsl.groups[1] = ⟨true, true⟩
    ∧ (t.rcu.log.map fun e => (e.kind, e.params)) = [(.alarm, #v[1, BandClass.draft.code, 255, 0])]
    ∧ s.lsl.line = false
    ∧ (let paced : State := { s with pmu := { s.pmu with unit := .awaitAnswer 0 } }
      paced.pmu.unit ≠ .idle ∧ paced.pmu.lowReported = false
      ∧ paced.pmu.counter - paced.cfg.permit.badStep < paced.cfg.permit.lower
      ∧ ((paced.limitsTake (snap.compute false 1 (snap.masses []))).lnk.notices[Notice.alarm.place].map (·.content))
        = some [2, 21, 255, 0, 1, 1, 1]) := by
  (repeat' apply And.intro) <;> decide +kernel

theorem witness_predictionReplies :
    let q : PredictionRequest := ⟨.predict 5, 0, false, []⟩
    let s : State := { inPhase .ready with
      cen := { fitted.cen with inFlight := some (.prediction q (fitted.snapshot [])) }
      lnk := { fitted.lnk with slots := fitted.lnk.slots.set 0 (.reserved 0x31 5) } }
    s.powered = true ∧ s.cen.inFlight = some (.prediction q (fitted.snapshot []))
    ∧ s.lnk.slots[(0 : ReplyNo)] = .reserved 0x31 5 ∧ s.cen.pendingCurrent = false
    ∧ (sent (after .predictionComplete s)).take 1 = [0] := by decide +kernel

/-- LOADER STOP in each condition that STOP_ACK meets. -/
theorem witness_stopAcknowledged :
    let s (line ack cause : Bool) : State :=
      { fitted with lsl := { fitted.lsl with line := line, acknowledged := ack, causes := ⟨cause, false, false⟩ } }
    (s true false false).serving ∧ sent (after (.stopAck 1 []) (s false false false)) = [12]
    ∧ sent (after (.stopAck 1 [0]) (s true false false)) = [1]
    ∧ sent (after (.stopAck 1 []) (s true true true)) = [0]
    ∧ (after (.stopAck 1 []) (s true false false)).lsl.line = false
    ∧ (after (.stopAck 1 []) (s true false true)).lsl.line = true
    ∧ (after (.stopAck 1 []) (s true false true)).lsl.acknowledged = true
    ∧ ((s true true true).stopChange fun l => { l with causes := ⟨false, false, false⟩ }).lsl.line = false := by
  decide +kernel

theorem witness_alarmAcknowledged :
    let s : State := { fitted with lsl := { fitted.lsl with
      groups := fitted.lsl.groups.set 3 ⟨true, true⟩, faults := fitted.lsl.faults.put true (.pump 0), alarmLine := true } }
    s.serving ∧ AlarmSafe fitted ∧ (∀ g : Fin 4, fitted.lsl.groups[g].unacknowledged = false) ∧ fitted.lsl.pulseUntil = none
    ∧ (after (.alarmAck 1 []) s).lsl.groups[3] = ⟨true, false⟩ ∧ (after (.alarmAck 1 []) s).lsl.alarmLine = true
    ∧ sent (after (.alarmAck 1 [0]) s) = [1] := by decide +kernel

theorem witness_limitSettings :
    let pulsing : State := { fitted with
      cfg := { tables with alarm := ⟨.pulse, 30, Vector.replicate 4 false⟩ }
      lsl := { fitted.lsl with pulseUntil := some 0, alarmLine := true } }
    fitted.serving ∧ fitted.ccl.phase = .setup ∧ (after (.stopSet 1 [8, 0]) fitted).cfg.stop = ⟨8, false⟩
    ∧ sent (after (.stopSet 1 [9, 0]) fitted) = [2]
    ∧ (after (.alarmSet 1 [1, 30, 0, 1, 1, 1]) fitted).cfg.alarm = ⟨.pulse, 30, #v[true, false, false, false]⟩
    ∧ pulsing.powered = true ∧ Settled pulsing ∧ pulsing.lsl.pulseUntil ≠ none ∧ pulsing.cfg.alarm.mode = .pulse
    ∧ (after .alarmPulseExpiry pulsing).lsl.alarmLine = false ∧ fitted.lsl.pulseUntil = none := by decide +kernel

/-! ### Steps and the plant: hypotheses met -/

/-- A STEP_ADD body: a DEBALLAST of tank 4 to a target, ANY pump, NORMAL, a gate or none. -/
def stepBody (target pour edge : Nat) : List Byte :=
  [1, 4, 255] ++ u16 target ++ [3, 0] ++ u8 pour ++ u8 edge

theorem witness_stepReserved :
    let s : State := { inPhase .ready with tanks := fitted.tanks.set 4 { freshTank with stale := false } }
    fitted.serving ∧ fitted.ccl.phase = .setup ∧ sent (after (.stepAdd 1 (stepBody 500 255 255)) fitted) = [3]
    ∧ [sent (after (.stepAdd 1 (stepBody 40001 255 255)) s), sent (after (.stepAdd 1 (stepBody 500 255 0)) s),
       sent (after (.stepAdd 1 (stepBody 500 49 0)) s), sent (after (.stepAdd 1 (stepBody 500 0 0)) s),
       sent (after (.stepAdd 1 (stepBody 500 1 2)) s),
       sent (after (.stepAdd 1 ([1, 4, 255] ++ u16 500 ++ [2, 0, 255, 255])) s),
       sent (after (.stepAdd 1 ([2, 4, 4] ++ u16 500 ++ [3, 0, 255, 255])) s)] = List.replicate 7 [2]
    ∧ s.serving ∧ s.ccl.phase ≠ .setup ∧ (stepBody 500 255 255).length = 9 ∧ (parseStepAdd (stepBody 500 255 255)).isSome
    ∧ QueueSafe s
    ∧ [sent (after (.stepAdd 1 (stepBody 499 255 255)) s), sent (after (.stepAdd 1 (stepBody 500 1 0)) s),
       sent (after (.stepAdd 1 (stepBody 500 255 255)) (inPhase .ready)),
       sent (after (.stepAdd 1 (stepBody 500 255 255)) { waitingOn 4 with tanks := s.tanks }),
       sent (after (.stepAdd 1 (stepBody 500 255 255)) { s with tanks := s.tanks.set 4 { freshTank with lock := .operator } }),
       sent (after (.stepAdd 1 (stepBody 500 255 255))
          { s with tsq := { s.tsq with slots := Vector.replicate 32 (some (deballast 7 .queued none)) } })]
      = [[2], [6], [8], [4], [7], [5]]
    ∧ ((after (.stepAdd 1 (stepBody 500 255 255)) s).tsq.slots[0].map (·.number)) = some 1
    ∧ (after (.stepAdd 1 (stepBody 500 255 255)) s).cen.inFlight.isSome := by decide +kernel

theorem witness_stepDecided :
    let x := { deballast 9 .checking none with timeAdmitted := none }
    let s := checking x
    s.powered = true ∧ QueueSafe s ∧ LineSafe s
    ∧ s.cen.inFlight = some (.prediction ⟨.step 9, 0, true, []⟩ ((inPhase .ready).snapshot [x.move]))
    ∧ s.tsq.slots[(3 : SlotNo)] = some x ∧ s.lnk.slots[(0 : ReplyNo)] = .reserved 0x51 1
    ∧ ((after .predictionComplete s).tsq.slots[3].map (·.state)) = some .waiting
    ∧ (after .predictionComplete (checking { x with cancelRequested := true })).tsq.slots[3] = none
    ∧ (after .predictionComplete (checking { x with cancelRequested := true })).lnk.slots[0] = .filled 0x51 1 .aborted [9, 4]
    ∧ ((after .predictionComplete (checking { x with gate := some ⟨1, .endEdge⟩ })).tsq.slots[3].map (·.state))
      = some .queued := by decide +kernel

theorem witness_stepCancelled :
    let held (st : StepState) : State := holding (deballast 7 st none) (inPhase .ready)
    let winding := moving .windDown (busyPump .g50 .absent) openValve
    running.serving ∧ QueueSafe running ∧ LineSafe running ∧ QueueSafe (held .queued) ∧ LineSafe (held .queued)
    ∧ QueueSafe winding ∧ LineSafe winding
    ∧ [sent (after (.stepCancel 1 [255]) running), sent (after (.stepCancel 1 [7]) winding),
       sent (after (.stepCancel 1 [7]) running)] = [[6], [12], [0]]
    ∧ (after (.stepCancel 1 [7]) (held .queued)).tsq.slots[3] = none
    ∧ ((after (.stepCancel 1 [7]) running).tsq.slots[3].map (·.state)) = some .windDown
    ∧ QueueSafe (checking (deballast 9 .checking none)) ∧ LineSafe (checking (deballast 9 .checking none))
    ∧ ((after (.stepCancel 1 [9]) (checking (deballast 9 .checking none))).tsq.slots[3].map (·.cancelRequested)) = some true := by
  (repeat' apply And.intro) <;> decide +kernel

theorem witness_pinTaken :
    let s : State := { waiting with pva := { waiting.pva with pumps := fitted.pva.pumps } }
    s.serving ∧ QueueSafe s ∧ (∀ p : PumpNo, { s with pva := { s.pva with pin := some 7 } }.winner p = none)
    ∧ (after (.stepPin 1 [7]) s).pva.pin = some 7 ∧ (after (.stepPin 1 [0]) s).pva.pin = none
    ∧ sent (after (.stepPin 1 [255]) s) = [6] ∧ sent (after (.stepPin 1 [7]) running) = [12]
    ∧ waiting.serving ∧ QueueSafe waiting ∧ LineSafe waiting
    ∧ { waiting with pva := { waiting.pva with pin := some 7 } }.winner 0 = some 3
    ∧ (after (.stepPin 1 [7]) waiting).tsq.slots[3] = some { deballast 7 .waiting none with state := .lineup, grantedPump := some 0 }
    ∧ (after (.stepPin 1 [7]) waiting).pva.pin = none := by
  (repeat' apply And.intro) <;> decide +kernel

theorem witness_grantsAreFit : waiting.winner 0 = some 3 ∧ waiting.winner 1 = some 3 ∧ waiting.winner 2 = none
    ∧ waiting.tsq.slots[(3 : SlotNo)] = some (deballast 7 .waiting none) ∧ (deballast 7 .waiting none).shaped = true
    ∧ waiting.pva.grants < Config.maxU32 ∧ (waiting.grant 0 3).pva.mode = .drain
    ∧ (waiting.grant 0 3).pva.valves[17].watch = .opening 30000
    ∧ (let full : State := { arbitration .free with pva := { (arbitration .free).pva with grants := Config.maxU32 } }
      full.tsq.slots[(2 : SlotNo)].isSome = true ∧ full.pva.grants = Config.maxU32
      ∧ ((full.grant 0 2).pva.grants, (full.grant 0 2).pva.pumps[1].fairness) = (1, none)
      ∧ ((full.grant 0 2).pva.candidates.map fun c => (c.step, c.mark)) = [(20, 0), (22, 0), (23, 0)]) := by decide +kernel

/-- The claims of R117 at event 1 of section 6.9: step 20 waited at pump 1's URGENT grant; on pump 0, whose memory is NORMAL, no step claims. -/
theorem witness_fairness :
    let s := arbitration .free
    let claims (p : PumpNo) (e : SlotNo × StepRec × Candidate) : Bool := s.canUse p e.2.1 e.2.2 && e.2.1.cls == .normal
      && s.pva.pumps[p].fairness.any fun f => f.1 == .urgent && decide (e.2.2.mark < f.2)
    s.pva.pin = none ∧ s.candidateList.map (·.1) = [1, 2, 3, 4]
    ∧ (s.candidateList.map (claims 1)) = [true, false, false, false] ∧ s.winner 1 = some 1
    ∧ (s.candidateList.map (claims 0)) = [false, false, false, false]
    ∧ (s.candidateList.map fun e => s.canUse 0 e.2.1 e.2.2) = [true, true, true, false] ∧ s.winner 0 = some 2
    ∧ waiting.candidateList.map (fun e => waiting.canUse 0 e.2.1 e.2.2 && e.2.1.cls == .normal) = [true] := by decide +kernel

theorem witness_faultsCleared :
    let pump (e : Bool) : State := { fitted.setPump 0 (fitted.pva.pumps[0]).faulted with pins := { fitted.pins with emergency := e } }
    let meter : State := fitted.setPump 2 { fitted.pva.pumps[2] with meter := true }
    let valve : State := fitted.setValve 20 ⟨false, .closed, .absent, true⟩
    let trip : State := fitted.setPump 1 { fitted.pva.pumps[1] with state := .tripped }
    fitted.serving ∧ (after (.faultClear 1 [0, 0]) (pump false)).pva.pumps[0].state = .free
    ∧ (after (.faultClear 1 [0, 0]) (pump true)).pva.pumps[0].state = .tripped
    ∧ (after (.faultClear 1 [1, 2]) meter).pva.pumps[2].meter = false
    ∧ meter.pva.pumps[(2 : PumpNo)].meter = true
    ∧ (let flowing : State := moving .run { busyPump .g100 .absent with meter := true } openValve
      flowing.serving ∧ flowing.pva.pumps[(0 : PumpNo)].meter = true ∧ ((flowing.tsq.stepOn 0).map (·.2.state)) = some .run
      ∧ (after (.faultClear 1 [1, 0]) flowing).pva.pumps[0].noFlowUntil
          = some (1000 * fitted.cfg.pumps[(0 : PumpNo)].noFlowTime))
    ∧ trip.pins.emergency = false ∧ trip.pva.pumps[(1 : PumpNo)].state = .tripped
    ∧ (∀ p : PumpNo, (trip.setPump 1 fitted.pva.pumps[1]).winner p = none)
    ∧ (after (.faultClear 1 [2, 20]) valve).pva.valves[20].faulted = false
    ∧ (after (.faultClear 1 [3, 0]) trip).pva.pumps[1].state = .free
    ∧ [sent (after (.faultClear 1 [0, 0]) fitted), sent (after (.faultClear 1 [3, 0]) fitted)] = [[12], [12]] := by
  decide +kernel

theorem witness_emergencyInput :
    let active : State := after .emergencyStopActivation running
    QueueSafe running ∧ running.pins.emergency = false ∧ running.powered = true
    ∧ active.pins.emergency = true ∧ active.powered = true ∧ QueueSafe active
    ∧ active.pva.pumps[0].state = .tripped ∧ (active.tsq.slots[3].map (·.outcome)) = some (some .tripped)
    ∧ active.lsl.line = true ∧ (after .emergencyStopRelease active).lsl.causes.emergency = false
    ∧ { running with powered := false }.powered = false
    ∧ running.rcu.nextSequence = some 1 ∧ 1 + 64 ≤ Config.maxU32
    ∧ (active.rcu.log.getLast?.map fun e => (e.kind, e.params)) = some (.emergencyOn, #v[3, 1, 0, 0])
    ∧ active.rcu.nextSequence.all (· + 64 ≤ Config.maxU32) = true
    ∧ ((after .emergencyStopRelease active).rcu.log.getLast?.map (·.kind)) = some .emergencyOff := by
  (repeat' apply And.intro) <;> decide +kernel

theorem witness_valveWatches :
    let opening : Valve := { openValve with proved := .unknown, watch := .opening 5 }
    let s := moving .lineup (busyPump .g0 .absent) opening
    s.powered = true ∧ QueueSafe s ∧ PlantSafe s ∧ s.pva.valves[(4 : ValveNo)].watch = .opening 5
    ∧ s.tsq.holder 4 = some (3, deballast 7 .lineup (some 0))
    ∧ (after (.valveOpenTimeout 4) s).pva.valves[4].faulted = true
    ∧ ((after (.valveOpenTimeout 4) s).tsq.slots[3].map (·.outcome)) = some (some .valve)
    ∧ fitted.pva.valves[(4 : ValveNo)].watch = .closing 30000 ∧ fitted.pva.valves[(4 : ValveNo)].open_ = false
    ∧ (after (.valveCloseTimeout 4) fitted).tanks[4].lock = .valve
    ∧ (after (.valveCloseTimeout 16) fitted).tanks[4].lock = .unlocked
    ∧ (∀ p : PumpNo, fitted.winner p = none) ∧ QueueSafe fitted ∧ PlantSafe fitted ∧ Settled fitted := by
  (repeat' apply And.intro) <;> decide +kernel

/-- The feedback of valve 4, on channel 23: the last of its lineup proved open, one of two, LOST in each state, and UNCOMMANDED. -/
theorem witness_valvesJudged :
    let opening : Valve := { openValve with proved := .unknown, watch := .opening 5 }
    let x (st : StepState) := deballast 7 st (some 0)
    let first := seen 23 true (moving .lineup (busyPump .g0 .absent) opening)
    let last := first.setValve 17 openValve
    let lost (st : StepState) := moving st (busyPump (if st = .lineup then .g0 else .g50) .absent) openValve
    let strayed := seen 23 true waiting
    tables.channels[(23 : ChannelNo)] = .switch 10 false ∧ tables.runPumps 23 = [] ∧ tables.boundValves 23 = [4]
    ∧ [first, last, lost .lineup, lost .run, lost .windDown, strayed].all (fun s =>
        s.powered && s.cfg == tables && s.fcu.channels[(23 : ChannelNo)] == .switch none 0 none) = true
    ∧ QueueSafe first ∧ PlantSafe first ∧ QueueSafe last ∧ PlantSafe last
    ∧ last.pva.valves[(4 : ValveNo)].watch = .opening 5 ∧ last.tsq.holder 4 = some (3, x .lineup)
    ∧ (x .lineup).valves = [4, 17] ∧ last.pva.valves[(17 : ValveNo)].watch = .absent
    ∧ (after (.switchDebounceExpiry 23) last).tsq.slots[3] = some (x .ramp)
    ∧ (after (.switchDebounceExpiry 23) last).pva.pumps[0].gear = .g25
    ∧ (after (.switchDebounceExpiry 23) first).tsq.slots[3] = some (x .lineup)
    ∧ QueueSafe (lost .lineup) ∧ PlantSafe (lost .lineup) ∧ QueueSafe (lost .run) ∧ PlantSafe (lost .run)
    ∧ QueueSafe (lost .windDown) ∧ PlantSafe (lost .windDown)
    ∧ ([StepState.lineup, .run, .windDown].map fun st => (lost st).tsq.holder 4)
      = [some (3, x .lineup), some (3, x .run), some (3, x .windDown)]
    ∧ (lost .run).pva.valves[(4 : ValveNo)] = openValve
    ∧ ((after (.switchDebounceExpiry 23) (lost .lineup)).tsq.slots[3].map (·.outcome)) = some (some .valve)
    ∧ (after (.switchDebounceExpiry 23) (lost .run)).tsq.slots[3] = some (x .run)
    ∧ ((after (.switchDebounceExpiry 23) (lost .windDown)).tsq.slots[3].map (·.faultMark)) = some true
    ∧ QueueSafe strayed ∧ PlantSafe strayed ∧ strayed.pva.valves[(4 : ValveNo)] = ⟨false, .closed, .absent, false⟩
    ∧ (after (.switchDebounceExpiry 23) strayed).tanks[4].lock = .valve := by
  (repeat' apply And.intro) <;> decide +kernel

/-- Step 7 in WIND_DOWN with its pump stopped, TV4 closing on channel 23 and OVB0 closed: it ends as DONE where TV4 proves closed, and as FAULTED, behind the entries of the fault, where its travel time runs out; with OVB0 still closing it stays. -/
theorem witness_windDownEnds :
    let closing : Valve := { open_ := false, proved := .opened, watch := .closing 5, faulted := false }
    let x : StepRec := { deballast 7 .windDown (some 0) with outcome := some .reached }
    let first : State := { moving .windDown (busyPump .g0 .absent) closing with
      tsq := { (inPhase .loading).tsq with slots := (inPhase .loading).tsq.slots.set 3 (some x), order := [3], lastNumber := 7 } }
    let last := first.setValve 17 { closing with proved := .closed, watch := .absent }
    let proved := after (.switchDebounceExpiry 23) last
    let failed := after (.valveCloseTimeout 4) last
    QueueSafe first ∧ PlantSafe first ∧ QueueSafe last ∧ PlantSafe last ∧ LogSafe last
    ∧ tables.boundValves 23 = [4] ∧ last.fcu.channels[(23 : ChannelNo)] = .switch none 0 none
    ∧ last.pins.contacts[(23 : ChannelNo)] = false ∧ last.pva.valves[(4 : ValveNo)] = closing
    ∧ last.tsq.holder 4 = some (3, x) ∧ first.tsq.holder 4 = some (3, x) ∧ x.valves = [4, 17]
    ∧ [proved, failed].all (fun t => t.tsq.slots[3] == none && t.tsq.order == [] && t.pva.mode == .idle
        && t.pva.pumps[0] == { last.pva.pumps[0] with state := .free, granted := none }) = true
    ∧ proved.rcu.entriesFrom 1 = [(.stepEnd, #v[7, 1, 0, 0])]
    ∧ failed.rcu.entriesFrom 1 = [(.alarm, #v[3, 33, 4, 0]), (.valveFault, #v[4, 2, 7, 0]), (.tankLock, #v[4, 1, 0, 0]),
        (.stepEnd, #v[7, 1, 0, 2])]
    ∧ (after (.switchDebounceExpiry 23) first).tsq.slots[3] = some x
    ∧ (after (.switchDebounceExpiry 23) first).pva.valves[4] = { closing with proved := .closed, watch := .absent }
    ∧ (after (.valveCloseTimeout 4) first).tsq.slots[3] = some { x with closeFailed := [4] } := by
  (repeat' apply And.intro) <;> decide +kernel

/-- The entries of a lineup that fails: its OPENING watch run out, and its proof lost. -/
theorem witness_lineupFails :
    let opening : Valve := { openValve with proved := .unknown, watch := .opening 5 }
    let late := moving .lineup (busyPump .g0 .absent) opening
    let lost := moving .lineup (busyPump .g0 .absent) openValve
    QueueSafe late ∧ PlantSafe late ∧ LogSafe late ∧ late.tsq.holder 4 = some (3, deballast 7 .lineup (some 0))
    ∧ (after (.valveOpenTimeout 4) late).rcu.entriesFrom 1 = [(.alarm, #v[3, 33, 4, 0]), (.valveFault, #v[4, 0, 7, 0])]
    ∧ (after (.switchDebounceExpiry 23) lost).rcu.entriesFrom 1
      = [(.alarm, #v[3, 33, 4, 0]), (.valveFault, #v[4, 1, 7, 0])] := by
  (repeat' apply And.intro) <;> decide +kernel

theorem witness_gearTimers :
    let at_ (st : StepState) (g : Gear) (w : RunWatch) : State :=
      moving st { busyPump g w with gearUntil := some 0 } openValve
    (at_ .ramp .g75 .absent).pva.pumps[(0 : PumpNo)].gearUntil = some 0
    ∧ (at_ .ramp .g75 .absent).tsq.stepOn 0 = some (3, deballast 7 .ramp (some 0)) ∧ Settled (at_ .ramp .g75 .absent)
    ∧ (after (.rampGearExpiry 0) (at_ .ramp .g75 .absent)).pva.pumps[0].gear = .g100
    ∧ (after (.rampGearExpiry 0) (at_ .ramp .g100 (.starting 9))).pva.pumps[0].gearUntil = none
    ∧ ((after (.rampGearExpiry 0) (at_ .ramp .g100 .absent)).tsq.slots[3].map (·.state)) = some .windDown
    ∧ (after (.windDownGearExpiry 0) (at_ .windDown .g50 .absent)).pva.pumps[0].gear = .g25
    ∧ (after (.windDownGearExpiry 0) (at_ .windDown .g25 .absent)).pva.pumps[0].run = false := by decide +kernel

theorem witness_pumpWatches :
    let s := moving .ramp (busyPump .g25 (.starting 9)) openValve
    s.powered = true ∧ QueueSafe s ∧ PlantSafe s ∧ s.pva.pumps[(0 : PumpNo)].watch = .starting 9
    ∧ (after (.pumpStartTimeout 0) s).pva.pumps[0].state = .faulted
    ∧ ((after (.pumpStartTimeout 0) s).tsq.slots[3].map (·.outcome)) = some (some .pump)
    ∧ (∀ q : PumpNo, s.winner q = none) ∧ Settled s ∧ after (.pumpStopTimeout 0) s = s ∧ after (.pumpStartTimeout 1) s = s
    ∧ s.pva.pumps[(0 : PumpNo)].noFlowUntil = none ∧ after (.noFlowExpiry 0) s = s
    ∧ s.pva.pumps[(1 : PumpNo)].watch = .stopping 10000 ∧ (after (.pumpStopTimeout 1) s).lsl.faults.pump[1] = true
    ∧ running.pva.pumps[(0 : PumpNo)].watch = .absent ∧ (∀ q : PumpNo, running.winner q = none) ∧ Settled running
    ∧ QueueSafe running ∧ PlantSafe running
    ∧ running.pva.pumps[(0 : PumpNo)].noFlowUntil = some 30000
    ∧ ((after (.noFlowExpiry 0) running).tsq.slots[3].map (·.outcome)) = some (some .noFlow) := by
  (repeat' apply And.intro) <;> decide +kernel

/-- The run-feedback of pump 0, on channel 16: proved in its watch, LOST in RUN and in WIND_DOWN, and UNCOMMANDED. -/
theorem witness_pumpsJudged :
    let started := seen 16 true (moving .ramp (busyPump .g25 (.starting 9)) openValve)
    let winding := moving .windDown (busyPump .g50 .absent) openValve
    let strayed := seen 16 true waiting
    tables.channels[(16 : ChannelNo)] = .switch 10 false ∧ tables.runPumps 16 = [0] ∧ tables.boundValves 16 = []
    ∧ [started, running, winding, strayed].all (fun s =>
        s.powered && s.cfg == tables && s.fcu.channels[(16 : ChannelNo)] == .switch none 0 none) = true
    ∧ QueueSafe started ∧ PlantSafe started ∧ QueueSafe winding ∧ PlantSafe winding ∧ QueueSafe strayed ∧ PlantSafe strayed
    ∧ started.pva.pumps[(0 : PumpNo)].watch = .starting 9 ∧ (after (.switchDebounceExpiry 16) started).pva.pumps[0].watch = .absent
    ∧ running.pva.pumps[(0 : PumpNo)].proof ≠ .stopped ∧ running.pva.pumps[(0 : PumpNo)].run = true
    ∧ ((after (.switchDebounceExpiry 16) running).tsq.slots[3].map (·.outcome)) = some (some .pump)
    ∧ (after (.switchDebounceExpiry 16) running).pva.pumps[0].state = .faulted
    ∧ ((after (.switchDebounceExpiry 16) winding).tsq.slots[3].map (·.faultMark)) = some true
    ∧ strayed.pva.pumps[(0 : PumpNo)].state = .free ∧ strayed.pva.pumps[(0 : PumpNo)].watch = .absent
    ∧ strayed.pva.pumps[(0 : PumpNo)].proof = .unknown
    ∧ (after (.switchDebounceExpiry 16) strayed).lsl.faults.pump[0] = true
    ∧ strayed.lsl.faults.pump[(0 : PumpNo)] = false
    ∧ (let told : State := { strayed with lnk := { strayed.lnk with enabled := 0x3FF, tx := .notice ⟨3, 5, 0, []⟩ } }
      told.lnk.enables 3 = true ∧ told.lnk.tx ≠ .idle
      ∧ ((after (.switchDebounceExpiry 16) told).lnk.notices[Notice.alarm.place].map (·.content))
          = some [3, 32, 0, 0, 1, 1, 1]) := by
  (repeat' apply And.intro) <;> decide +kernel

/-- The step and the entries of pump 0's faults: START in WIND_DOWN, STOP while BUSY and while TRIPPED, LOST in RUN, and UNCOMMANDED in WIND_DOWN. -/
theorem witness_pumpFaults :
    let starting := moving .windDown (busyPump .g25 (.starting 9)) openValve
    let stopping := moving .windDown (busyPump .g0 (.stopping 9)) openValve
    let tripped := stopping.setPump 0 { busyPump .g0 (.stopping 9) with state := .tripped, granted := none }
    let strayed := seen 16 true (moving .windDown { busyPump .g0 .absent with proof := .stopped } openValve)
    let step (t : State) := t.tsq.slots[(3 : SlotNo)]
    let marked : StepRec := { deballast 7 .windDown (some 0) with faultMark := true }
    let entries (cause number : Nat) : List (EntryKind × Vector Nat 4) :=
      [(.alarm, #v[3, 32, 0, 0]), (.pumpFault, #v[0, cause, number, 0])]
    QueueSafe starting ∧ PlantSafe starting ∧ LogSafe starting ∧ QueueSafe stopping ∧ PlantSafe stopping
    ∧ QueueSafe tripped ∧ PlantSafe tripped ∧ QueueSafe strayed ∧ PlantSafe strayed
    ∧ [step (after (.pumpStartTimeout 0) starting), step (after (.pumpStopTimeout 0) stopping),
       step (after (.switchDebounceExpiry 16) strayed)] = [some marked, some marked, some marked]
    ∧ step (after (.pumpStopTimeout 0) tripped) = step tripped ∧ tripped.tsq.stepOn 0 = some (3, deballast 7 .windDown (some 0))
    ∧ (after (.pumpStartTimeout 0) starting).rcu.entriesFrom 1 = entries 0 7
    ∧ (after (.pumpStopTimeout 0) stopping).rcu.entriesFrom 1 = entries 2 7
    ∧ (after (.pumpStopTimeout 0) tripped).rcu.entriesFrom 1 = entries 2 0
    ∧ (after (.switchDebounceExpiry 16) running).rcu.entriesFrom 1 = entries 1 7
    ∧ (after (.switchDebounceExpiry 16) strayed).rcu.entriesFrom 1 = entries 3 7 := by
  (repeat' apply And.intro) <;> decide +kernel

/-! ### Pours and the permit: hypotheses met -/

/-- Pour 1 on loader A with 10,000 t credited (the worked sequence of section 7.9). -/
def pour1 : Pour := ⟨1, 6, 10000, true, 0, 0⟩

theorem witness_planAndProgress :
    let s := pouring (some pour1)
    (inPhase .ready).serving ∧ (inPhase .ready).ccl.phase = .ready
    ∧ sent (after (.planLoad 1 (u8 1 ++ u8 1 ++ u8 8 ++ u32 200000 ++ u32 300000)) (inPhase .ready)) = [0, 1]
    ∧ sent (after (.planLoad 1 (u8 1 ++ u8 0)) (inPhase .ready)) = [0, 0]
    ∧ sent (after (.planLoad 1 (u8 1 ++ u8 0)) s) = [3]
    ∧ s.serving ∧ s.ccl.phase = .loading ∧ s.ptr.loaders[Loader.a.ix] = some pour1 ∧ s.ptr.loaders[Loader.b.ix] = none
    ∧ sent (after (.pourProgress 1 (u8 0 ++ u32 9999)) s) = [0] ++ u32 10000 ++ u32 0
    ∧ sent (after (.pourProgress 1 (u8 0 ++ u32 10000)) s) = [0] ++ u32 10000 ++ u32 0
    ∧ sent (after (.pourProgress 1 (u8 0 ++ u32 200000)) s) = [0] ++ u32 200000 ++ u32 190000
    ∧ s.cen.inFlight = none ∧ (after (.pourProgress 1 (u8 0 ++ u32 10000)) s).cen.inFlight.isSome = true
    ∧ (waitingOn 0).cen.inFlight ≠ none
    ∧ sent (after (.pourProgress 1 (u8 1 ++ u32 1)) s) = [12] := by decide +kernel

theorem witness_pourBegun :
    let s := pouring none
    s.serving ∧ s.ccl.phase = .loading ∧ s.ptr.plan.length = 2 ∧ s.ptr.lowestPlanned = 1 ∧ s.pmu.permit = true
    ∧ [sent (after (.pourBegin 1 [0, 3, 255]) s), sent (after (.pourBegin 1 [0, 2, 255]) s),
       sent (after (.pourBegin 1 [0, 1, 255]) s), sent (after (.pourBegin 1 [1, 0, 8]) s)]
      = [[6], [11], [0, 0, 1, 6, 1], [0, 1, 0, 8, 1]]
    ∧ (after (.pourBegin 1 [0, 1, 255]) { s with pmu := { s.pmu with permit := false } }).pmu.counter = 7
    ∧ sent (after (.pourBegin 1 [0, 2, 255]) (pouring (some pour1))) = [11] := by decide +kernel

theorem witness_pourEnded :
    let s := pouring (some pour1)
    let unplanned := pouring (some { pour1 with number := 0 })
    s.serving ∧ s.ccl.phase = .loading ∧ s.ptr.loaders[Loader.b.ix] = none ∧ s.ptr.loaders[Loader.a.ix] = some pour1
    ∧ s.ptr.plan[pour1.number - 1]? = some ⟨6, 25000, 8000, .pouring, some (.a, true), none⟩
    ∧ unplanned.ptr.loaders[Loader.a.ix] = some { pour1 with number := 0 }
    ∧ sent (after (.pourEnd 1 (u8 1 ++ u32 1)) s) = [12] ∧ sent (after (.pourEnd 1 (u8 1 ++ u32 200001)) s) = [2]
    ∧ sent (after (.pourEnd 1 (u8 0 ++ u32 200000)) unplanned) = [0, 0, 6] ++ u32 190000 ++ [255]
    ∧ s.paceCheck ⟨6, 25000, 8000, .pouring, some (.a, true), none⟩ 25000 = ⟨25000, 0, 8000, false⟩
    ∧ s.cfg.alarm.masked[AlarmGroup.pace.ix] = false
    ∧ (s.paceReport true 1).lsl.groups[AlarmGroup.pace.ix] = ⟨true, true⟩ := by decide +kernel

/-- Step 7 QUEUED behind an edge of pour 1 leaves QUEUED at that edge: to LINEUP where a pump is granted at once, else to WAITING, offered; behind the other edge it stays. -/
theorem witness_edges :
    let behind (e : Edge) (s : State) : State :=
      { s with
        tsq := { s.tsq with slots := s.tsq.slots.set 3 (some { deballast 7 .queued none with gate := some ⟨1, e⟩ }), order := [3], lastNumber := 7 }
        tanks := waiting.tanks, pva := { waiting.pva with candidates := [] }
        lnk := { s.lnk with enabled := 0x3FF, tx := .notice ⟨3, 5, 0, []⟩ } }
    let held (s : State) : State := { s with pins := { s.pins with emergency := true } }
    let step (t : State) := (t.tsq.slots[(3 : SlotNo)].map (·.state), t.pva.candidates.map (·.step))
    let begun (s : State) := after (.pourBegin 1 [0, 1, 255]) s
    let ended (s : State) := s.takeEdge ⟨1, .endEdge⟩
    let idle := pouring none
    let busy := pouring (some pour1)
    QueueSafe (behind .beginEdge idle) ∧ QueueSafe (behind .endEdge busy)
    ∧ step (begun (behind .beginEdge idle)) = (some .lineup, [])
    ∧ step (begun (held (behind .beginEdge idle))) = (some .waiting, [7])
    ∧ ((begun (behind .beginEdge idle)).lnk.notices[(Notice.stepState 3).place]).isSome = true
    ∧ step (begun (behind .endEdge idle)) = (some .queued, [])
    ∧ step (ended (behind .endEdge busy)) = (some .lineup, []) ∧ step (ended (behind .beginEdge busy)) = (some .queued, []) := by
  (repeat' apply And.intro) <;> decide +kernel

theorem witness_lineFigures : defaultPermit.legal ∧ hysteresisAfter defaultPermit 11 false = true
    ∧ hysteresisAfter defaultPermit 4 true = false ∧ hysteresisAfter defaultPermit 10 true = true
    ∧ hysteresisAfter defaultPermit 5 false = false
    ∧ [placeBand ⟨900, 1000⟩ 899, placeBand ⟨900, 1000⟩ 900, placeBand ⟨900, 1000⟩ 999, placeBand ⟨900, 1000⟩ 1000]
      = [.clear, .caution, .caution, .stop] := by decide +kernel

/-- The bytes of a permit configuration: its two opening figures, and the rest at the defaults. -/
def permitBody (aOpen rOpen initial : Nat) : List Byte :=
  u8 aOpen ++ [55, 60] ++ u8 rOpen ++ [60, 60, 0, 0, 1] ++ u8 initial ++ [5, 11, 1, 4]

theorem witness_permitSettings :
    let s := attending (.awaitChallenge 0 true) 8
    s.serving ∧ (permitBody 5 60 8).length = 14 ∧ parsePermitSet (permitBody 5 60 8) = some defaultPermit
    ∧ s.pmu.unit ≠ .idle ∧ s.cfg.permit = defaultPermit ∧ fitted.pmu.unit = .idle
    ∧ [sent (after (.permitSet 1 (permitBody 5 60 15)) s), sent (after (.permitSet 1 (permitBody 5 60 8)) s),
       sent (after (.permitSet 1 (permitBody 5 60 16)) s)] = [[9], [0], [2]]
    ∧ (after (.permitSet 1 (permitBody 5 0 8)) s).pmu.unit = .awaitChallenge 12000 true
    ∧ (after (.permitSet 1 (permitBody 5 0 8)) s).pmu.counter = 4
    ∧ (after (.permitSet 1 (permitBody 255 255 15)) fitted).cfg.permit.initial = 15 := by decide +kernel

theorem witness_challenge :
    let check (u : UnitState) (now : Nat) : State :=
      { attending u 8 with now := now, cfg := { tables with permit := { defaultPermit with challengeCheck := true } } }
    (attending .idle 8).serving
    ∧ sent (after (.challenge 1 []) (attending .idle 8)) = [0, 0, 1, 1, 255, 8]
    ∧ sent (after (.challenge 1 []) (attending (.awaitAnswer 0) 8)) = [0, 0, 1, 1, 1, 4]
    ∧ sent (after (.challenge 1 []) (attending (.awaitChallenge 0 true) 8)) = [0, 0, 1, 1, 255, 8]
    ∧ [59999, 60000, 120999, 121000].map (fun n => (sent (after (.challenge 1 []) (check (.awaitChallenge 0 true) n))).drop 4)
      = [[1, 4], [0, 9], [0, 9], [2, 4]] := by decide +kernel

theorem witness_answer :
    let at_ (now : Nat) : State := { attending (.awaitAnswer 0) 8 with now := now }
    (at_ 0).serving ∧ sent (after (.answer 1 [0xFE, 0xFF]) (attending .idle 8)) = [12]
    ∧ (after (.answer 1 [0xFE, 0xFF]) (attending (.awaitChallenge 0 true) 8)).pmu.counter = 4
    ∧ [4999, 5000, 60999, 61000].map (fun n => sent (after (.answer 1 [0xFE, 0xFF]) (at_ n)))
      = [[0, 1, 4], [0, 0, 9], [0, 0, 9], [0, 3, 4]]
    ∧ sent (after (.answer 1 [0, 0]) (at_ 12000)) = [0, 2, 4]
    ∧ (after (.answer 1 [0xFE, 0xFF]) (at_ 12000)).pmu.seed = 2
    ∧ (after (.answer 1 [0xFE, 0xFF]) (attending (.awaitAnswer 0) 10)).pmu.permit = true := by decide +kernel

theorem witness_attendanceTimeouts :
    let trip (s : State) : State := { s with cfg := { s.cfg with permit := { s.cfg.permit with timeoutTrip := true } } }
    let s := attending (.awaitAnswer 0) 7
    let due : State := { attending (.awaitChallenge 0 false) 7 with
      lnk := { fitted.lnk with enabled := 0x3FF, tx := .notice ⟨3, 5, 0, []⟩ } }
    s.powered = true ∧ s.pmu.unit = .awaitAnswer 0 ∧ (after .answerTimeout s).pmu.counter = 3
    ∧ (after .answerTimeout s).pmu.unit = .awaitAnswer 12000
    ∧ ((after .answerTimeout (trip s)).pmu.unit, (after .answerTimeout (trip s)).pmu.trips) = (.idle, 1)
    ∧ (after .answerTimeout (trip s)).lsl.line = true
    ∧ due.powered = true ∧ due.pmu.unit = .awaitChallenge 0 false ∧ due.lnk.tx ≠ .idle ∧ due.lnk.enables 7 = true
    ∧ ((after .challengeWindowOpens due).lnk.notices[37].map (·.content)) = some [60, 120]
    ∧ (after .challengeTimeout due).pmu.unit = .awaitChallenge 12000 false
    ∧ Settled s ∧ after .challengeTimeout s = s ∧ Settled due ∧ after .answerTimeout due = due
    ∧ fitted.pmu.unit = .idle ∧ Settled fitted ∧ fitted.serving ∧ Settled { fitted with pmu := s.pmu } := by decide +kernel

/-- The entries of attendance bad events: an early challenge, a late answer out of turn, a wrong answer, a timeout, and one that trips. -/
theorem witness_attendanceTaken :
    let trip (s : State) : State := { s with cfg := { s.cfg with permit := { s.cfg.permit with timeoutTrip := true } } }
    let answering := attending (.awaitAnswer 0) 12
    let due := attending (.awaitChallenge 0 false) 12
    let entries (t : State) := t.rcu.entriesFrom 1
    let bad (f e n : Nat) : List (EntryKind × Vector Nat 4) := [(.alarm, #v[2, 10 + f, 255, 0]), (.attendanceBad, #v[f, e, n, 0])]
    LogSafe answering ∧ LogSafe due ∧ entries (after (.challenge 1 []) answering) = bad 3 12 8
    ∧ entries (after (.answer 1 [0, 0]) due) = bad 1 12 8 ∧ entries (after (.answer 1 [0, 0]) answering) = bad 2 12 8
    ∧ entries (after .answerTimeout answering) = bad 5 120 8 ∧ entries (after .challengeTimeout due) = bad 6 180 8
    ∧ (entries (after .answerTimeout (trip answering))).take 4 = [(.alarm, #v[2, 15, 255, 0]),
        (.attendanceBad, #v[5, 120, 0, 1]), (.alarm, #v[2, 21, 255, 0]), (.stopOn, #v[0, 1, 0, 0])]
    ∧ (after .answerTimeout answering).lsl.groups[AlarmGroup.pace.ix].unacknowledged = true
    ∧ (after .answerTimeout answering).rcu.counts.attendanceBad = 1
    ∧ (after (.answer 1 [0xFE, 0xFF]) answering).rcu.counts.attendanceBad = 0 := by
  (repeat' apply And.intro) <;> decide +kernel

/-! ### Records, link and call: hypotheses met -/

theorem witness_reportComposed :
    let s : State := { recorded with rcu := { recorded.rcu with serial := 65535 } }
    let composing := after (.reportCompose 1 [0]) s
    s.serving ∧ s.ccl.phase = .final ∧ s.cen.current = some record ∧ s.rcu.composing = none
    ∧ sent composing = [0, 0, 0, 1] ∧ composing.rcu.composing.isSome = true ∧ composing.powered = true
    ∧ sent (after (.reportCompose 1 [0]) (inPhase .loading)) = [3] ∧ sent (after (.reportCompose 1 [1]) (inPhase .loading)) = [12]
    ∧ (after (.reportCompose 1 [0]) composing).lnk.slots[1] = .filled 0x93 1 .busy []
    ∧ ((after .reportCompositionComplete composing).rcu.slot.map (·.serial)) = some 1
    ∧ fitted.rcu.composing = none ∧ Settled fitted := by decide +kernel

theorem witness_linkEvents :
    let bad : List Byte := [0xA7, 0, 1, 0xA1, 0, 5, 0, 0]
    let busy : State := { fitted with lnk := { fitted.lnk with
      slots := fitted.lnk.slots.set 2 (.filled 0xA1 5 .ok [1]), filled := [2], tx := .notice ⟨3, 5, 0, []⟩ } }
    let notices : State := { fitted with lnk := { fitted.lnk with
      slots := fitted.lnk.slots.set 0 (.filled 0xA1 5 .ok [1])
      notices := (fitted.lnk.notices.set 3 (some ⟨[1], 9⟩)).set 4 (some ⟨[2], 8⟩), tx := .reply 0 ⟨2, 0xA1, 5, [0, 1]⟩ } }
    fitted.powered = true ∧ Settled fitted ∧ frameComplete bad = true ∧ frameAccepted bad = false ∧ fitted.lnk.tx = .idle
    ∧ (after (.rxGapTimeout [1, 0xA7, 0]) fitted).lnk.rx = .frame [0xA7, 0]
    ∧ busy.lnk.tx ≠ .idle ∧ busy.lnk.filled = [2] ∧ busy.lnk.tx.slot ≠ some 2
    ∧ (after .txFrameDone busy).lnk.tx = .reply 2 ⟨2, 0xA1, 5, [0, 1]⟩
    ∧ notices.lnk.filled = [] ∧ (after .txFrameDone notices).lnk.tx = .notice ⟨3, 4, 0, [2]⟩
    ∧ (after .txFrameDone notices).lnk.slots[0] = .free := by decide +kernel

theorem witness_clockAndCall :
    let port : List Byte := [0x41, 0x5A, 0x30, 0x39, 0x41]
    let identity : List Byte := u16 65535 ++ port ++ u8 12 ++ List.replicate 12 0x7E
    let late : State := { inPhase .final with ccl := { (inPhase .final).ccl with shipTime := 4294967295, callTime := 4294967295 } }
    fitted.serving ∧ (after (.clockSet 1 (u32 4294967295)) fitted).ccl.shipTime = 4294967295
    ∧ sent (after (.clockSet 1 (u32 0)) fitted) = [2]
    ∧ (after (.callSet 1 identity) (inPhase .ready)).ccl.callNumber = 65535
    ∧ sent (after (.callSet 1 identity) (inPhase .loading)) = [3]
    ∧ (after (.noticeSelect 1 (u16 1023)) fitted).lnk.enabled = 1023 ∧ sent (after (.noticeSelect 1 (u16 1024)) fitted) = [2]
    ∧ late.powered = true ∧ Settled late ∧ (after .clockSecondAdvance late).ccl.callTime = 4294967295
    ∧ (after .clockSecondAdvance fitted).ccl.shipTime = 0 := by decide +kernel

theorem witness_phaseMoves :
    let final : State := { inPhase .final with
      lnk := { fitted.lnk with slots := fitted.lnk.slots.set 0 (.filled 0xA1 0 .ok []), tx := .reply 0 ⟨2, 0xA1, 0, [0]⟩ } }
    fitted.serving ∧ fitted.ccl.phase = .setup ∧ fitted.cfg.validate = none ∧ fitted.cen.inFlight = none
    ∧ State.reset.cfg.validate = some (1, 0) ∧ sent (after (.phaseSet 1 [1]) State.reset) = [15, 1, 0]
    ∧ sent (after (.phaseSet 1 [1]) fitted) = [0, 0, 1]
    ∧ sent (after (.phaseSet 1 [0]) (holding (deballast 7 .queued none) (inPhase .ready))) = [9]
    ∧ (inPhase .ready).tsq.order = [] ∧ QueueSafe (inPhase .ready) ∧ LinkSafe (inPhase .ready)
    ∧ sent (after (.phaseSet 1 [0]) (inPhase .ready)) = [0, 1, 0]
    ∧ (after (.phaseSet 1 [2]) (inPhase .ready)).ptr.start = .pending (Vector.replicate 16 0)
    ∧ sent (after (.phaseSet 1 [3]) (pouring (some pour1))) = [9] ∧ sent (after (.phaseSet 1 [3]) (pouring none)) = [0, 2, 3]
    ∧ sent (after (.phaseSet 1 [0]) (holding (deballast 7 .queued none) (inPhase .final))) = [9]
    ∧ final.ccl.phase = .final ∧ (∀ k : SlotNo, final.tsq.slots[k] = none) ∧ final.pmu.permit = false
    ∧ QueueSafe final ∧ LinkSafe final ∧ final.lnk.freeSlot = some 1 ∧ (after (.phaseSet 1 [0]) final).rcu.log.length = 1
    ∧ sent (after (.phaseSet 1 [3]) fitted) = [3] := by
  (repeat' apply And.intro) <;> decide +kernel

/-- The state with a CONFIG item of `tables` in the store. -/
def stored : State := { fitted with sst := ⟨none, .valid (configFormat.form tables), .invalid⟩ }

/-- A report of one byte. -/
def report : Report := ⟨false, 1, 1, [1]⟩

theorem witness_storeWritten :
    let holds : State := { fitted with rcu := { fitted.rcu with slot := some report } }
    let writing := after (.storeWrite 1 [0]) holds
    fitted.serving ∧ fitted.sst.writer = none ∧ sent (after (.storeWrite 1 [1]) fitted) = [12]
    ∧ holds.rcu.slot = some report ∧ (after (.storeWrite 1 [1]) holds).sst.report = .writing report
    ∧ writing.sst.writer = some .config ∧ writing.sst.config = .writing tables ∧ sent (after (.storeWrite 1 [0]) writing) = [0]
    ∧ (after (.storeWriteComplete true) writing).ccl.configAbsent = false
    ∧ (after (.storeWriteComplete false) writing).ccl.configAbsent = true
    ∧ (after .powerLoss writing).sst.config = .invalid ∧ Settled fitted := by decide +kernel

/-- An item formed of the tables in force passes its check and is read back (R212, R213). -/
theorem witness_storeKept : (after (.storeWriteComplete true) (after (.storeWrite 1 [0]) fitted)).sst.config
      = .valid (configFormat.form tables)
    ∧ (after .powerLoss stored).sst.config = .valid (configFormat.form tables)
    ∧ (after (.powerOn .none .none) stored).cfg = tables := by
  refine ⟨rfl, rfl, ?_⟩
  show (((stored.sst.config.read configFormat .none).content?).getD emptyTables) = tables
  simp [stored, Stored.read, form_passes, Stored.content?]

/-- An item read with one bit of its format version changed fails its check, and the empty tables are in force (R212, R216). -/
theorem witness_storeDamaged : (after (.powerOn ⟨1, 0, 0⟩ .none) stored).cfg = emptyTables := by
  have h : configFormat.passes ((configFormat.form tables).read ⟨1, 0, 0⟩) = false := by
    simp [ItemFormat.passes, configFormat]
  show (Stored.content? (if configFormat.passes ((configFormat.form tables).read ⟨1, 0, 0⟩) = true then _ else _)).getD _ = _
  rw [if_neg (by rw [h]; exact Bool.false_ne_true)]
  rfl

theorem witness_restart : running.serving ∧ QueueSafe running ∧ LinkSafe running
    ∧ (after (.restart 1 []) running).tsq.slots[3] = none ∧ (after (.restart 1 []) running).pva.valves[4].open_ = false
    ∧ (after (.restart 1 []) running).pva.pumps[0].state = .free
    ∧ (after (.restart 1 []) running).ccl.startCause = .restart
    ∧ QueueSafe (checking (deballast 9 .checking none)) ∧ LinkSafe (checking (deballast 9 .checking none))
    ∧ (after (.restart 1 []) (checking (deballast 9 .checking none))).lnk.slots[0] = .filled 0x51 1 .aborted [9, 5]
    ∧ (let s := checking (deballast 9 .checking none)
      let mixed : State := { s with
        cen := { s.cen with
          inFlight := some (.prediction ⟨.predict 5, 1, false, []⟩ (s.snapshot []))
          queue := [⟨.step 9, 0, true, []⟩, ⟨.predict 6, 2, false, []⟩] }
        lnk := { s.lnk with slots := (s.lnk.slots.set 1 (.reserved 0x31 5)).set 2 (.reserved 0x31 6) } }
      mixed.serving ∧ QueueSafe mixed ∧ LinkSafe mixed ∧ mixed.lnk.tx ≠ .idle ∧ mixed.lnk.freeSlot = some 3
      ∧ (after (.restart 1 []) mixed).lnk.filled = [1, 0, 2, 3]) := by
  (repeat' apply And.intro) <;> decide +kernel

end Sys2Proof.Tests
end

section
/-! PROOFS. The arithmetic of the condition engine: rounding (R1), the sounding table (R31), the spread of masses (R51) and the determinant (R52). -/

namespace Sys2Proof.Machine

/-! ### Rounding (R1) -/

theorem roundDiv_of_nonneg {n : Int} (hn : 0 ≤ n) (d : Int) : roundDiv n d = (2 * n + d) / (2 * d) := if_pos hn

theorem roundDiv_zero {d : Int} (hd : 0 < d) : roundDiv 0 d = 0 :=
  Int.ediv_eq_zero_of_lt (by omega) (by omega)

/-- The rounding treats both signs alike, a half going away from zero on either side (R1). -/
theorem roundDiv_neg (n : Int) {d : Int} (hd : 0 < d) : roundDiv (-n) d = -roundDiv n d := by
  rcases lt_trichotomy n 0 with hneg | rfl | hpos
  · rw [roundDiv, roundDiv, if_pos (by omega), if_neg (by omega), neg_neg]
  · rw [neg_zero, roundDiv_zero hd, neg_zero]
  · rw [roundDiv, roundDiv, if_neg (by omega), if_pos hpos.le, neg_neg]

/-- What a rounded quotient of a nonnegative number leaves: less than half a divisor below, at most half above. -/
theorem roundDiv_remainder_of_nonneg {n d : Int} (hn : 0 ≤ n) (hd : 0 < d) :
    2 * (n - d * roundDiv n d) < d ∧ -d ≤ 2 * (n - d * roundDiv n d) := by
  rw [roundDiv_of_nonneg hn]
  have hlow := Int.mul_ediv_self_le (x := 2 * n + d) (k := 2 * d) (by omega)
  have hhigh := Int.lt_mul_ediv_self_add (x := 2 * n + d) (k := 2 * d) (by omega)
  rw [mul_assoc] at hlow hhigh
  omega

/-- A rounded quotient is a nearest whole number, and on a tie the one further from zero (R1). -/
theorem roundDiv_remainder (n : Int) {d : Int} (hd : 0 < d) :
    2 * (n - d * roundDiv n d) ≤ d ∧ -d ≤ 2 * (n - d * roundDiv n d)
      ∧ (2 * (n - d * roundDiv n d) = d → n < 0) ∧ (2 * (n - d * roundDiv n d) = -d → 0 < n) := by
  rcases lt_or_ge n 0 with hneg | hpos
  · have hr := roundDiv_remainder_of_nonneg (n := -n) (by omega) hd
    rw [roundDiv_neg n hd, mul_neg] at hr
    omega
  · have hr := roundDiv_remainder_of_nonneg hpos hd
    have zero_exact : n = 0 → d * roundDiv n d = 0 := by
      rintro rfl
      rw [roundDiv_zero hd, mul_zero]
    omega

/-- An exact quotient is not changed by rounding. -/
theorem roundDiv_mul_self (q : Int) {d : Int} (hd : 0 < d) : roundDiv (q * d) d = q := by
  obtain ⟨hhigh, hlow, -, -⟩ := roundDiv_remainder (q * d) hd
  have above : 2 * (q - roundDiv (q * d) d) ≤ 1 := le_of_mul_le_mul_right (by linarith) hd
  have below : -1 ≤ 2 * (q - roundDiv (q * d) d) := le_of_mul_le_mul_right (by linarith) hd
  omega

theorem roundDiv_nonneg {n d : Int} (hn : 0 ≤ n) (hd : 0 < d) : 0 ≤ roundDiv n d := by
  rw [roundDiv_of_nonneg hn]
  exact Int.ediv_nonneg (by omega) (by omega)

/-- Rounding keeps the order of quotients. -/
theorem roundDiv_mono {n m d : Int} (h : n ≤ m) (hd : 0 < d) : roundDiv n d ≤ roundDiv m d := by
  have mono_of_nonneg : ∀ {a b : Int}, 0 ≤ a → a ≤ b → roundDiv a d ≤ roundDiv b d := fun ha hab => by
    rw [roundDiv_of_nonneg ha, roundDiv_of_nonneg (ha.trans hab)]
    exact Int.ediv_le_ediv (by omega) (by omega)
  rcases lt_or_ge n 0 with hn | hn
  · have hn' := roundDiv_neg n hd
    rcases lt_or_ge m 0 with hm | hm
    · have hm' := roundDiv_neg m hd
      have := mono_of_nonneg (a := -m) (b := -n) (by omega) (by omega)
      omega
    · have := roundDiv_nonneg (n := -n) (by omega) hd
      have := roundDiv_nonneg hm hd
      omega
  · exact mono_of_nonneg hn h

/-! ### The sounding table (R17 item 6, R31) -/

theorem risingPoints_cons_cons {a b : Point} {l : List Point} :
    risingPoints (a :: b :: l) = true ↔ (a.level < b.level ∧ a.volume ≤ b.volume) ∧ risingPoints (b :: l) = true := by
  simp [risingPoints]

theorem soundingOk_rising {table : List Point} (h : soundingOk table = true) : risingPoints table = true := by
  simp only [soundingOk, Bool.and_eq_true] at h
  exact h.2

/-- The levels of a rising table above its first point are above the first point's. -/
theorem risingPoints_level_lt {a : Point} {l : List Point} (h : risingPoints (a :: l) = true) :
    ∀ p ∈ l, a.level < p.level := by
  induction l generalizing a with
  | nil => simp
  | cons b l ih =>
    obtain ⟨⟨hlevel, -⟩, hrest⟩ := risingPoints_cons_cons.mp h
    intro p hp
    rcases List.mem_cons.mp hp with rfl | hp
    · exact hlevel
    · exact hlevel.trans (ih hrest p hp)

theorem interpolate_left (a b : Point) (h : a.level < b.level) : interpolate a b a.level = a.volume := by
  have hd : (0 : Int) < (b.level : Int) - a.level := by omega
  simp [interpolate, roundDiv_zero hd]

theorem interpolate_right (a b : Point) (h : a.level < b.level) : interpolate a b b.level = b.volume := by
  have hd : (0 : Int) < (b.level : Int) - a.level := by omega
  simp [interpolate, roundDiv_mul_self _ hd]

theorem interpolate_mono {a b : Point} (hlevel : a.level < b.level) (hvolume : a.volume ≤ b.volume) {x y : Nat}
    (h : x ≤ y) : interpolate a b x ≤ interpolate a b y := by
  have slope : ((b.volume : Int) - a.volume) * ((x : Int) - a.level) ≤ (b.volume - a.volume) * (y - a.level) :=
    mul_le_mul_of_nonneg_left (by omega) (by omega)
  have := roundDiv_mono slope (d := (b.level : Int) - a.level) (by omega)
  unfold interpolate
  omega

theorem volumeAt_of_next_le {a b : Point} {level : Nat} (h : b.level ≤ level) (l : List Point) :
    volumeAt (a :: b :: l) level = volumeAt (b :: l) level := if_pos h

theorem volumeAt_of_lt_next {a b : Point} {level : Nat} (h : level < b.level) (l : List Point) :
    volumeAt (a :: b :: l) level = interpolate a b level := if_neg (by omega)

theorem volumeAt_first {a : Point} {l : List Point} (h : risingPoints (a :: l) = true) :
    volumeAt (a :: l) a.level = a.volume := by
  cases l with
  | nil => rfl
  | cons b l =>
    obtain ⟨⟨hlevel, -⟩, -⟩ := risingPoints_cons_cons.mp h
    rw [volumeAt_of_lt_next hlevel, interpolate_left a b hlevel]

/-- At a point's level a rising table gives the point's volume (R31). -/
theorem volumeAt_point {table : List Point} (h : risingPoints table = true) :
    ∀ p ∈ table, volumeAt table p.level = p.volume := by
  induction table with
  | nil => simp
  | cons a l ih =>
    intro p hp
    rcases List.mem_cons.mp hp with rfl | hp
    · exact volumeAt_first h
    · cases l with
      | nil => simp at hp
      | cons b l =>
        obtain ⟨-, hrest⟩ := risingPoints_cons_cons.mp h
        have hle : b.level ≤ p.level := by
          rcases List.mem_cons.mp hp with rfl | hp
          · exact le_rfl
          · exact (risingPoints_level_lt hrest p hp).le
        rw [volumeAt_of_next_le hle]
        exact ih hrest p hp

/-- From its last point's level on, a rising table gives the last point's volume (R31). -/
theorem volumeAt_last {table : List Point} (h : risingPoints table = true) {p : Point} {level : Nat}
    (hlast : table.getLast? = some p) (hle : p.level ≤ level) : volumeAt table level = p.volume := by
  induction table with
  | nil => simp at hlast
  | cons a l ih =>
    cases l with
    | nil =>
      obtain rfl : a = p := by simpa using hlast
      rfl
    | cons b l =>
      obtain ⟨-, hrest⟩ := risingPoints_cons_cons.mp h
      have hlast' : (b :: l).getLast? = some p := by simpa using hlast
      have hb : b.level ≤ p.level := by
        rcases List.mem_cons.mp (List.mem_of_getLast? hlast') with rfl | hp
        · exact le_rfl
        · exact (risingPoints_level_lt hrest p hp).le
      rw [volumeAt_of_next_le (hb.trans hle)]
      exact ih hrest hlast'

/-- A rising table's volume never falls as the level rises (R31). -/
theorem volumeAt_mono {table : List Point} (h : risingPoints table = true) {x y : Nat} (hxy : x ≤ y) :
    volumeAt table x ≤ volumeAt table y := by
  induction table generalizing x y with
  | nil => exact le_rfl
  | cons a l ih =>
    cases l with
    | nil => exact le_rfl
    | cons b l =>
      obtain ⟨⟨hlevel, hvolume⟩, hrest⟩ := risingPoints_cons_cons.mp h
      rcases le_or_gt b.level x with hbx | hxb
      · rw [volumeAt_of_next_le hbx, volumeAt_of_next_le (hbx.trans hxy)]
        exact ih hrest hxy
      · rw [volumeAt_of_lt_next hxb]
        rcases le_or_gt b.level y with hby | hyb
        · calc interpolate a b x
              ≤ interpolate a b b.level := interpolate_mono hlevel hvolume hxb.le
            _ = b.volume := interpolate_right a b hlevel
            _ = volumeAt (b :: l) b.level := (volumeAt_first hrest).symm
            _ ≤ volumeAt (b :: l) y := ih hrest hby
            _ = volumeAt (a :: b :: l) y := (volumeAt_of_next_le hby l).symm
        · rw [volumeAt_of_lt_next hyb]
          exact interpolate_mono hlevel hvolume hxy

theorem overTableAt_iff {table : List Point} {p : Point} (hlast : table.getLast? = some p) (level : Nat) :
    overTableAt table level = true ↔ p.level < level := by
  simp [overTableAt, hlast]

/-! ### The spread of a mass over its segments (R51) -/

/-- Inside its span an item gives the quotient, and 1 t more to the first segments, as many as the remainder. -/
theorem Item.share_inside (it : Item) {i : Nat} (hlow : it.first ≤ i) (hhigh : i < it.first + it.count) :
    it.share i = it.mass / it.count + if i - it.first < it.mass % it.count then 1 else 0 := if_pos ⟨hlow, hhigh⟩

theorem Item.share_outside (it : Item) {i : Nat} (h : i < it.first ∨ it.first + it.count ≤ i) : it.share i = 0 :=
  if_neg (by omega)

theorem Item.share_bounds (it : Item) {i : Nat} (hlow : it.first ≤ i) (hhigh : i < it.first + it.count) :
    it.mass / it.count ≤ it.share i ∧ it.share i ≤ it.mass / it.count + 1 := by
  rw [it.share_inside hlow hhigh]
  split <;> omega

/-- What the segments below `n` have of an item: those of its span a quotient each, and 1 t more up to the remainder. -/
theorem Item.sum_share_below (it : Item) (n : Nat) :
    ((List.range n).map it.share).sum
      = min (n - it.first) it.count * (it.mass / it.count)
        + min (min (n - it.first) it.count) (it.mass % it.count) := by
  induction n with
  | zero => simp
  | succ n ih =>
    rw [List.range_succ, List.map_append, List.sum_append, ih, List.map_singleton, List.sum_singleton]
    by_cases hin : it.first ≤ n ∧ n < it.first + it.count
    · obtain ⟨hlow, hhigh⟩ := hin
      have hnow : min (n - it.first) it.count = n - it.first := by omega
      have hnext : min (n + 1 - it.first) it.count = n - it.first + 1 := by omega
      rw [it.share_inside hlow hhigh, hnow, hnext, add_one_mul]
      split <;> omega
    · have hsame : min (n + 1 - it.first) it.count = min (n - it.first) it.count := by omega
      rw [it.share_outside (by omega), hsame, add_zero]

/-- An item whose span lies in the hull is spread without loss (R51). -/
theorem Item.sum_share (it : Item) (hcount : it.count ≠ 0) (hspan : it.first + it.count ≤ 20) :
    ((List.range 20).map it.share).sum = it.mass := by
  have hall : min (20 - it.first) it.count = it.count := by omega
  have hrem : min it.count (it.mass % it.count) = it.mass % it.count :=
    min_eq_right (Nat.mod_lt _ (Nat.pos_of_ne_zero hcount)).le
  rw [it.sum_share_below, hall, hrem, Nat.div_add_mod]

/-! ### The determinant of the equilibrium (R52)

`K0 * K2 - K1²` is the sum over all pairs of segments of both factors and the squared distance of their levers. It is taken here one segment at a time, for any levers. -/

/-- K0 of factors (R52). -/
def factorSum (ks : List Nat) : Int := (ks.map fun k => (k : Int)).sum
/-- K1 of factors at given levers (R52). -/
def leverSum (ks : List Nat) (hs : List Int) : Int := (List.zipWith (fun (k : Nat) h => (k : Int) * h) ks hs).sum
/-- K2 of factors at given levers (R52). -/
def leverSquareSum (ks : List Nat) (hs : List Int) : Int :=
  (List.zipWith (fun (k : Nat) h => (k : Int) * (h * h)) ks hs).sum
/-- The determinant of factors at given levers (R52). -/
def determinantAt (ks : List Nat) (hs : List Int) : Int :=
  factorSum ks * leverSquareSum ks hs - leverSum ks hs * leverSum ks hs
/-- The second moment of factors at given levers, about the lever `c`. -/
def secondMoment (c : Int) (ks : List Nat) (hs : List Int) : Int :=
  (List.zipWith (fun (k : Nat) h => (k : Int) * ((h - c) * (h - c))) ks hs).sum

/-- The determinant of the hull is that of its factors at the levers of the segments. -/
theorem determinant_hullSums (ks ws : List Nat) : (hullSums ks ws).determinant = determinantAt ks levers := rfl

section Cons
variable (c : Int) (k : Nat) (ks : List Nat) (h : Int) (hs : List Int)

@[simp] theorem factorSum_cons : factorSum (k :: ks) = k + factorSum ks := rfl
@[simp] theorem leverSum_cons : leverSum (k :: ks) (h :: hs) = k * h + leverSum ks hs := rfl
@[simp] theorem leverSquareSum_cons :
    leverSquareSum (k :: ks) (h :: hs) = k * (h * h) + leverSquareSum ks hs := rfl
@[simp] theorem secondMoment_cons :
    secondMoment c (k :: ks) (h :: hs) = k * ((h - c) * (h - c)) + secondMoment c ks hs := rfl
end Cons

/-- The second moment about a lever, by the three sums of the hull. -/
theorem secondMoment_eq (c : Int) {ks : List Nat} {hs : List Int} (hlen : ks.length = hs.length) :
    secondMoment c ks hs = leverSquareSum ks hs - 2 * c * leverSum ks hs + c * c * factorSum ks := by
  induction ks generalizing hs with
  | nil => simp [secondMoment, leverSquareSum, leverSum, factorSum]
  | cons k ks ih =>
    cases hs with
    | nil => simp at hlen
    | cons h hs =>
      rw [secondMoment_cons, ih (by simpa using hlen), leverSquareSum_cons, leverSum_cons, factorSum_cons]
      ring

/-- A further segment adds its factor times the second moment of the others about its lever. -/
theorem determinantAt_cons (k : Nat) (h : Int) {ks : List Nat} {hs : List Int} (hlen : ks.length = hs.length) :
    determinantAt (k :: ks) (h :: hs) = determinantAt ks hs + k * secondMoment h ks hs := by
  rw [secondMoment_eq h hlen, determinantAt, determinantAt, leverSquareSum_cons, leverSum_cons, factorSum_cons]
  ring

theorem secondMoment_nonneg (c : Int) (ks : List Nat) (hs : List Int) : 0 ≤ secondMoment c ks hs := by
  refine List.sum_nonneg fun x hx => ?_
  obtain ⟨i, hi, rfl⟩ := List.mem_iff_getElem.mp hx
  rw [List.getElem_zipWith]
  exact mul_nonneg (Int.natCast_nonneg _) (mul_self_nonneg _)

/-- A factor above 0, with no lever at `c`, gives a second moment about `c` above 0. -/
theorem secondMoment_pos {c : Int} {ks : List Nat} {hs : List Int} (hlen : ks.length = hs.length) (hc : c ∉ hs)
    (hsome : 0 < (ks.filter (· != 0)).length) : 0 < secondMoment c ks hs := by
  induction ks generalizing hs with
  | nil => simp at hsome
  | cons k ks ih =>
    cases hs with
    | nil => simp at hlen
    | cons h hs =>
      obtain ⟨hch, hcs⟩ : c ≠ h ∧ c ∉ hs := by simpa using hc
      rw [secondMoment_cons]
      rcases Nat.eq_zero_or_pos k with rfl | hk
      · simpa using ih (by simpa using hlen) hcs (by simpa using hsome)
      · have hdist : 0 < (h - c) * (h - c) := mul_self_pos.mpr (sub_ne_zero.mpr hch.symm)
        have := mul_pos (Int.natCast_pos.mpr hk) hdist
        have := secondMoment_nonneg c ks hs
        omega

theorem determinantAt_nonneg {ks : List Nat} {hs : List Int} (hlen : ks.length = hs.length) :
    0 ≤ determinantAt ks hs := by
  induction ks generalizing hs with
  | nil => exact le_rfl
  | cons k ks ih =>
    cases hs with
    | nil => simp at hlen
    | cons h hs =>
      have hlen' : ks.length = hs.length := by simpa using hlen
      rw [determinantAt_cons k h hlen']
      exact add_nonneg (ih hlen') (mul_nonneg (Int.natCast_nonneg k) (secondMoment_nonneg h ks hs))

/-- Two factors above 0 at different levers give a determinant above 0. -/
theorem determinantAt_pos {ks : List Nat} {hs : List Int} (hlen : ks.length = hs.length) (hdistinct : hs.Nodup)
    (htwo : 2 ≤ (ks.filter (· != 0)).length) : 0 < determinantAt ks hs := by
  induction ks generalizing hs with
  | nil => simp at htwo
  | cons k ks ih =>
    cases hs with
    | nil => simp at hlen
    | cons h hs =>
      obtain ⟨hfresh, hdistinct'⟩ := List.nodup_cons.mp hdistinct
      have hlen' : ks.length = hs.length := by simpa using hlen
      rw [determinantAt_cons k h hlen']
      rcases Nat.eq_zero_or_pos k with rfl | hk
      · simpa using ih hlen' hdistinct' (by simpa using htwo)
      · have hother : 0 < (ks.filter (· != 0)).length := by
          rw [List.filter_cons_of_pos (by simpa using hk.ne'), List.length_cons] at htwo
          omega
        have hadded := mul_pos (Int.natCast_pos.mpr hk) (secondMoment_pos hlen' hfresh hother)
        exact add_pos_of_nonneg_of_pos (determinantAt_nonneg hlen') hadded

theorem levers_nodup : levers.Nodup :=
  List.nodup_range.map fun i j h => by unfold lever at h; omega

end Sys2Proof.Machine

namespace Sys2Proof

open Machine

/-- Settles O29: the bounds of the rounded remainder; the induction along the rising points of a table; the sum of the shares below each segment; the determinant taken one segment at a time. -/
theorem engineArithmetic : Obligations.EngineArithmetic := by
  unfold Obligations.EngineArithmetic
  refine ⟨fun n d hd => ?rounding, fun table hok => ?sounding, fun it hcount hspan => ?spread,
    fun ks ws hks htwo => ?determinant⟩
  case rounding =>
    obtain ⟨hhigh, hlow, htieHigh, htieLow⟩ := roundDiv_remainder n hd
    exact ⟨hhigh, hlow, htieHigh, htieLow, roundDiv_neg n hd⟩
  case sounding =>
    have hrising := soundingOk_rising hok
    exact ⟨volumeAt_point hrising, fun _ _ => volumeAt_last hrising, fun _ level hlast => overTableAt_iff hlast level,
      fun _ _ => volumeAt_mono hrising⟩
  case spread => exact ⟨it.sum_share hcount hspan, fun _ => it.share_bounds⟩
  case determinant =>
    rw [determinant_hullSums]
    exact determinantAt_pos (by simpa [levers] using hks) levers_nodup htwo

end Sys2Proof
end

section
/-! PROOFS. What the shared operations leave of the link and of the plant's proofs: on the link they do nothing but make and withdraw notices, and no pump or valve changes what its switch last showed. -/

namespace Sys2Proof.Machine

/- One proof at a time: side by side they take a thread each. -/
set_option Elab.async false

open State

/-- Of the link only the notices may differ, and every pump and valve shows what its feedback switch last showed. -/
structure Steady (s t : State) : Prop where
  rx : t.lnk.rx = s.lnk.rx
  slots : t.lnk.slots = s.lnk.slots
  filled : t.lnk.filled = s.lnk.filled
  enabled : t.lnk.enabled = s.lnk.enabled
  tx : t.lnk.tx = s.lnk.tx
  proof : ∀ p : PumpNo, t.pva.pumps[p].proof = s.pva.pumps[p].proof
  proved : ∀ v : ValveNo, t.pva.valves[v].proved = s.pva.valves[v].proved

namespace Steady

variable {s t u : State}

theorem refl (s : State) : Steady s s := ⟨rfl, rfl, rfl, rfl, rfl, fun _ => rfl, fun _ => rfl⟩

theorem trans (h : Steady s t) (g : Steady t u) : Steady s u :=
  ⟨g.rx.trans h.rx, g.slots.trans h.slots, g.filled.trans h.filled, g.enabled.trans h.enabled, g.tx.trans h.tx,
    fun p => (g.proof p).trans (h.proof p), fun v => (g.proved v).trans (h.proved v)⟩

/-- An operation on other parts alone. -/
theorem of_touches {l : List Part} (h : Touches l s t) (hl : Part.lnk ∉ l := by decide) (hp : Part.pva ∉ l := by decide) :
    Steady s t := by
  have hlnk := h.lnk hl
  exact ⟨congrArg Lnk.rx hlnk, congrArg Lnk.slots hlnk, congrArg Lnk.filled hlnk, congrArg Lnk.enabled hlnk,
    congrArg Lnk.tx hlnk, fun p => congrArg (fun a : Pva => a.pumps[p].proof) (h.pva hp),
    fun v => congrArg (fun a : Pva => a.valves[v].proved) (h.pva hp)⟩

/-- An operation that leaves the link alone, and of the plant what the switches showed. -/
theorem of_lnk (h : t.lnk = s.lnk) (hp : ∀ p : PumpNo, t.pva.pumps[p].proof = s.pva.pumps[p].proof)
    (hv : ∀ v : ValveNo, t.pva.valves[v].proved = s.pva.valves[v].proved) : Steady s t :=
  ⟨congrArg Lnk.rx h, congrArg Lnk.slots h, congrArg Lnk.filled h, congrArg Lnk.enabled h, congrArg Lnk.tx h, hp, hv⟩

theorem ite {c : Prop} [Decidable c] (h : Steady s t) (g : Steady s u) : Steady s (if c then t else u) := by
  split
  · exact h
  · exact g

theorem foldl {α : Type} {f : State → α → State} (h : ∀ s a, Steady s (f s a)) (as : List α) (s : State) :
    Steady s (as.foldl f s) := by
  induction as generalizing s with
  | nil => exact refl s
  | cons a as ih => exact (h s a).trans (ih (f s a))

end Steady

/-! ### Notices, entries and lines -/

theorem notify_steady (n : Notice) (c : List Byte) (s : State) : Steady s (s.notify n c) := by
  unfold notify
  split
  · exact ⟨rfl, rfl, rfl, rfl, rfl, fun _ => rfl, fun _ => rfl⟩
  · exact .refl s

theorem withdraw_steady (n : Notice) (s : State) : Steady s (s.withdraw n) :=
  ⟨rfl, rfl, rfl, rfl, rfl, fun _ => rfl, fun _ => rfl⟩

theorem log_steady (k : EntryKind) (ps : List Nat) (s : State) : Steady s (s.log k ps) := .of_touches (log_touch k ps s)

theorem evalPermit_steady (c : PermitCause) (s : State) : Steady s (s.evalPermit c) :=
  .ite (.refl s) ((Steady.of_touches (touch_pmu s _)).trans ((log_steady ..).trans (notify_steady ..)))

theorem stopEvaluated_steady (f : Lsl → Lsl) (s : State) : Steady s (s.stopEvaluated f) := by
  unfold stopEvaluated
  extract_lets old l s₁ s₂
  have h₁ : Steady s s₁ := .of_touches (touch_lsl s _)
  have h₂ : Steady s₁ s₂ := .ite (log_steady ..) (.ite (log_steady ..) (.refl _))
  exact h₁.trans (h₂.trans (.ite (notify_steady ..) (.refl _)))

theorem stopTaken_steady (b : Bool) (s : State) : Steady s (s.stopTaken b) := .ite (.refl s) (evalPermit_steady .stop s)

theorem stopChange_steady (f : Lsl → Lsl) (s : State) : Steady s (s.stopChange f) :=
  (stopEvaluated_steady f s).trans (stopTaken_steady ..)

theorem alarmEvent_steady (g : AlarmGroup) (a b : Nat) (s : State) : Steady s (s.alarmEvent g a b) := by
  unfold alarmEvent
  extract_lets m s₁ s₂ s₃ s₄
  have h₁ : Steady s s₁ := .ite (.refl s) (.of_touches (touch_lsl s _))
  have h₃ : Steady s₁ s₃ := (log_steady ..).trans (notify_steady ..)
  have h₄ : Steady s₃ s₄ := .ite (.refl _) (.of_touches (startPulse_touch _))
  exact h₁.trans (h₃.trans (h₄.trans (.of_touches (evalAlarm_touch s₄))))

theorem counterLowReport_steady (b : Bool) (s : State) : Steady s (s.counterLowReport b) := by
  unfold counterLowReport
  extract_lets _ s₁
  have h : Steady s s₁ := .of_touches ((touch_lsl s _).trans (paceCause_touch _))
  exact .ite (h.trans (alarmEvent_steady ..)) h

theorem paceReport_steady (b : Bool) (n : Nat) (s : State) : Steady s (s.paceReport b n) := by
  unfold paceReport
  extract_lets _ s₁
  have h : Steady s s₁ := .of_touches ((touch_lsl s _).trans (paceCause_touch _))
  exact .ite (h.trans (alarmEvent_steady ..)) h

theorem faultReport_steady (e : Equipment) (s : State) : Steady s (s.faultReport e) :=
  .ite (.refl s) ((Steady.of_touches ((touch_lsl s _).trans (setCause_touch ..))).trans (alarmEvent_steady ..))

/-! ### The permit unit -/

theorem reportConditions_steady (s : State) : Steady s s.reportConditions := by
  unfold reportConditions
  extract_lets low zero wasLow wasZero _ s₁ s₂
  have h₁ : Steady s s₁ := .of_touches (touch_pmu s _)
  have h₂ : Steady s₁ s₂ := .ite (.refl _) (counterLowReport_steady ..)
  exact h₁.trans (h₂.trans (.ite (.refl s₂) (stopEvaluated_steady _ s₂)))

theorem counterSettled_steady (h : Bool) (s : State) : Steady s (s.counterSettled h) := by
  unfold counterSettled
  extract_lets was line s₁ _ s₂ s₃ s₄
  have h₁ : Steady s s₁ := .ite (.of_touches (setFlag_touch ..)) (.refl s)
  have h₂ : Steady s₁ s₂ := .of_touches (touch_pmu s₁ _)
  have h₃ : Steady s₂ s₃ := reportConditions_steady s₂
  have h₄ : Steady s₃ s₄ := .ite (.refl _) (evalPermit_steady ..)
  exact h₁.trans (h₂.trans (h₃.trans (h₄.trans (stopTaken_steady line s₄))))

theorem permitEvent_steady (g : Bool) (s : State) : Steady s (s.permitEvent g) :=
  .ite (.refl s) ((Steady.of_touches (setCounter_touch ..)).trans (counterSettled_steady ..))

theorem attendanceEvent_steady (f : StatusFlag) (e : Nat) (s : State) : Steady s (s.attendanceEvent f e) :=
  (Steady.of_touches ((setFlag_touch f s).trans (setCounter_touch ..))).trans
    (((alarmEvent_steady ..).trans (log_steady ..)).trans (counterSettled_steady ..))

theorem challengeDue_steady (s : State) : Steady s s.challengeDue := by
  unfold challengeDue
  split
  · exact (Steady.of_touches (touch_pmu s _)).trans (notify_steady ..)
  · exact .refl s

theorem startChallengeTimer_steady (s : State) : Steady s s.startChallengeTimer := by
  refine (Steady.of_touches (touch_pmu s _)).trans (Steady.ite (challengeDue_steady _) (.refl _))

/-! ### Pumps, valves and candidates -/

/-- A pump record is replaced by one that shows the same. -/
theorem setPump_steady {p : PumpNo} {y : Pump} {s : State} (h : y.proof = s.pva.pumps[p].proof) :
    Steady s (s.setPump p y) := by
  refine .of_lnk rfl (fun q => ?_) fun _ => rfl
  simp only [setPump_pva, Fin.getElem_fin, Vector.getElem_set]
  split
  · next e => simpa [e] using h
  · rfl

/-- A valve record is replaced by one that shows the same. -/
theorem setValve_steady {v : ValveNo} {y : Valve} {s : State} (h : y.proved = s.pva.valves[v].proved) :
    Steady s (s.setValve v y) := by
  refine .of_lnk rfl (fun _ => rfl) fun w => ?_
  simp only [setValve_pva, Fin.getElem_fin, Vector.getElem_set]
  split
  · next e => simpa [e] using h
  · rfl

theorem openValve_steady (v : ValveNo) (s : State) : Steady s (s.openValve v) := setValve_steady rfl

theorem closeValve_steady (v : ValveNo) (s : State) : Steady s (s.closeValve v) :=
  setValve_steady (by unfold Valve.shut; split <;> rfl)

theorem closeValves_steady (l : List ValveNo) (s : State) : Steady s (s.closeValves l) :=
  .foldl (fun s v => closeValve_steady v s) l s

theorem haltPump_steady (p : PumpNo) (s : State) : Steady s (s.haltPump p) := setPump_steady rfl

/-- The arbiter's lists, mode and pin change. -/
theorem candidates_steady (s : State) (mode : MainMode) (l : List Candidate) (pin : Option Nat) (n : Nat) :
    Steady s { s with pva := { s.pva with mode := mode, candidates := l, pin := pin, grants := n } } :=
  .of_lnk rfl (fun _ => rfl) fun _ => rfl

theorem offer_steady (s : State) : Steady s s.offer := by
  refine .foldl (fun s k => ?_) _ s
  split
  · exact .ite (candidates_steady s ..) (.refl s)
  · exact .refl s

theorem leaveWaiting_steady (n : Nat) (s : State) : Steady s (s.leaveWaiting n) :=
  (candidates_steady s ..).trans (offer_steady _)

/-! ### Steps -/

theorem enterState_steady (k : SlotNo) (x : StepRec) (s : State) : Steady s (s.enterState k x) :=
  (Steady.of_touches (setStep_touch k x s)).trans (notify_steady ..)

theorem forSteps_steady (which : StepRec → Bool) (act : SlotNo → State → State) (h : ∀ k s, Steady s (act k s)) (s : State) :
    Steady s (s.forSteps which act) := by
  refine .foldl (fun s k => ?_) _ s
  split
  · exact .ite (h k s) (.refl s)
  · exact .refl s

theorem removeStep_steady (k : SlotNo) (x : StepRec) (o : StepOutcome) (d : Disposition) (s : State) :
    Steady s (s.removeStep k x o d) :=
  (Steady.of_touches ((touch_tsq s _).seq (stepEnd_touch x o d _))).trans (notify_steady ..)

theorem dropStep_steady (k : SlotNo) (x : StepRec) (o : StepOutcome) (s : State) : Steady s (s.dropStep k x o) :=
  (removeStep_steady k x o .cancelled s).trans (.ite (leaveWaiting_steady x.number _) (.refl _))

theorem settleMode_steady (s : State) : Steady s s.settleMode := .ite (.refl s) (candidates_steady s ..)

theorem releasePump_steady (x : StepRec) (s : State) : Steady s (s.releasePump x) := by
  unfold releasePump
  split
  · exact .refl s
  · exact .ite (setPump_steady rfl) (.refl s)

theorem checkClosed_steady (k : SlotNo) (s : State) : Steady s (s.checkClosed k) := by
  unfold checkClosed
  split
  · exact .refl s
  · rename_i x _
    refine .ite ?_ (.refl s)
    extract_lets o s₁
    have h : Steady s s₁ := (removeStep_steady k x o _ s).trans (releasePump_steady x _)
    exact .ite (h.trans (settleMode_steady s₁)) h

theorem closeLineup_steady (k : SlotNo) (s : State) : Steady s (s.closeLineup k) := by
  unfold closeLineup
  split
  · exact .refl s
  · exact closeValves_steady ..

theorem plantWindDown_steady (k : SlotNo) (x : StepRec) (s : State) : Steady s (s.plantWindDown k x) := by
  unfold plantWindDown
  split
  · exact .refl s
  · exact .ite (setPump_steady rfl) ((closeLineup_steady k s).trans (checkClosed_steady k _))

theorem windDown_steady (k : SlotNo) (o : StepOutcome) (s : State) : Steady s (s.windDown k o) := by
  unfold windDown
  split
  · exact .refl s
  · exact .ite ((enterState_steady k _ s).trans (plantWindDown_steady k _ _)) (.refl s)

theorem endStep_steady (k : SlotNo) (o : StepOutcome) (s : State) : Steady s (s.endStep k o) := by
  unfold endStep
  split
  · exact .refl s
  · exact .ite (dropStep_steady ..) (windDown_steady ..)

/-! ### Grants -/

theorem beforeGrant_proof (a : Pva) (p : PumpNo) : a.beforeGrant.pumps[p].proof = a.pumps[p].proof := by
  unfold Pva.beforeGrant
  split
  · simp
  · rfl

theorem beforeGrant_valves (a : Pva) : a.beforeGrant.valves = a.valves := by
  unfold Pva.beforeGrant
  split <;> rfl

theorem grant_steady (p : PumpNo) (k : SlotNo) (s : State) : Steady s (s.grant p k) := by
  unfold grant
  split
  · exact .refl s
  · rename_i x _
    extract_lets a n _ y s₁ s₂ s₃
    have h₁ : Steady s s₁ := by
      refine .of_lnk rfl (fun q => ?_) fun v => by simp only [s₁, a, beforeGrant_valves]
      have hq := beforeGrant_proof s.pva q
      show (a.pumps.set p y)[q].proof = _
      simp only [Fin.getElem_fin, Vector.getElem_set]
      split
      · next e =>
        obtain rfl : p = q := Fin.ext e
        exact hq
      · exact hq
    have h₂ : Steady s₁ s₂ := .foldl (fun s v => openValve_steady v s) _ s₁
    have h₃ : Steady s₂ s₃ := enterState_steady ..
    exact h₁.trans (h₂.trans (h₃.trans (leaveWaiting_steady x.number s₃)))

theorem decidePump_steady (f : StepRec → Bool) (p : PumpNo) (s : State) : Steady s (s.decidePump f p) := by
  unfold decidePump
  split
  · exact .refl s
  · exact grant_steady ..

theorem decideAll_steady (f : StepRec → Bool) (s : State) : Steady s (s.decideAll f) :=
  (decidePump_steady f 0 s).trans ((decidePump_steady f 1 _).trans (decidePump_steady f 2 _))

theorem grantsBut_steady (f : StepRec → Bool) (s : State) : Steady s (s.grantsBut f) :=
  (decideAll_steady f s).trans ((decideAll_steady f _).trans (decideAll_steady f _))

theorem grants_steady (s : State) : Steady s s.grants := grantsBut_steady _ s

theorem endSteps_steady (f : StepRec → Bool) (o : StepOutcome) (s : State) : Steady s (s.endSteps f o) :=
  forSteps_steady _ _ (fun k s => (endStep_steady k o s).trans (grantsBut_steady f _)) s

/-! ### Locks, faults and running -/

theorem lockTank_steady (t : TankNo) (why : Lock) (s : State) : Steady s (s.lockTank t why) := by
  unfold lockTank
  extract_lets _ s₁ s₂
  have h₂ : Steady s s₂ := .of_touches ((touch_tanks s _).seq (log_touch ..))
  exact h₂.trans ((endSteps_steady _ .locked s₂).trans (.of_touches (requestRecompute_touch _)))

theorem failedToClose_steady (v : ValveNo) (s : State) : Steady s (s.failedToClose v) := by
  unfold failedToClose
  split
  · exact .refl s
  · exact .ite (.refl s) (lockTank_steady ..)

theorem markValve_steady (v : ValveNo) (s : State) : Steady s (s.markValve v) := setValve_steady rfl

theorem reportValve_steady (v : ValveNo) (why : ValveCause) (n : Nat) (s : State) : Steady s (s.reportValve v why n) :=
  (faultReport_steady (.valve v) s).trans (log_steady ..)

theorem markStep_steady (k : SlotNo) (s : State) : Steady s (s.markStep k) := .of_touches (markStep_touch k s)

theorem lineupFailed_steady (k : SlotNo) (v : ValveNo) (why : ValveCause) (n : Nat) (s : State) :
    Steady s (s.lineupFailed k v why n) :=
  (markValve_steady v s).trans ((closeLineup_steady k _).trans ((reportValve_steady v why n _).trans (windDown_steady k .valve _)))

theorem pumpFault_steady (p : PumpNo) (why : PumpCause) (s : State) : Steady s (s.pumpFault p why) := by
  unfold pumpFault
  extract_lets n k s₁ s₂
  have h₁ : Steady s s₁ := setPump_steady rfl
  have h : Steady s s₂ := h₁.trans ((faultReport_steady (.pump p) s₁).trans (log_steady ..))
  clear_value k
  split
  · exact h
  · split
    · exact h
    · refine h.trans (.ite ?_ (windDown_steady _ .pump s₂))
      exact (markStep_steady _ s₂).trans ((closeLineup_steady _ _).trans (checkClosed_steady _ _))

theorem testStep_steady (k : SlotNo) (t : TankNo) (s : State) : Steady s (s.testStep k t) := by
  unfold testStep
  split
  · exact .refl s
  · refine .ite ?_ (.refl s)
    split
    · exact windDown_steady ..
    · exact .refl s

theorem levelPassed_steady (t : TankNo) (s : State) : Steady s (s.levelPassed t) :=
  (forSteps_steady _ _ (fun k s => testStep_steady k t s) s).trans (offer_steady _)

theorem tankStale_steady (t : TankNo) (s : State) : Steady s (s.tankStale t) :=
  (forSteps_steady _ _ (fun k s => windDown_steady k .stale s) s).trans (offer_steady _)

theorem boundsPassed_steady (t : TankNo) (s : State) : Steady s (s.boundsPassed t) :=
  (endSteps_steady _ .bound s).trans (forSteps_steady _ _ (fun k s => testStep_steady k t s) _)

theorem checkRamp_steady (k : SlotNo) (s : State) : Steady s (s.checkRamp k) := by
  unfold checkRamp
  split
  · exact .refl s
  · rename_i x _
    split
    · exact .refl s
    · extract_lets y
      split
      · rename_i s₁ s₂ _
        have h₁ : Steady s s₁ := .ite (.refl s) (setPump_steady rfl)
        exact h₁.trans ((enterState_steady ..).trans (Steady.foldl (fun s t => testStep_steady k t s) x.tanks s₂))
      · exact .refl s

theorem checkLineup_steady (k : SlotNo) (s : State) : Steady s (s.checkLineup k) := by
  unfold checkLineup
  split
  · exact .refl s
  · split
    · exact .refl s
    · exact .ite ((enterState_steady k _ s).trans (setPump_steady rfl)) (.refl s)

/-! ### Feedback: the field shows what it was delivered, and nothing after that changes what any field shows -/

theorem judgeAtRest_steady (v : ValveNo) (was : Proved) (s : State) : Steady s (s.judgeAtRest v was) := by
  have h (c : ValveCause) (n : Nat) : Steady s ((s.markValve v).reportValve v c n) :=
    (markValve_steady v s).trans (reportValve_steady v c n _)
  unfold judgeAtRest
  refine .ite (.ite ?_ (.refl s)) (.ite ((h ..).trans (failedToClose_steady v _)) (.refl s))
  split
  · exact .refl s
  · split
    · exact lineupFailed_steady ..
    · exact (h ..).trans (markStep_steady ..)
    · exact h ..

theorem valveFeedback_steady (v : ValveNo) (a : Bool) (s : State) :
    Steady (s.setValve v { s.pva.valves[v] with proved := .of a }) (s.valveFeedback v a) := by
  unfold valveFeedback
  extract_lets _ y was y₁ s₁
  have h₂ : Steady s₁ (s₁.setValve v { y₁ with watch := .absent }) := setValve_steady (by simp [s₁])
  split
  · refine .ite ?_ (.refl _)
    split
    · exact h₂.trans (checkLineup_steady ..)
    · exact h₂
  · refine .ite (.refl _) ?_
    split
    · exact h₂.trans (checkClosed_steady ..)
    · exact h₂
  · exact .ite (.refl _) (judgeAtRest_steady ..)

theorem runFeedback_steady (p : PumpNo) (a : Bool) (s : State) :
    Steady (s.setPump p { s.pva.pumps[p] with proof := .of a }) (s.runFeedback p a) := by
  unfold runFeedback
  extract_lets _ y was y₁ s₁
  have h₂ : Steady s₁ (s₁.setPump p { y₁ with watch := .absent }) := setPump_steady (by simp [s₁])
  refine .ite (.refl _) ?_
  split
  · refine .ite ?_ (.refl _)
    split
    · exact h₂.trans (checkRamp_steady ..)
    · exact h₂
  · exact .ite (.refl _) h₂
  · exact .ite (.ite (pumpFault_steady ..) (.refl _)) (.ite (pumpFault_steady ..) (.refl _))

/-! ### Tanks and channels -/

theorem figures_steady (t : TankNo) (n : Nat) (s : State) : Steady s (s.figures t n) := by
  unfold figures
  extract_lets was x s₁
  have h : Steady s s₁ := .of_touches (setTank_touch t x s)
  exact .ite h (.ite (h.trans (faultReport_steady ..)) (h.trans (.of_touches (faultWithdraw_touch ..))))

theorem updateTanks_steady (s : State) : Steady s s.updateTanks := .foldl (fun s t => figures_steady t _ s) _ s

theorem goStale_steady (ch : Option ChannelNo) (t : TankNo) (s : State) : Steady s (s.goStale ch t) := by
  unfold goStale
  extract_lets _ s₁ s₂ s₃
  have h₃ : Steady s s₃ := (Steady.of_touches ((setTank_touch ..).seq (log_touch ..))).trans (notify_steady ..)
  exact h₃.trans ((faultReport_steady (.sensor t) s₃).trans (tankStale_steady t _))

theorem deliverLevel_steady (t : TankNo) (n : Nat) (s : State) : Steady s (s.deliverLevel t n) :=
  .ite (.of_touches (setTank_touch ..)) ((figures_steady t n s).trans (levelPassed_steady ..))

theorem goValid_steady (ch : Option ChannelNo) (t : TankNo) (n : Option Nat) (s : State) : Steady s (s.goValid ch t n) := by
  unfold goValid
  extract_lets _ s₁ s₂ s₃ s₄
  have h₁ : Steady s s₁ := .of_touches (setTank_touch ..)
  have h₂ : Steady s₁ s₂ := by
    cases n
    · exact .refl s₁
    · exact deliverLevel_steady t _ s₁
  have h₄ : Steady s₂ s₄ := (log_steady ..).trans (notify_steady ..)
  exact h₁.trans (h₂.trans (h₄.trans (.of_touches (faultWithdraw_touch (.sensor t) s₄))))

theorem rebindTank_steady (t : TankNo) (s : State) : Steady s (s.rebindTank t) :=
  .ite (.refl s) (.ite (goStale_steady ..) (goValid_steady ..))

theorem rebindTanks_steady (s : State) : Steady s s.rebindTanks := .foldl (fun s t => rebindTank_steady t s) _ s

end Sys2Proof.Machine
end

section
/-! PROOFS. The bytes of a request's body: what each field of a body laid out as R200 gives it reads. -/

namespace Sys2Proof.Machine

/- One proof at a time: side by side they take a thread each. -/
set_option Elab.async false

/-! ### Lengths -/

@[simp] theorem length_bytesOf (k n : Nat) : (bytesOf k n).length = k := by
  induction k with
  | zero => rfl
  | succ k ih => simp [bytesOf, ih]

@[simp] theorem length_u8 (n : Nat) : (u8 n).length = 1 := length_bytesOf 1 n
@[simp] theorem length_u16 (n : Nat) : (u16 n).length = 2 := length_bytesOf 2 n
@[simp] theorem length_u32 (n : Nat) : (u32 n).length = 4 := length_bytesOf 4 n
@[simp] theorem length_i16 (x : Int) : (i16 x).length = 2 := length_bytesOf 2 _
@[simp] theorem length_flag (b : Bool) : (flag b).length = 1 := length_bytesOf 1 _

/-! ### Fields -/

theorem numberOf_append (a b : List Byte) : numberOf (a ++ b) = b.foldl (fun n x => n * 256 + x.toNat) (numberOf a) :=
  List.foldl_append

/-- Bytes read behind others count from what those spell. -/
theorem foldl_bytesOf (k n m : Nat) :
    (bytesOf k n).foldl (fun n (x : Byte) => n * 256 + x.toNat) m = m * 256 ^ k + n % 256 ^ k := by
  induction k generalizing m with
  | zero => simp [bytesOf, Nat.mod_one]
  | succ k ih =>
    have hsplit : n % 256 ^ (k + 1) = n / 256 ^ k % 256 * 256 ^ k + n % 256 ^ k := by
      rw [Nat.pow_succ, Nat.mod_mul, Nat.add_comm, Nat.mul_comm]
    rw [bytesOf, List.foldl_cons, ih, hsplit, BitVec.toNat_ofNat]
    ring

/-- A number written in `k` bytes reads as itself, as far as they hold it. -/
theorem numberOf_bytesOf (k n : Nat) : numberOf (bytesOf k n) = n % 256 ^ k := by
  simpa [numberOf] using foldl_bytesOf k n 0

/-- A field that starts behind the bytes in front is a field of the rest. -/
theorem field_append_right (a b : List Byte) (off len : Nat) : field (a ++ b) (a.length + off) len = field b off len := by
  simp only [field, List.drop_length_add_append]

/-- A field that the bytes in front fill is what they spell. -/
theorem field_append_left (a b : List Byte) : field (a ++ b) 0 a.length = numberOf a := by simp [field]

theorem field_whole (a : List Byte) : field a 0 a.length = numberOf a := by simp [field]

section Front
variable (n : Nat) (x : Int) (p : Bool) (b : List Byte) (off len : Nat)

@[simp] theorem field_u8 : field (u8 n) 0 1 = n % 256 := by
  rw [show (1 : Nat) = (u8 n).length from (length_u8 n).symm, field_whole]
  exact numberOf_bytesOf 1 n
@[simp] theorem field_u16 : field (u16 n) 0 2 = n % 65536 := by
  rw [show (2 : Nat) = (u16 n).length from (length_u16 n).symm, field_whole]
  exact numberOf_bytesOf 2 n
@[simp] theorem field_u32 : field (u32 n) 0 4 = n % 4294967296 := by
  rw [show (4 : Nat) = (u32 n).length from (length_u32 n).symm, field_whole]
  exact numberOf_bytesOf 4 n
@[simp] theorem field_flag : field (flag p) 0 1 = p.toNat := by cases p <;> rfl

@[simp] theorem field_u8_front : field (u8 n ++ b) 0 1 = n % 256 := by
  rw [show (1 : Nat) = (u8 n).length from (length_u8 n).symm, field_append_left]
  exact numberOf_bytesOf 1 n
@[simp] theorem field_u16_front : field (u16 n ++ b) 0 2 = n % 65536 := by
  rw [show (2 : Nat) = (u16 n).length from (length_u16 n).symm, field_append_left]
  exact numberOf_bytesOf 2 n
@[simp] theorem field_u32_front : field (u32 n ++ b) 0 4 = n % 4294967296 := by
  rw [show (4 : Nat) = (u32 n).length from (length_u32 n).symm, field_append_left]
  exact numberOf_bytesOf 4 n
@[simp] theorem field_flag_front : field (flag p ++ b) 0 1 = p.toNat := by cases p <;> rfl

@[simp] theorem field_u8_behind : field (u8 n ++ b) (off + 1) len = field b off len := by
  rw [Nat.add_comm, show (1 : Nat) = (u8 n).length from (length_u8 n).symm, field_append_right]
@[simp] theorem field_u16_behind : field (u16 n ++ b) (off + 2) len = field b off len := by
  rw [Nat.add_comm, show (2 : Nat) = (u16 n).length from (length_u16 n).symm, field_append_right]
@[simp] theorem field_u32_behind : field (u32 n ++ b) (off + 4) len = field b off len := by
  rw [Nat.add_comm, show (4 : Nat) = (u32 n).length from (length_u32 n).symm, field_append_right]
@[simp] theorem field_i16_behind : field (i16 x ++ b) (off + 2) len = field b off len := field_u16_behind ..
@[simp] theorem field_flag_behind : field (flag p ++ b) (off + 1) len = field b off len := field_u8_behind ..

@[simp] theorem fieldI16_u8_behind : fieldI16 (u8 n ++ b) (off + 1) = fieldI16 b off := by simp [fieldI16]

/-- A signed number within 16 bits reads as itself (R200). -/
theorem fieldI16_front {x : Int} (hlow : -32768 ≤ x) (hhigh : x < 32768) : fieldI16 (i16 x ++ b) 0 = x := by
  have hfield : field (i16 x ++ b) 0 2 = (x % 65536).toNat := by
    rw [i16, ← u16, field_u16_front]
    exact Nat.mod_eq_of_lt (by omega)
  simp only [fieldI16, hfield]
  split <;> omega

end Front

/-! ### Counted entries -/

/-- The entries behind a head are the parts it was laid out in. -/
theorem entriesOf_flatMap {α : Type} {head entry : Nat} {enc : α → List Byte} {front : List Byte} (hfront : front.length = head)
    (henc : ∀ x, (enc x).length = entry) (l : List α) :
    entriesOf head entry l.length (front ++ l.flatMap enc) = l.map enc := by
  have hdrop (e : Nat) : (front ++ l.flatMap enc).drop (head + entry * e) = (l.flatMap enc).drop (entry * e) := by
    rw [← hfront, List.drop_length_add_append]
  simp only [entriesOf, hdrop]
  clear hdrop
  induction l with
  | nil => rfl
  | cons x l ih =>
    simp only [List.length_cons, List.range_succ_eq_map, List.map_cons, List.map_map, List.flatMap_cons]
    refine congrArg₂ _ ?_ ?_
    · simp [henc]
    · rw [← ih]
      refine List.map_congr_left fun e _ => ?_
      have : entry * (e + 1) = (enc x).length + entry * e := by rw [henc]; ring
      simp only [Function.comp_apply, this, List.drop_length_add_append]

/-- A counted body spells its entries: each entry, written and read again, is as it was. -/
theorem decode_entries {α : Type} {head entry count : Nat} {enc : α → List Byte} {dec : List Byte → α} {front : List Byte}
    {l : List α} (hcount : count = l.length) (hfront : front.length = head) (henc : ∀ x, (enc x).length = entry)
    (hdec : ∀ x ∈ l, dec (enc x) = x) :
    (entriesOf head entry count (front ++ l.flatMap enc)).map dec = l := by
  rw [hcount, entriesOf_flatMap hfront henc, List.map_map]
  exact (List.map_congr_left hdec).trans (List.map_id' l)

theorem length_flatMap_entries {α : Type} {entry : Nat} {enc : α → List Byte} (henc : ∀ x, (enc x).length = entry)
    (l : List α) : (l.flatMap enc).length = entry * l.length := by
  simp [List.length_flatMap, henc, Nat.mul_comm]

/-! ### Indices, codes and ranges -/

@[simp] theorem index_val {k : Nat} (i : Fin k) : index i.val k = some i := by simp [index]

@[simp] theorem whenever_true {α : Type} (x : α) : whenever true x = some x := rfl
@[simp] theorem whenever_false {α : Type} (x : α) : whenever false x = none := rfl

theorem within_iff {lo hi n : Nat} : within lo hi n = true ↔ lo ≤ n ∧ n ≤ hi := by simp [within]

@[simp] theorem onOff_toNat (b : Bool) : onOff b.toNat = some b := by cases b <;> rfl

end Sys2Proof.Machine
end

section
/-! PROOFS. How a request is served, from its judgement: refused, written, or taken with notices made on the way. -/

namespace Sys2Proof.Machine

/- One proof at a time: side by side they take a thread each. -/
set_option Elab.async false

open State

theorem opened_touch (r : ReplyNo) (kind : Byte) (tag : Tag) (s : State) : Touches [.lnk] s (s.opened r kind tag) := touch_lnk s _

/-! ### The three judgements of tableWrite and anyPhase -/

section Judged
variable {α : Type} {lengthOk : Bool} {operands : Option α} {write : α → State → State} {act : α → State → Judged} {x : α}
  {s : State}

theorem tableWrite_format (hlen : lengthOk = false) : tableWrite lengthOk operands write s = refuse .format s := by
  simp [tableWrite, hlen]

theorem tableWrite_phase (hlen : lengthOk = true) (hphase : s.ccl.phase ≠ .setup) :
    tableWrite lengthOk operands write s = refuse .phase s := by simp [tableWrite, hlen, hphase]

theorem tableWrite_range (hlen : lengthOk = true) (hphase : s.ccl.phase = .setup) (hops : operands = none) :
    tableWrite lengthOk operands write s = refuse .range s := by simp [tableWrite, hlen, hphase, hops]

theorem tableWrite_taken (hlen : lengthOk = true) (hphase : s.ccl.phase = .setup) (hops : operands = some x) :
    tableWrite lengthOk operands write s = taken (write x s) := by simp [tableWrite, hlen, hphase, hops]

theorem anyPhase_format (hlen : lengthOk = false) : anyPhase lengthOk operands act s = refuse .format s := by
  simp [anyPhase, hlen]

theorem anyPhase_act (hlen : lengthOk = true) (hops : operands = some x) : anyPhase lengthOk operands act s = act x s := by
  simp [anyPhase, hlen, hops]

end Judged

/-! ### A request served from its judgement -/

section Served
variable {s t : State} {r : ReplyNo} {kind : Byte} {tag : Tag} {st : Status} {body : List Byte} {judge : ReplyNo → State → Judged}

/-- What a request that is answered at once does besides its judgement, it does to the link alone. -/
theorem serve_touch (hp : s.powered = true) (hr : s.lnk.freeSlot = some r)
    (hj : judge r (s.opened r kind tag) = (t, some ⟨st, body⟩)) : Touches [.lnk] t (s.serve kind tag judge) := by
  rw [serve_eq hp hr, hj]
  exact (reply_touch ..).trans (transmit_touch _)

/-- A request whose judgement makes notices at most is answered at once. -/
theorem answered_of_steady (hp : s.powered = true) (hr : s.lnk.freeSlot = some r)
    (hj : judge r (s.opened r kind tag) = (t, some ⟨st, body⟩)) (hs : Steady (s.opened r kind tag) t) :
    Answered s (s.serve kind tag judge) kind tag st body :=
  answered_of_judge hp hr hj hs.rx hs.slots hs.filled hs.tx

/-- A request whose judgement leaves the link alone makes no notice. -/
theorem quiet_of_judge (hp : s.powered = true) (hr : s.lnk.freeSlot = some r)
    (hj : judge r (s.opened r kind tag) = (t, some ⟨st, body⟩)) (hl : t.lnk = (s.opened r kind tag).lnk) :
    Quiet s (s.serve kind tag judge) := by
  have hslot : t.lnk.slots[r] = .reserved kind tag := by rw [hl]; exact Vector.getElem_set_self ..
  have hnotices : t.lnk.notices = s.lnk.notices := by rw [hl]; rfl
  have henabled : t.lnk.enabled = s.lnk.enabled := by rw [hl]; rfl
  rw [Quiet, serve_eq hp hr, hj]
  simp only []
  rw [reply_reserved hslot]
  exact ⟨(transmit_notices (by simp)).trans hnotices, (transmit_link _).2.2.trans henabled⟩

end Served

theorem State.serving.slot {s : State} (h : s.serving) : ∃ r, s.lnk.freeSlot = some r := Option.isSome_iff_exists.mp h.2

/-- Two states that differ in the link alone. -/
theorem Touches.lnk_eq {s t : State} (h : Touches [.lnk] s t) (l : Lnk) : { t with lnk := l } = { s with lnk := l } := by
  rw [h.powered, h.cfg, h.berth, h.fcu, h.tanks, h.ptr, h.cen, h.lsl, h.tsq, h.pva, h.pmu, h.rcu, h.sst, h.ccl, h.pins, h.now,
    h.choices, h.pending]

section Requests
variable {s : State} {kind : Byte} {tag : Tag} {st : Status} {body : List Byte} {judge : ReplyNo → State → Judged}

/-- A request that is refused, or only read for, is replied, and nothing else changes. -/
theorem replied_of_kept (h : s.serving)
    (hj : ∀ r, judge r (s.opened r kind tag) = (s.opened r kind tag, some ⟨st, body⟩)) :
    Replied s (s.serve kind tag judge) kind tag st body := by
  obtain ⟨r, hr⟩ := h.slot
  exact replied_of_judge h.1 hr (hj r)

/-- A request answered at once, whose judgement leaves the link alone: what it has changed, and its answer. -/
theorem served_of_judge (h : s.serving) {f : State → State}
    (hj : ∀ r, judge r (s.opened r kind tag) = (f (s.opened r kind tag), some ⟨st, body⟩))
    (hl : ∀ r, (f (s.opened r kind tag)).lnk = (s.opened r kind tag).lnk) :
    (∃ r, { s.serve kind tag judge with lnk := s.lnk } = { f (s.opened r kind tag) with lnk := s.lnk })
      ∧ Quiet s (s.serve kind tag judge) ∧ Answered s (s.serve kind tag judge) kind tag st body := by
  obtain ⟨r, hr⟩ := h.slot
  have hlnk := hl r
  exact ⟨⟨r, (serve_touch h.1 hr (hj r)).lnk_eq s.lnk⟩, quiet_of_judge h.1 hr (hj r) hlnk,
    answered_of_judge h.1 hr (hj r) (by rw [hlnk]; rfl) (by rw [hlnk]; rfl) (by rw [hlnk]; rfl) (by rw [hlnk]; rfl)⟩

/-- A request answered at once, whose judgement makes notices at most: what it leaves differs from what was judged in the link alone. -/
theorem taken_of_judge {c : Instr} (hexec : exec c s = .next (s.serve kind tag judge)) (h : s.serving) {f : State → State}
    (hj : ∀ r, judge r (s.opened r kind tag) = (f (s.opened r kind tag), some ⟨st, body⟩))
    (hst : ∀ r, Steady (s.opened r kind tag) (f (s.opened r kind tag))) :
    ∃ t r, exec c s = .next t ∧ Touches [.lnk] (f (s.opened r kind tag)) t ∧ Answered s t kind tag st body := by
  obtain ⟨r, hr⟩ := h.slot
  exact ⟨_, r, hexec, serve_touch h.1 hr (hj r), answered_of_steady h.1 hr (hj r) (hst r)⟩

/-- The same of one whose judgement leaves the link alone, so that no notice is made. -/
theorem taken_quietly {c : Instr} (hexec : exec c s = .next (s.serve kind tag judge)) (h : s.serving) {f : State → State}
    (hj : ∀ r, judge r (s.opened r kind tag) = (f (s.opened r kind tag), some ⟨st, body⟩))
    (hl : ∀ r, (f (s.opened r kind tag)).lnk = (s.opened r kind tag).lnk) :
    ∃ t r, exec c s = .next t ∧ Touches [.lnk] (f (s.opened r kind tag)) t ∧ Quiet s t ∧ Answered s t kind tag st body := by
  obtain ⟨r, hr⟩ := h.slot
  obtain ⟨-, hq, ha⟩ := served_of_judge h hj hl
  exact ⟨_, r, hexec, serve_touch h.1 hr (hj r), hq, ha⟩

variable {α : Type} {lengthOk : Bool} {operands : Option α} {write : α → State → State} {x : α} {cfg : ConfigTables}

/-- A table-writing request of the right length and ranges, in SETUP, writes its table and is answered OK (R3). -/
theorem wrote_of_tableWrite (h : s.serving) (hphase : s.ccl.phase = .setup) (hlen : lengthOk = true)
    (hops : operands = some x) (hw : ∀ r, write x (s.opened r kind tag) = { s.opened r kind tag with cfg := cfg }) :
    Wrote s (s.serve kind tag fun _ => tableWrite lengthOk operands write) cfg kind tag := by
  obtain ⟨⟨r, he⟩, hq, ha⟩ := served_of_judge (kind := kind) (tag := tag) (st := .ok) (body := [])
    (judge := fun _ => tableWrite lengthOk operands write) h (f := write x)
    (fun _ => tableWrite_taken hlen hphase hops) fun r => by rw [hw r]
  exact ⟨he.trans (by rw [hw r]; rfl), hq, ha⟩

/-- A table-writing request with a field out of range, in SETUP, is refused with RANGE (R3). -/
theorem range_of_tableWrite (h : s.serving) (hphase : s.ccl.phase = .setup) (hlen : lengthOk = true) (hops : operands = none) :
    Replied s (s.serve kind tag fun _ => tableWrite lengthOk operands write) kind tag .range [] :=
  replied_of_kept h fun _ => tableWrite_range hlen hphase hops

/-- A table-writing request of the right length, in SETUP: its table is written where its fields are in range, else it is refused with RANGE (R3). -/
theorem wrote_or_range {c : Prop} [Decidable c] (h : s.serving) (hphase : s.ccl.phase = .setup) (hlen : lengthOk = true)
    (hops : operands = if c then some x else none)
    (hw : ∀ r, write x (s.opened r kind tag) = { s.opened r kind tag with cfg := cfg }) :
    if c then Wrote s (s.serve kind tag fun _ => tableWrite lengthOk operands write) cfg kind tag
    else Replied s (s.serve kind tag fun _ => tableWrite lengthOk operands write) kind tag .range [] := by
  split at hops
  · exact (if_pos ‹c›).mpr (wrote_of_tableWrite h hphase hlen hops hw)
  · exact (if_neg ‹¬c›).mpr (range_of_tableWrite h hphase hlen hops)

/-- A reading request of the right length and ranges is answered with its report, and nothing else changes. -/
theorem replied_of_reader (h : s.serving) {report : α → State → List Byte} (hlen : lengthOk = true) (hops : operands = some x)
    (hsame : ∀ r, report x (s.opened r kind tag) = report x s) :
    Replied s (s.serve kind tag fun _ => anyPhase lengthOk operands fun x s => taken s (report x s)) kind tag .ok (report x s) :=
  replied_of_kept h fun r => (anyPhase_act hlen hops).trans (by simp only [taken, hsame])

end Requests

end Sys2Proof.Machine
end

section
/-! PROOFS. The operands of the table-writing requests, read from the bodies that R200 lays out. -/

namespace Sys2Proof.Machine

/- One proof at a time: side by side they take a thread each. -/
set_option Elab.async false

/-- A value that its bytes hold reads as itself. -/
theorem mod_byte {n : Nat} (h : n ≤ 255) : n % 256 = n := Nat.mod_eq_of_lt (by omega)
theorem mod_word {n : Nat} (h : n ≤ 65535) : n % 65536 = n := Nat.mod_eq_of_lt (by omega)
theorem mod_long {n : Nat} (h : n ≤ 4294967295) : n % 4294967296 = n := Nat.mod_eq_of_lt (by omega)

theorem parseShipSet_bytes {ls stern head list : Nat} (hls : ls ≤ 65535) (hstern : stern ≤ 65535) (hhead : head ≤ 65535)
    (hlist : list ≤ 65535) :
    parseShipSet (u16 ls ++ u16 stern ++ u16 head ++ u16 list) =
      if 100 ≤ ls ∧ ls ≤ 3000 ∧ stern ≤ 20000 ∧ head ≤ 20000 ∧ list ≤ 3000 then some ⟨ls, stern, head, list⟩ else none := by
  simp [parseShipSet, mod_word, *, whenever, within, and_assoc]

theorem parseBandSet_bytes (c : Fin 7) {caution stop : Nat} (hcaution : caution ≤ 65535) (hstop : stop ≤ 65535) :
    parseBandSet (u8 c.val ++ u16 caution ++ u16 stop) =
      if 500 ≤ caution ∧ caution ≤ 1200 ∧ 500 ≤ stop ∧ stop ≤ 1200 then some (c, ⟨caution, stop⟩) else none := by
  have hc : c.val % 256 = c.val := mod_byte (by omega)
  simp [parseBandSet, mod_word, *, whenever, within, and_assoc]

theorem parseBandSet_noClass {c : Nat} (hlow : 7 ≤ c) (hhigh : c ≤ 255) (caution stop : Nat) :
    parseBandSet (u8 c ++ u16 caution ++ u16 stop) = none := by
  have hindex : index c 7 = none := dif_neg (by omega)
  simp [parseBandSet, mod_byte hhigh, hindex]

theorem parsePaceSet_bytes {pace : Nat} (h : pace ≤ 65535) :
    parsePaceSet (u16 pace) = if pace ≤ 20000 then some pace else none := by
  simp [parsePaceSet, mod_word h, whenever, within]

theorem parseScanSet_bytes {prescale reload : Nat} (hp : prescale ∈ [1, 2, 4, 8]) (hr : reload ≤ 255) :
    parseScanSet (u8 prescale ++ u8 reload) = some ⟨prescale, reload⟩ := by
  have hle : prescale ≤ 255 := by simp at hp; omega
  have hc : [1, 2, 4, 8].contains prescale = true := by simpa using hp
  simp only [parseScanSet, field_u8_front, field_u8_behind, field_u8, mod_byte hle, mod_byte hr, hc, whenever_true]

/-! ### Counted tables -/

section Counted
variable {α : Type} {enc : α → List Byte}

/-- The count of a counted body. -/
theorem field_count (first : Nat) (l : List α) (h : l.length ≤ 255) :
    field (u8 first ++ u8 l.length ++ l.flatMap enc) 1 1 = l.length := by simp [mod_byte h]

/-- The first byte of a counted body. -/
theorem field_first {first : Nat} (l : List α) (h : first ≤ 255) :
    field (u8 first ++ u8 l.length ++ l.flatMap enc) 0 1 = first := by simp [mod_byte h]

theorem lengthCounted_bytes {entry : Nat} (first : Nat) {l : List α} (henc : ∀ x, (enc x).length = entry) (h : l.length ≤ 255) :
    lengthCounted 2 entry 1 (u8 first ++ u8 l.length ++ l.flatMap enc) = true := by
  simp only [lengthCounted, field_count first l h]
  simp only [List.length_append, length_u8, length_flatMap_entries henc]
  simp

end Counted

theorem parseSegmentSet_bytes {first : Nat} {l : List Segment} (hne : l ≠ []) (hspan : first + l.length ≤ 20)
    (hrange : ∀ e ∈ l, e.mass ≤ 60000 ∧ e.immersion ≤ 4000) :
    parseSegmentSet (u8 first ++ u8 l.length ++ l.flatMap fun e => u16 e.mass ++ u16 e.immersion) = some (first, l) := by
  have hpos := List.length_pos_of_ne_nil hne
  have hfirst := field_first (enc := fun e : Segment => u16 e.mass ++ u16 e.immersion) l (show first ≤ 255 by omega)
  have hcount := field_count (enc := fun e : Segment => u16 e.mass ++ u16 e.immersion) first l (by omega)
  have hentries := decode_entries (dec := fun e => Segment.mk (field e 0 2) (field e 2 2)) (head := 2) (entry := 4)
    (front := u8 first ++ u8 l.length) (enc := fun e : Segment => u16 e.mass ++ u16 e.immersion) (l := l) rfl rfl (fun _ => rfl)
    fun e he => by
      obtain ⟨hm, hi⟩ := hrange e he
      simp [mod_word (show e.mass ≤ 65535 by omega), mod_word (show e.immersion ≤ 65535 by omega)]
  have hall : (l.all fun e => within 0 60000 e.mass && within 0 4000 e.immersion) = true := by
    simpa [within] using hrange
  simp only [parseSegmentSet, hfirst, hcount, hentries, hall]
  rw [(within_iff (n := first)).mpr (by omega), (within_iff (n := l.length)).mpr (by omega),
    (within_iff (n := first + l.length)).mpr (by omega)]
  rfl

theorem parseStationSet_bytes {first : Nat} {l : List Station} (hne : l ≠ []) (hlow : 1 ≤ first) (hspan : first + l.length ≤ 20)
    (hrange : ∀ e ∈ l, within 1 100000 e.shear = true ∧ within 1 10000000 e.hogging = true
      ∧ within 1 10000000 e.sagging = true) :
    parseStationSet (u8 first ++ u8 l.length ++ l.flatMap fun e => u32 e.shear ++ u32 e.hogging ++ u32 e.sagging)
      = some (first, l) := by
  have hpos := List.length_pos_of_ne_nil hne
  have hfirst := field_first (enc := fun e : Station => u32 e.shear ++ u32 e.hogging ++ u32 e.sagging) l
    (show first ≤ 255 by omega)
  have hcount := field_count (enc := fun e : Station => u32 e.shear ++ u32 e.hogging ++ u32 e.sagging) first l (by omega)
  have hentries := decode_entries (dec := fun e => Station.mk (field e 0 4) (field e 4 4) (field e 8 4)) (head := 2) (entry := 12)
    (front := u8 first ++ u8 l.length) (enc := fun e : Station => u32 e.shear ++ u32 e.hogging ++ u32 e.sagging) (l := l)
    rfl rfl (fun _ => rfl) fun e he => by
      obtain ⟨hs, hh, hg⟩ := hrange e he
      have hs := within_iff.mp hs
      have hh := within_iff.mp hh
      have hg := within_iff.mp hg
      simp [mod_long (show e.shear ≤ 4294967295 by omega), mod_long (show e.hogging ≤ 4294967295 by omega),
        mod_long (show e.sagging ≤ 4294967295 by omega)]
  have hall : (l.all fun e => within 1 100000 e.shear && within 1 10000000 e.hogging && within 1 10000000 e.sagging) = true := by
    simpa [and_assoc] using hrange
  simp only [parseStationSet, hfirst, hcount, hentries, hall]
  rw [(within_iff (n := first)).mpr (by omega), (within_iff (n := l.length)).mpr (by omega),
    (within_iff (n := first + l.length)).mpr (by omega)]
  rfl

theorem parseSoundingSet_bytes (k : TankNo) {l : List Point} (hlow : 2 ≤ l.length) (hhigh : l.length ≤ 12)
    (hrange : ∀ p ∈ l, p.level ≤ 40000 ∧ p.volume ≤ 200000) :
    parseSoundingSet (u8 k.val ++ u8 l.length ++ l.flatMap fun p => u16 p.level ++ u32 p.volume) = some (k, l) := by
  have hfirst := field_first (enc := fun p : Point => u16 p.level ++ u32 p.volume) l (show k.val ≤ 255 by omega)
  have hcount := field_count (enc := fun p : Point => u16 p.level ++ u32 p.volume) k.val l (by omega)
  have hentries := decode_entries (dec := fun e => Point.mk (field e 0 2) (field e 2 4)) (head := 2) (entry := 6)
    (front := u8 k.val ++ u8 l.length) (enc := fun p : Point => u16 p.level ++ u32 p.volume) (l := l) rfl rfl (fun _ => rfl)
    fun p hp => by
      obtain ⟨hl, hv⟩ := hrange p hp
      simp [mod_word (show p.level ≤ 65535 by omega), mod_long (show p.volume ≤ 4294967295 by omega)]
  have hall : (l.all fun p => within 0 40000 p.level && within 0 200000 p.volume) = true := by simpa [within] using hrange
  simp only [parseSoundingSet, hfirst, index_val, hcount, hentries, hall]
  rw [(within_iff (n := l.length)).mpr (by omega)]
  rfl

/-! ### Holds, tanks, pumps and valves -/

theorem parseHoldSet_bytes (h : HoldNo) {c : HoldConfig} (hfirst : c.first ≤ 19) (hcount : within 1 4 c.count = true)
    (hlow : -3000 ≤ c.arm) (hhigh : c.arm ≤ 3000) (hcoaming : c.coaming ≤ 40000) (hmass : c.maxMass ≤ 200000) :
    parseHoldSet (u8 h.val ++ u8 c.first ++ u8 c.count ++ i16 c.arm ++ u16 c.coaming ++ u32 c.maxMass) = some (h, c) := by
  have hcount' := within_iff.mp hcount
  have hno : h.val % 256 = h.val := mod_byte (by omega)
  simp [parseHoldSet, mod_byte (show c.first ≤ 255 by omega), mod_byte (show c.count ≤ 255 by omega),
    fieldI16_front _ (show -32768 ≤ c.arm by omega) (show c.arm < 32768 by omega), mod_word (show c.coaming ≤ 65535 by omega),
    mod_long (show c.maxMass ≤ 4294967295 by omega), whenever, within, *]

theorem parseTankSet_bytes (k : TankNo) {c : TankConfig} (hfirst : c.first ≤ 19) (hcount : within 1 4 c.count = true)
    (hlow : -3000 ≤ c.arm) (hhigh : c.arm ≤ 3000) (hdensity : within 990 1040 c.density = true)
    (hlevel : c.fixedLevel ≤ 40000) :
    parseTankSet (u8 k.val ++ u8 c.side.code ++ u8 c.first ++ u8 c.count ++ i16 c.arm ++ u16 c.density ++ flag (!c.metered)
      ++ u16 c.fixedLevel) = some (k, c) := by
  have hcount' := within_iff.mp hcount
  have hdensity' := within_iff.mp hdensity
  have hno : k.val % 256 = k.val := mod_byte (by omega)
  have hside : ofCode [Side.port, .centre, .starboard] (c.side.code % 256) = some c.side := by cases c.side <;> rfl
  have hmetered : ofCode [true, false] (!c.metered).toNat = some c.metered := by cases c.metered <;> rfl
  simp [parseTankSet, mod_byte (show c.first ≤ 255 by omega), mod_byte (show c.count ≤ 255 by omega),
    fieldI16_front _ (show -32768 ≤ c.arm by omega) (show c.arm < 32768 by omega), mod_word (show c.density ≤ 65535 by omega),
    mod_word (show c.fixedLevel ≤ 65535 by omega), whenever, within, *]

theorem parsePumpSet_bytes (p : PumpNo) {c : PumpConfig} {run flow : ChannelNo} (hrun : c.runChannel = some run)
    (hflow : c.flowChannel = some flow) (hgear : within 1 30 c.gearInterval = true) (hstart : within 2 60 c.startTime = true)
    (hnoFlow : within 5 120 c.noFlowTime = true) (hlitres : within 1 10000 c.litresPerPulse = true)
    (hinterval : within 1 60000 c.minInterval = true) :
    parsePumpSet (u8 p.val ++ u8 c.gearInterval ++ u8 c.startTime ++ u8 c.noFlowTime ++ u16 c.litresPerPulse
      ++ u16 c.minInterval ++ u8 run.val ++ u8 flow.val) = some (p, c) := by
  have hgear' := within_iff.mp hgear
  have hstart' := within_iff.mp hstart
  have hnoFlow' := within_iff.mp hnoFlow
  have hlitres' := within_iff.mp hlitres
  have hinterval' := within_iff.mp hinterval
  have hp : p.val % 256 = p.val := mod_byte (by omega)
  have hr : run.val % 256 = run.val := mod_byte (by omega)
  have hf : flow.val % 256 = flow.val := mod_byte (by omega)
  obtain ⟨gear, start, noFlow, litres, interval, runChannel, flowChannel⟩ := c
  simp only at *
  subst hrun hflow
  simp [parsePumpSet, hp, hr, hf, mod_byte (show gear ≤ 255 by omega), mod_byte (show start ≤ 255 by omega),
    mod_byte (show noFlow ≤ 255 by omega), mod_word (show litres ≤ 65535 by omega),
    mod_word (show interval ≤ 65535 by omega), hgear, hstart, hnoFlow, hlitres, hinterval]

theorem parseValveSet_bytes (v : ValveNo) (ch : ChannelNo) {travel : Nat} (h : within 5 120 travel = true) :
    parseValveSet (u8 v.val ++ u8 travel ++ u8 ch.val) = some (v, ⟨travel, some ch⟩) := by
  have htravel := within_iff.mp h
  have hv : v.val % 256 = v.val := mod_byte (by omega)
  have hch : ch.val % 256 = ch.val := mod_byte (by omega)
  simp [parseValveSet, hv, hch, mod_byte (show travel ≤ 255 by omega), h]

/-! ### Channels, bounds, limits and settings -/

theorem parseStopSet_bytes {n : Nat} (h : within 1 8 n = true) (enable : Bool) :
    parseStopSet (u8 n ++ flag enable) = some ⟨n, enable⟩ := by
  have hn := within_iff.mp h
  simp [parseStopSet, mod_byte (show n ≤ 255 by omega), h]

theorem parseBoundsSet_bytes (k : TankNo) {lower upper : Nat} (hrise : lower < upper) (hupper : upper ≤ 40000) :
    parseBoundsSet (u8 k.val ++ u16 lower ++ u16 upper) = some (k, ⟨lower, upper⟩) := by
  have hk : k.val % 256 = k.val := mod_byte (by omega)
  simp [parseBoundsSet, hk, mod_word (show lower ≤ 65535 by omega), mod_word (show upper ≤ 65535 by omega), hrise, hupper]

theorem parseBerthSet_bytes {draft clearance gm : Nat} (hdraft : draft ≤ 40000) (hclearance : clearance ≤ 40000)
    (hgm : gm = 0 ∨ within 10 2000 gm = true) :
    parseBerthSet (u16 draft ++ u16 clearance ++ u16 gm) = some ⟨draft, clearance, gm⟩ := by
  have hle : gm ≤ 65535 := hgm.elim (by omega) fun h => by have := within_iff.mp h; omega
  have hset : (gm == 0 || within 10 2000 gm) = true := by simpa using hgm
  simp [parseBerthSet, mod_word (show draft ≤ 65535 by omega), mod_word (show clearance ≤ 65535 by omega), mod_word hle,
    within_iff.mpr ⟨Nat.zero_le draft, hdraft⟩, within_iff.mpr ⟨Nat.zero_le clearance, hclearance⟩, hset]

theorem parseChannelSet_off (ch : ChannelNo) : parseChannelSet (u8 ch.val ++ u8 0) = some (ch, .off) := by
  have hch : ch.val % 256 = ch.val := mod_byte (by omega)
  simp [parseChannelSet, hch]

theorem parseChannelSet_pulse (ch : ChannelNo) : parseChannelSet (u8 ch.val ++ u8 3) = some (ch, .pulse) := by
  have hch : ch.val % 256 = ch.val := mod_byte (by omega)
  simp [parseChannelSet, hch]

theorem parseChannelSet_switch (ch : ChannelNo) {debounce : Nat} (h : within 10 2000 debounce = true) (notify : Bool) :
    parseChannelSet (u8 ch.val ++ (u8 2 ++ u16 debounce ++ flag notify)) = some (ch, .switch debounce notify) := by
  have hch : ch.val % 256 = ch.val := mod_byte (by omega)
  have hle := within_iff.mp h
  simp [parseChannelSet, hch, mod_word (show debounce ≤ 65535 by omega), h]

/-- A tank that a channel is bound to, or none, reads as itself (R201). -/
theorem indexOrNone_ixOrNone (bound : Option TankNo) : indexOrNone 16 (ixOrNone bound % 256) = some bound := by
  cases bound with
  | none => rfl
  | some t =>
    have ht : t.val % 256 = t.val := mod_byte (by omega)
    have hne : t.val ≠ noneCode := by unfold noneCode; omega
    simp [ixOrNone, orNone, indexOrNone, ht, hne]

theorem parseChannelSet_level (ch : ChannelNo) {lo hi span band : Nat} (bound : Option TankNo) (hlo : lo ≤ 4095)
    (hhi : hi ≤ 4095) (hspan : within 1 40000 span = true) (hband : band ≤ 1000) :
    parseChannelSet (u8 ch.val ++ (u8 1 ++ u16 lo ++ u16 hi ++ u16 span ++ u16 band ++ u8 (ixOrNone bound)))
      = some (ch, .level lo hi span band bound) := by
  have hch : ch.val % 256 = ch.val := mod_byte (by omega)
  have hle := within_iff.mp hspan
  simp [parseChannelSet, hch, indexOrNone_ixOrNone, mod_word (show lo ≤ 65535 by omega), mod_word (show hi ≤ 65535 by omega),
    mod_word (show span ≤ 65535 by omega), mod_word (show band ≤ 65535 by omega), whenever, within, hlo, hhi, hband, hle]

end Sys2Proof.Machine
end

section
/-! PROOFS. The plain tables: what the table-writing requests of plain fields write (R4 to R6, R8, R11, R14, R21, R150). -/

namespace Sys2Proof.Machine

/- One proof at a time: side by side they take a thread each. -/
set_option Elab.async false

/-- An entry of a vector after consecutive entries were written (R5, R6). -/
theorem getElem_overwrite {α : Type} {n : Nat} (v : Vector α n) (first : Nat) (l : List α) (i : Fin n) :
    (overwrite v first l)[i] = if first ≤ i.val then (l[i.val - first]?).getD v[i] else v[i] := by
  simp [overwrite]

end Sys2Proof.Machine

namespace Sys2Proof

/- One proof at a time: side by side they take a thread each. -/
set_option Elab.async false

open Machine

/-- Settles O18: each body reads as its operands, and the request writes what was read. -/
theorem tablesWritten : Obligations.TablesWritten := by
  intro s tag hs hphase
  refine ⟨fun ls stern head list hls hstern hhead hlist => ⟨_, rfl, ?ship⟩,
    fun c caution stop hcaution hstop => ⟨_, rfl, ?band⟩,
    fun c caution stop hlow hhigh _ _ => ⟨_, rfl, ?noBand⟩, fun pace hpace => ⟨_, rfl, ?pace⟩,
    fun prescale hprescale reload hreload => ⟨_, rfl, ?scan⟩,
    fun first l hne hspan hrange => ⟨_, overwrite s.cfg.segments first l, rfl, ?segments, getElem_overwrite _ first l⟩,
    fun first l hne hlow hspan hrange => ⟨_, overwrite s.cfg.stations (first - 1) l, rfl, ?stations, fun i => ?station⟩,
    fun k l hlow hhigh hrange => ⟨_, rfl, ?sounding⟩,
    fun h c hfirst hcount hlow hhigh hcoaming hmass => ⟨_, rfl, ?hold⟩⟩
  case ship => exact wrote_or_range hs hphase rfl (parseShipSet_bytes hls hstern hhead hlist) fun _ => rfl
  case band => exact wrote_or_range hs hphase rfl (parseBandSet_bytes c hcaution hstop) fun _ => rfl
  case noBand => exact range_of_tableWrite hs hphase rfl (parseBandSet_noClass hlow hhigh caution stop)
  case pace => exact wrote_or_range hs hphase rfl (parsePaceSet_bytes hpace) fun _ => rfl
  case scan => exact wrote_of_tableWrite hs hphase rfl (parseScanSet_bytes hprescale hreload) fun _ => rfl
  case segments =>
    exact wrote_of_tableWrite hs hphase (lengthCounted_bytes first (fun _ => rfl) (by omega))
      (parseSegmentSet_bytes hne hspan hrange) fun _ => rfl
  case stations =>
    exact wrote_of_tableWrite hs hphase (lengthCounted_bytes first (fun _ => rfl) (by omega))
      (parseStationSet_bytes hne hlow hspan hrange) fun _ => rfl
  case station =>
    rw [getElem_overwrite]
    have hplace : i.val - (first - 1) = i.val + 1 - first := by omega
    have hle : first - 1 ≤ i.val ↔ first ≤ i.val + 1 := by omega
    simp only [hplace, hle]
  case sounding =>
    exact wrote_of_tableWrite hs hphase (lengthCounted_bytes k.val (fun _ => rfl) (by omega))
      (parseSoundingSet_bytes k hlow hhigh hrange) fun _ => rfl
  case hold =>
    exact wrote_of_tableWrite hs hphase rfl (parseHoldSet_bytes h hfirst hcount hlow hhigh hcoaming hmass) fun _ => rfl

end Sys2Proof
end

section
/-! PROOFS. The validation of the tables (R17): which item fails at which index, and which failure is named. -/

namespace Sys2Proof.Machine

/- One proof at a time: side by side they take a thread each. -/
set_option Elab.async false

/-! ### The first failure of a list of checks -/

/-- A check fails at an index. -/
def FailsAt (x : List Nat × (Nat → Bool)) (i : Nat) : Prop := i ∈ x.1 ∧ x.2 i = false

theorem firstFailing_eq_none {x : List Nat × (Nat → Bool)} : firstFailing x = none ↔ ∀ i, ¬FailsAt x i := by
  simp [firstFailing, FailsAt]

/-- Where the indices ascend, the one found is the first that fails. -/
theorem firstFailing_eq_some {x : List Nat × (Nat → Bool)} (hsorted : x.1.Pairwise (· < ·)) {i : Nat} :
    firstFailing x = some i ↔ FailsAt x i ∧ ∀ j < i, ¬FailsAt x j := by
  obtain ⟨is, ok⟩ := x
  simp only [firstFailing, FailsAt] at *
  induction is with
  | nil => simp
  | cons a is ih =>
    obtain ⟨hfirst, hrest⟩ := List.pairwise_cons.mp hsorted
    cases ha : ok a with
    | false =>
      simp only [List.find?_cons, ha, Bool.not_false, Option.some.injEq, List.mem_cons]
      constructor
      · rintro rfl
        exact ⟨⟨.inl rfl, ha⟩, fun j hj => by rintro ⟨rfl | hmem, _⟩; exacts [absurd hj (Nat.lt_irrefl _), absurd (hfirst j hmem) (by omega)]⟩
      · rintro ⟨⟨rfl | hmem, _⟩, hleast⟩
        · rfl
        · exact absurd ⟨.inl rfl, ha⟩ (hleast a (hfirst i hmem))
    | true =>
      have hskip (j : Nat) : (j ∈ a :: is ∧ ok j = false) ↔ (j ∈ is ∧ ok j = false) := by
        refine ⟨fun ⟨hmem, hj⟩ => ⟨?_, hj⟩, fun ⟨hmem, hj⟩ => ⟨List.mem_cons_of_mem a hmem, hj⟩⟩
        rcases List.mem_cons.mp hmem with rfl | hmem
        · exact absurd (ha.symm.trans hj) (by decide)
        · exact hmem
      simp only [List.find?_cons, ha, Bool.not_true, hskip]
      exact ih hrest

/-- The check at a place of a list fails at an index. -/
def ItemFailsAt (l : List (List Nat × (Nat → Bool))) (k i : Nat) : Prop := ∃ x, l[k]? = some x ∧ FailsAt x i

@[simp] theorem itemFailsAt_nil (k i : Nat) : ¬ItemFailsAt [] k i := by simp [ItemFailsAt]

@[simp] theorem itemFailsAt_cons_zero (x : List Nat × (Nat → Bool)) (l : List (List Nat × (Nat → Bool))) (i : Nat) :
    ItemFailsAt (x :: l) 0 i ↔ FailsAt x i := by simp [ItemFailsAt]

@[simp] theorem itemFailsAt_cons_succ (x : List Nat × (Nat → Bool)) (l : List (List Nat × (Nat → Bool))) (k i : Nat) :
    ItemFailsAt (x :: l) (k + 1) i ↔ ItemFailsAt l k i := by simp [ItemFailsAt]

theorem itemFailsAt_of_getElem? {l : List (List Nat × (Nat → Bool))} {k i : Nat} {x : List Nat × (Nat → Bool)}
    (hx : l[k]? = some x) : ItemFailsAt l k i ↔ FailsAt x i := by simp [ItemFailsAt, hx]

theorem firstFailure_eq_none {order : Nat} {l : List (List Nat × (Nat → Bool))} :
    firstFailure order l = none ↔ ∀ k i, ¬ItemFailsAt l k i := by
  induction l generalizing order with
  | nil => simp [firstFailure]
  | cons x l ih =>
    rw [firstFailure]
    cases hx : firstFailing x with
    | some a =>
      have hmeet : ¬∀ i, ¬FailsAt x i := fun h => by simp [firstFailing_eq_none.mpr h] at hx
      exact iff_of_false (by simp) fun h => hmeet fun i => by simpa using h 0 i
    | none =>
      have hmiss := firstFailing_eq_none.mp hx
      refine ih.trans ⟨fun h k i => ?_, fun h k i => by simpa using h (k + 1) i⟩
      cases k with
      | zero => simpa using hmiss i
      | succ k => simpa using h k i

/-- The failure named is the first failing check of the list, counted from `order`, at its first failing index. -/
theorem firstFailure_eq_some {order item i : Nat} {l : List (List Nat × (Nat → Bool))}
    (hsorted : ∀ x ∈ l, x.1.Pairwise (· < ·)) :
    firstFailure order l = some (item, i) ↔
      ∃ k, item = order + k ∧ ItemFailsAt l k i ∧ (∀ j < i, ¬ItemFailsAt l k j) ∧ ∀ k' < k, ∀ j, ¬ItemFailsAt l k' j := by
  induction l generalizing order with
  | nil => simp [firstFailure]
  | cons x l ih =>
    obtain ⟨hx, hl⟩ := List.forall_mem_cons.mp hsorted
    rw [firstFailure]
    cases hfirst : firstFailing x with
    | some a =>
      obtain ⟨hfails, hleast⟩ := (firstFailing_eq_some hx).mp hfirst
      constructor
      · rintro ⟨rfl, rfl⟩
        exact ⟨0, rfl, by simpa using hfails, by simpa using hleast, by simp⟩
      · rintro ⟨k, rfl, hk, hkleast, hearlier⟩
        cases k with
        | zero =>
          have := (firstFailing_eq_some hx).mpr ⟨by simpa using hk, by simpa using hkleast⟩
          simp [hfirst] at this
          simp [this]
        | succ k => exact absurd ((itemFailsAt_cons_zero ..).mpr hfails) (hearlier 0 (Nat.succ_pos k) a)
    | none =>
      have hmiss := firstFailing_eq_none.mp hfirst
      refine (ih hl).trans ⟨?_, ?_⟩
      · rintro ⟨k, rfl, hk, hkleast, hearlier⟩
        refine ⟨k + 1, by omega, by simpa using hk, by simpa using hkleast, fun k' hk' j => ?_⟩
        cases k' with
        | zero => simpa using hmiss j
        | succ k' => simpa using hearlier k' (by omega) j
      · rintro ⟨k, rfl, hk, hkleast, hearlier⟩
        cases k with
        | zero => exact absurd ((itemFailsAt_cons_zero ..).mp hk) (hmiss i)
        | succ k =>
          exact ⟨k, by omega, by simpa using hk, by simpa using hkleast,
            fun k' hk' j => by simpa using hearlier (k' + 1) (by omega) j⟩

/-! ### The kinds of check -/

theorem failsAt_single {ok : Bool} {i : Nat} : FailsAt ([0], fun _ => ok) i ↔ i = 0 ∧ ok = false := by simp [FailsAt]

/-- A check of every entry of a vector fails at the entries that do not pass. -/
theorem failsAt_vector {α : Type} {n : Nat} {v : Vector α n} {ok : α → Bool} {i : Nat} :
    FailsAt (List.range n, fun i => (v[i]?).all ok) i ↔ ∃ j : Fin n, i = j.val ∧ ok v[j] = false := by
  simp only [FailsAt, List.mem_range]
  constructor
  · rintro ⟨hi, hfail⟩
    exact ⟨⟨i, hi⟩, rfl, by simpa [hi] using hfail⟩
  · rintro ⟨j, rfl, hfail⟩
    exact ⟨j.isLt, by simpa using hfail⟩

/-- So does one that counts the entries from 1. -/
theorem failsAt_vector_fromOne {α : Type} {n : Nat} {v : Vector α n} {ok : α → Bool} {i : Nat} :
    FailsAt ((List.range n).map (· + 1), fun i => (v[i - 1]?).all ok) i ↔ ∃ j : Fin n, i = j.val + 1 ∧ ok v[j] = false := by
  simp only [FailsAt, List.mem_map, List.mem_range]
  constructor
  · rintro ⟨⟨j, hj, rfl⟩, hfail⟩
    exact ⟨⟨j, hj⟩, rfl, by simpa [hj] using hfail⟩
  · rintro ⟨j, rfl, hfail⟩
    exact ⟨⟨j, j.isLt, rfl⟩, by simpa using hfail⟩

theorem failsAt_index {n : Nat} {ok : Fin n → Bool} {i : Nat} :
    FailsAt (List.range n, fun i => (index i n).all ok) i ↔ ∃ j : Fin n, i = j.val ∧ ok j = false := by
  simp only [FailsAt, List.mem_range]
  constructor
  · rintro ⟨hi, hfail⟩
    exact ⟨⟨i, hi⟩, rfl, by simpa [index, hi] using hfail⟩
  · rintro ⟨j, rfl, hfail⟩
    exact ⟨j.isLt, by simpa using hfail⟩

/-- The indices of every item ascend. -/
theorem checks_sorted (c : ConfigTables) : ∀ x ∈ c.checks, x.1.Pairwise (· < ·) := by
  have hrange (n : Nat) : (List.range n).Pairwise (· < ·) := List.pairwise_lt_range
  have hfromOne : ((List.range 19).map (· + 1)).Pairwise (· < ·) := by decide
  simp only [ConfigTables.checks, List.forall_mem_cons]
  simp [hrange, hfromOne]

/-! ### What it is for each thing checked to fail -/

theorem spanOk_eq_false {first count : Nat} : spanOk first count = false ↔ count = 0 ∨ 20 < first + count := by
  simp only [spanOk, Bool.and_eq_false_iff, bne_eq_false_iff_eq, decide_eq_false_iff_not, Nat.not_le]

theorem tankConfig_ok_eq_false {c : TankConfig} :
    c.ok = false ↔ (c.count = 0 ∨ 20 < c.first + c.count) ∨ (c.side = .port ∧ 0 < c.arm) ∨ (c.side = .starboard ∧ c.arm < 0) := by
  simp [TankConfig.ok, ← spanOk_eq_false, Bool.and_eq_false_iff, or_assoc, -Bool.and_eq_false_imp]

theorem risingPoints_iff {l : List Point} :
    risingPoints l = true ↔ l.IsChain fun a b => a.level < b.level ∧ a.volume ≤ b.volume := by
  induction l with
  | nil => simp [risingPoints]
  | cons a l ih =>
    cases l with
    | nil => simp [risingPoints]
    | cons b l => simp [risingPoints, ih]

theorem soundingOk_eq_false {l : List Point} :
    soundingOk l = false ↔ l.length < 2 ∨ (l.head?.map (·.level)) ≠ some 0
      ∨ ¬l.IsChain fun a b => a.level < b.level ∧ a.volume ≤ b.volume := by
  rw [← risingPoints_iff]
  cases l with
  | nil => simp [soundingOk]
  | cons a l => simp [soundingOk, Bool.and_eq_false_iff, or_assoc, -Bool.and_eq_false_imp]

theorem isSwitch_iff {c : ChannelConfig} : c.isSwitch = true ↔ ∃ d n, c = .switch d n := by cases c <;> simp [ChannelConfig.isSwitch]

theorem isPulse_iff {c : ChannelConfig} : c.isPulse = true ↔ c = .pulse := by cases c <;> simp [ChannelConfig.isPulse]

theorem pointsOk_eq_false {c : ChannelConfig} :
    c.pointsOk = false ↔ ∃ lo hi span band bound, c = .level lo hi span band bound ∧ hi ≤ lo := by
  cases c <;> simp [ChannelConfig.pointsOk]

/-- Whether a named channel is a SWITCH channel. -/
theorem any_isSwitch_iff {c : ConfigTables} {named : Option ChannelNo} :
    (named.any fun ch => c.channels[ch].isSwitch) = true ↔ ∃ ch d n, named = some ch ∧ c.channels[ch] = .switch d n := by
  simp only [Option.any_eq_true, isSwitch_iff]
  exact ⟨fun ⟨ch, h, d, n, e⟩ => ⟨ch, d, n, h, e⟩, fun ⟨ch, d, n, h, e⟩ => ⟨ch, h, d, n, e⟩⟩

/-- Whether a named channel is a PULSE channel. -/
theorem any_isPulse_iff {c : ConfigTables} {named : Option ChannelNo} :
    (named.any fun ch => c.channels[ch].isPulse) = true ↔ ∃ ch, named = some ch ∧ c.channels[ch] = .pulse := by
  simp only [Option.any_eq_true, isPulse_iff]

end Sys2Proof.Machine

namespace Sys2Proof

/- One proof at a time: side by side they take a thread each. -/
set_option Elab.async false

open Machine

/-- Settles O22: the walk of validation names the first failing item at its first failing index, and each item fails where R17 says. -/
theorem validationPasses : Obligations.ValidationPasses := by
  intro c spanFails fails
  have hitem (n index : Nat) {x} (hx : c.checks[n]? = some x) :
      (∃ k, n + 1 = 1 + k ∧ ItemFailsAt c.checks k index) ↔ FailsAt x index := by
    rw [← itemFailsAt_of_getElem? hx]
    exact ⟨fun ⟨k, hk, h⟩ => (show n = k by omega) ▸ h, fun h => ⟨n, by omega, h⟩⟩
  have hfails (item index : Nat) : fails item index ↔ ∃ k, item = 1 + k ∧ ItemFailsAt c.checks k index := by
    match item with
    | 0 => exact iff_of_false id fun ⟨k, hk, _⟩ => by omega
    | 1 => exact Iff.symm <| (hitem 0 index rfl).trans <| failsAt_single.trans <| and_congr_right' <| by simp
    | 2 => exact Iff.symm <| (hitem 1 index rfl).trans <| failsAt_single.trans <| and_congr_right' <| by simp
    | 3 => exact Iff.symm <| (hitem 2 index rfl).trans <| failsAt_single.trans <| and_congr_right' <| by simp
    | 4 =>
      refine Iff.symm <| (hitem 3 index rfl).trans <| failsAt_vector_fromOne.trans <| exists_congr fun j => and_congr_right' ?_
      simp [Bool.and_eq_false_iff, -Bool.and_eq_false_imp, or_assoc]
    | 5 =>
      exact Iff.symm <| (hitem 4 index rfl).trans <| failsAt_vector.trans <| exists_congr fun j => and_congr_right' <|
        tankConfig_ok_eq_false
    | 6 =>
      exact Iff.symm <| (hitem 5 index rfl).trans <| failsAt_vector.trans <| exists_congr fun j => and_congr_right' <|
        soundingOk_eq_false
    | 7 =>
      exact Iff.symm <| (hitem 6 index rfl).trans <| failsAt_vector.trans <| exists_congr fun j => and_congr_right' <|
        spanOk_eq_false
    | 8 =>
      exact Iff.symm <| (hitem 7 index rfl).trans <| failsAt_vector.trans <| exists_congr fun j => and_congr_right' <| by simp
    | 9 =>
      exact Iff.symm <| (hitem 8 index rfl).trans <| failsAt_vector.trans <| exists_congr fun j => and_congr_right' <|
        pointsOk_eq_false
    | 10 =>
      refine Iff.symm <| (hitem 9 index rfl).trans <| failsAt_index.trans <| exists_congr fun j => and_congr_right' ?_
      cases c.tanks[j].metered <;> simp
    | 11 =>
      refine Iff.symm <| (hitem 10 index rfl).trans <| failsAt_vector.trans <| exists_congr fun j => and_congr_right' ?_
      rw [← any_isSwitch_iff, ← any_isPulse_iff, ← Bool.and_eq_true, Bool.not_eq_true]
    | 12 =>
      refine Iff.symm <| (hitem 11 index rfl).trans <| failsAt_vector.trans <| exists_congr fun j => and_congr_right' ?_
      rw [← any_isSwitch_iff, Bool.not_eq_true]
    | 13 =>
      exact Iff.symm <| (hitem 12 index rfl).trans <| failsAt_index.trans <| exists_congr fun j => and_congr_right' <| by simp
    | n + 14 =>
      refine iff_of_false id ?_
      rintro ⟨k, hk, x, hx, _⟩
      have hlt := (List.getElem?_eq_some_iff.mp hx).1
      have hlen : c.checks.length = 13 := rfl
      omega
  simp only [hfails]
  refine ⟨firstFailure_eq_none.trans ⟨?_, fun h k i hk => h (1 + k) i ⟨k, rfl, hk⟩⟩,
    fun item index => (firstFailure_eq_some (checks_sorted c)).trans ?_⟩
  · rintro h _ i ⟨k, rfl, hk⟩
    exact h k i hk
  · constructor
    · rintro ⟨k, rfl, hk, hleast, hearlier⟩
      refine ⟨⟨k, rfl, hk⟩, fun j hj => ?_, fun i hi j => ?_⟩
      · rintro ⟨k', hk', hfail⟩
        exact hleast j hj ((show k = k' by omega) ▸ hfail)
      · rintro ⟨k', hk', hfail⟩
        exact hearlier k' (by omega) j hfail
    · rintro ⟨⟨k, rfl, hk⟩, hleast, hearlier⟩
      exact ⟨k, rfl, hk, fun j hj hfail => hleast j hj ⟨k, rfl, hfail⟩,
        fun k' hk' j hfail => hearlier (1 + k') (by omega) j ⟨k', rfl, hfail⟩⟩

end Sys2Proof
end

section
/-! PROOFS. The state at reset (R2, R216). -/

namespace Sys2Proof

/- One proof at a time: side by side they take a thread each. -/
set_option Elab.async false

open Machine

/-- Settles O3: each part of the power-on state is written out in its definition. -/
theorem resetState : Obligations.ResetState := by
  refine ⟨rfl, rfl, rfl, rfl, rfl, rfl, rfl, rfl, rfl, rfl, rfl, fun t => ?tanks, fun k => ?steps, fun l _ => ?loaders, rfl,
    fun p => ?pumps, fun v => ?valves, rfl, rfl, rfl, fun r => ?replies, rfl⟩
  case tanks => exact Vector.getElem_replicate ..
  case steps => exact Vector.getElem_replicate ..
  case loaders => exact Vector.getElem_replicate ..
  case pumps =>
    have hpump : State.reset.pva.pumps[p] = freshPump 0 emptyTables.pumps[p] := Vector.getElem_ofFn ..
    rw [hpump]
    exact ⟨rfl, rfl⟩
  case valves =>
    have hvalve : State.reset.pva.valves[v] = freshValve 0 emptyTables.valves[v] := Vector.getElem_ofFn ..
    rw [hvalve]
    exact ⟨rfl, rfl⟩
  case replies => exact Vector.getElem_replicate ..

end Sys2Proof
end

section
/-! PROOFS. How requests are turned away (R3, R191, R192): no judgement frees a reply slot, and each checks the length first. -/

namespace Sys2Proof.Machine

/- One proof at a time: side by side they take a thread each. -/
set_option Elab.async false

open State

/-! ### The commands' own work, on the link and on what the plant's switches showed -/

theorem openGate_steady (k : SlotNo) (s : State) : Steady s (s.openGate k) := by
  unfold openGate
  split
  · exact (enterState_steady ..).trans ((offer_steady _).trans (grants_steady _))
  · exact .refl s

theorem takeEdge_steady (g : Gate) (s : State) : Steady s (s.takeEdge g) := forSteps_steady _ _ openGate_steady s

theorem takeBounds_steady (x : TankNo × Bounds) (s : State) : Steady s (takeBounds x s) :=
  (Steady.of_touches (touch_cfg s _)).trans ((boundsPassed_steady x.1 _).trans
    ((Steady.of_touches (requestRecompute_touch _)).trans (grants_steady _)))

theorem takeLock_steady (t : TankNo) (s : State) : Steady s (takeLock t s) :=
  .ite ((lockTank_steady t .operator s).trans (grants_steady _)) (.refl s)

theorem writeTank_steady (x : TankNo × TankConfig) (s : State) : Steady s (writeTank x s) :=
  (Steady.of_touches (touch_cfg s _)).trans (rebindTanks_steady _)

theorem writeChannel_steady (x : ChannelNo × ChannelConfig) (s : State) : Steady s (writeChannel x s) :=
  (Steady.of_touches ((touch_cfg s _).seq (setChannel_touch x.1 _ _))).trans (rebindTanks_steady _)

theorem paceEvent_steady (b : Bool) (s : State) : Steady s (s.paceEvent b) :=
  (Steady.ite (.refl s) (.of_touches (setFlag_touch .paceLag s))).trans (permitEvent_steady b _)

theorem handPace_steady (b : Bool) (n : Nat) (s : State) : Steady s (s.handPace b n) := by
  unfold handPace
  exact (Steady.of_touches (choose_touch Config.limitsFirst s)).trans
    (.ite ((paceReport_steady (!b) n _).trans (paceEvent_steady b _)) ((paceEvent_steady b _).trans (paceReport_steady (!b) n _)))

theorem startCheck_steady (s : State) : Steady s s.startCheck :=
  (Steady.of_touches (setCounter_touch _ s)).trans
    ((counterSettled_steady _ _).trans (.of_touches (startAnswerTimer_touch _)))

theorem retime_steady (s : State) : Steady s s.retime := by
  unfold retime
  split
  · exact .refl s
  · exact .of_touches (startAnswerTimer_touch s)
  · exact (withdraw_steady .challengeDue s).trans (startChallengeTimer_steady _)

theorem enterPhase_steady (d : Phase) (s : State) : Steady s (s.enterPhase d) :=
  (Steady.of_touches (touch_ccl s _)).trans ((evalPermit_steady .phase _).trans (log_steady ..))

theorem restartPlant_steady (s : State) : Steady s s.restartPlant :=
  (Steady.foldl (fun s p => haltPump_steady p s) _ s).trans (closeValves_steady ..)

theorem restartSteps_steady (s : State) : Steady s s.restartSteps := by
  refine (forSteps_steady _ _ (fun k s => ?_) s).trans (.of_touches (removeChecking_touch ..))
  split
  · exact removeStep_steady ..
  · exact .refl s

/-! ### No judgement frees a reply slot -/

/-- A reply slot that is not FREE is not made FREE (R193: only the end of its frame frees it). -/
structure KeepsTaken (s t : State) : Prop where
  kept : ∀ q : ReplyNo, s.lnk.slots[q] ≠ .free → t.lnk.slots[q] ≠ .free

namespace KeepsTaken

variable {s t u : State}

theorem refl (s : State) : KeepsTaken s s := ⟨fun _ h => h⟩

theorem trans (h : KeepsTaken s t) (g : KeepsTaken t u) : KeepsTaken s u :=
  ⟨fun q hq => g.kept q (h.kept q hq)⟩

theorem of_slots (h : t.lnk.slots = s.lnk.slots) : KeepsTaken s t := ⟨fun q hq => by rwa [h]⟩

theorem of_steady (h : Steady s t) : KeepsTaken s t := of_slots h.slots

theorem of_touches {l : List Part} (h : Touches l s t) (hl : Part.lnk ∉ l := by decide) : KeepsTaken s t :=
  of_slots (congrArg Lnk.slots (h.lnk hl))

theorem foldl {α : Type} {f : State → α → State} (h : ∀ s a, KeepsTaken s (f s a)) (as : List α) (s : State) :
    KeepsTaken s (as.foldl f s) := by
  induction as generalizing s with
  | nil => exact refl s
  | cons a as ih => exact (h s a).trans (ih (f s a))

end KeepsTaken

theorem reply_keepsTaken (r : ReplyNo) (st : Status) (b : List Byte) (s : State) : KeepsTaken s (s.reply r st b) := by
  unfold reply
  split
  · refine ⟨fun q hq => ?_⟩
    simp only [Fin.getElem_fin, Vector.getElem_set]
    split
    · exact ReplySlot.noConfusion
    · exact hq
  · exact .refl s

theorem abortAll_keepsTaken (why : Reason) (s : State) : KeepsTaken s (s.abortAll why) := by
  refine .foldl (fun s q => ?_) _ s
  unfold abort
  split <;> exact reply_keepsTaken ..

theorem abandonEngine_keepsTaken (s : State) : KeepsTaken s s.abandonEngine :=
  (abortAll_keepsTaken .aborted s).trans (.of_touches (touch_cen _ _))

theorem restart_keepsTaken (s : State) : KeepsTaken s s.restart := by
  unfold restart
  extract_lets s₁ s₂ s₃
  have h₁ : KeepsTaken s s₁ := .of_steady ((restartPlant_steady s).trans (restartSteps_steady _))
  have h₂ : KeepsTaken s₁ s₂ := .of_touches (touch_pva s₁ _)
  have hengine : KeepsTaken s₂ s₂.restartEngine :=
    (abortAll_keepsTaken .restarted s₂).trans (.of_touches ((touch_cen _ _).trans (requestRecompute_touch _)))
  have hpermit (u : State) : KeepsTaken u u.restartPermit :=
    .of_steady ((withdraw_steady ..).trans ((Steady.of_touches (touch_pmu _ _)).trans (evalPermit_steady ..)))
  have hrecords (u : State) : KeepsTaken u u.restartRecords := .of_touches ((touch_rcu u _).trans (log_touch ..))
  have h₃ : KeepsTaken s₂ s₃ := hengine.trans ((hpermit _).trans (hrecords _))
  exact h₁.trans (h₂.trans (h₃.trans (.of_touches (touch_ccl s₃ _))))

theorem writePump_keepsTaken (x : PumpNo × PumpConfig) (s : State) : KeepsTaken s (writePump x s) := by
  have hcfg := KeepsTaken.of_touches (touch_cfg s { s.cfg with pumps := s.cfg.pumps.set x.1 x.2 })
  unfold writePump
  extract_lets was s₁
  split
  · exact hcfg
  · split
    · exact hcfg
    · refine hcfg.trans ?_
      unfold bindPump
      split
      · exact .refl _
      · exact (KeepsTaken.of_touches (setPump_touch ..)).trans (.of_steady (runFeedback_steady ..))
      · exact .of_touches (setPump_touch ..)

theorem writeValve_keepsTaken (x : ValveNo × ValveConfig) (s : State) : KeepsTaken s (writeValve x s) := by
  have hcfg := KeepsTaken.of_touches (touch_cfg s { s.cfg with valves := s.cfg.valves.set x.1 x.2 })
  unfold writeValve
  extract_lets was s₁
  split
  · exact hcfg
  · split
    · exact hcfg
    · refine hcfg.trans ?_
      unfold bindValve
      split
      · exact .refl _
      · exact (KeepsTaken.of_touches (setValve_touch ..)).trans (.of_steady (valveFeedback_steady ..))
      · exact .of_touches (setValve_touch ..)

theorem judgeUnlock_keepsTaken (t : TankNo) (s : State) : KeepsTaken s (judgeUnlock t s).1 := by
  have h : KeepsTaken s (s.unlockTank t) := .of_touches (unlockTank_touch t s)
  unfold judgeUnlock
  split
  · exact .refl s
  · exact h
  · split
    · exact .refl s
    · exact h

theorem judgeConditionGet_keepsTaken (part : ConditionPart) (s : State) : KeepsTaken s (judgeConditionGet part s).1 := by
  unfold judgeConditionGet
  split <;> exact .refl s

theorem judgeStopAck_keepsTaken (s : State) : KeepsTaken s (judgeStopAck s).1 := by
  unfold judgeStopAck
  split
  · exact .refl s
  · split
    · exact .refl s
    · exact .of_steady (stopChange_steady ..)

theorem judgeStepCancel_keepsTaken (n : Nat) (s : State) : KeepsTaken s (judgeStepCancel n s).1 := by
  unfold judgeStepCancel
  split
  · exact .refl s
  · split
    · exact .refl s
    · split
      · exact .of_touches (setStep_touch ..)
      · exact .refl s
      · exact .of_steady ((endStep_steady ..).trans (grants_steady _))

theorem judgeStepPin_keepsTaken (n : Nat) (s : State) : KeepsTaken s (judgeStepPin n s).1 := by
  have h (pin : Option Nat) : KeepsTaken s (State.grants { s with pva := { s.pva with pin := pin } }) :=
    (KeepsTaken.of_touches (touch_pva s _)).trans (.of_steady (grants_steady _))
  unfold judgeStepPin
  split
  · exact h none
  · split
    · exact .refl s
    · split
      · exact h (some n)
      · exact .refl s

theorem clearFault_keepsTaken {item : ClearItem} {s t : State} (h : s.clearFault item = some t) : KeepsTaken s t := by
  cases item <;> simp only [clearFault] at h <;> split at h
  all_goals cases h
  · exact .of_touches ((setPump_touch ..).seq (faultWithdraw_touch ..))
  · exact .of_touches ((setPump_touch ..).seq (faultWithdraw_touch ..))
  · exact .of_touches ((setValve_touch ..).seq (faultWithdraw_touch ..))
  · exact .of_touches (touch_pva s _)

theorem judgeFaultClear_keepsTaken (item : ClearItem) (s : State) : KeepsTaken s (judgeFaultClear item s).1 := by
  unfold judgeFaultClear
  split
  · exact .refl s
  · exact (clearFault_keepsTaken ‹_›).trans (.of_steady (grants_steady _))

theorem judgePermitSet_keepsTaken (c : PermitConfig) (s : State) : KeepsTaken s (judgePermitSet c s).1 := by
  have hcfg : KeepsTaken s (s.setPermitConfig c) := .of_touches (touch_cfg s _)
  unfold judgePermitSet
  extract_lets held
  split
  · exact hcfg.trans (.of_steady ((reportConditions_steady _).trans (stopTaken_steady ..)))
  · split
    · exact .refl s
    · split
      · exact .refl s
      · exact hcfg.trans (.of_steady ((retime_steady _).trans (permitEvent_steady ..)))

theorem challengeEvent_steady (j : Judgement) (e : Nat) (s : State) : Steady s (s.challengeEvent j e) := by
  cases j with
  | early => exact attendanceEvent_steady ..
  | late => exact attendanceEvent_steady ..
  | good => exact permitEvent_steady ..
  | none => exact .refl s
  | wrong => exact .refl s

theorem answerEvent_steady (j : Judgement) (e : Nat) (s : State) : Steady s (s.answerEvent j e) := by
  cases j with
  | good => exact (Steady.of_touches (touch_pmu s _)).trans (permitEvent_steady ..)
  | early => exact attendanceEvent_steady ..
  | late => exact attendanceEvent_steady ..
  | wrong => exact attendanceEvent_steady ..
  | none => exact .refl s

theorem takeChallenge_keepsTaken (s : State) : KeepsTaken s (takeChallenge s).1 := by
  unfold takeChallenge
  split
  · exact .of_steady (startCheck_steady s)
  · exact .of_steady ((attendanceEvent_steady ..).trans (.of_touches (startAnswerTimer_touch _)))
  · extract_lets e j
    exact .of_steady ((challengeEvent_steady j e s).trans ((withdraw_steady ..).trans (.of_touches (startAnswerTimer_touch _))))

theorem judgeAnswerRequest_keepsTaken (n : Nat) (s : State) : KeepsTaken s (judgeAnswerRequest n s).1 := by
  unfold judgeAnswerRequest
  split
  · exact .refl s
  · exact .of_steady (attendanceEvent_steady ..)
  · extract_lets e j
    exact .of_steady ((answerEvent_steady j e s).trans (startChallengeTimer_steady _))

theorem judgeReportCompose_keepsTaken (interim : Bool) (s : State) : KeepsTaken s (judgeReportCompose interim s).1 := by
  unfold judgeReportCompose
  split
  · exact .refl s
  · split
    · exact .refl s
    · split
      · exact .refl s
      · exact .of_touches (touch_rcu s _)

theorem moveReady_steady (s : State) : Steady s s.moveReady :=
  (updateTanks_steady s).trans ((Steady.of_touches (touch_ccl _ _)).trans ((enterPhase_steady ..).trans
    (.of_touches (requestRecompute_touch _))))

theorem moveLoading_steady (s : State) : Steady s s.moveLoading :=
  (Steady.of_touches ((touch_ptr s _).seq (touch_rcu _ _))).trans ((enterPhase_steady ..).trans
    (.of_touches (requestRecompute_touch _)))

theorem moveFinal_steady (s : State) : Steady s s.moveFinal :=
  (enterPhase_steady ..).trans (.of_touches (requestRecompute_touch _))

theorem moveBack_keepsTaken (s : State) : KeepsTaken s s.moveBack :=
  (abandonEngine_keepsTaken s).trans ((KeepsTaken.of_touches (removeChecking_touch ..)).trans (.of_steady (enterPhase_steady ..)))

theorem clearPace_touch (s : State) : Touches [.lsl] s s.clearPace := (touch_lsl s _).trans (paceCause_touch _)

theorem moveNewCall_keepsTaken (s : State) : KeepsTaken s s.moveNewCall := by
  have h : KeepsTaken s s.abandonEngine.clearPace := (abandonEngine_keepsTaken s).trans (.of_touches (clearPace_touch _))
  refine KeepsTaken.trans ?_ (.of_steady (enterPhase_steady .setup _))
  exact h.trans (.of_slots rfl)

theorem moved_fst (d : Phase) (s t : State) : (moved d s t).1 = t := rfl

theorem judgePhaseSet_keepsTaken (dest : Phase) (s : State) : KeepsTaken s (judgePhaseSet dest s).1 := by
  unfold judgePhaseSet
  split
  · split
    · exact .refl s
    · rw [moved_fst]
      exact .of_steady (moveReady_steady s)
  · split
    · exact moveBack_keepsTaken s
    · exact .refl s
  · exact .of_steady (moveLoading_steady s)
  · split
    · exact .of_steady (moveFinal_steady s)
    · exact .refl s
  · split
    · exact moveNewCall_keepsTaken s
    · exact .refl s
  · exact .refl s

theorem judgeStoreWrite_keepsTaken (item : StoreItem) (s : State) : KeepsTaken s (judgeStoreWrite item s).1 := by
  unfold judgeStoreWrite
  split
  · exact .refl s
  · split
    · exact .of_touches (touch_sst s _)
    · exact .refl s
    · exact .of_touches (touch_sst s _)

theorem judgePlanLoad_keepsTaken (body : List Byte) (s : State) : KeepsTaken s (judgePlanLoad body s).1 := by
  unfold judgePlanLoad
  split
  · exact .refl s
  · split
    · exact .refl s
    · split
      · exact .refl s
      · exact .of_touches (touch_ptr s _)

theorem beginPour_steady (l : Loader) (pour : Nat) (hold : HoldNo) (s : State) : Steady s (s.beginPour l pour hold) := by
  unfold beginPour
  extract_lets permit slot s₁ s₂ s₃ s₄ s₅
  have h₁ : Steady s s₁ := .of_touches (touch_ptr s _)
  have h₂ : Steady s₁ s₂ := by
    unfold s₂
    split
    · exact .refl s₁
    · exact .of_touches (touch_ptr s₁ _)
  have h₄ : Steady s₂ s₄ := (log_steady ..).trans (Steady.ite (.refl s₃) (permitEvent_steady ..))
  have h₅ : Steady s₄ s₅ := .ite (.refl s₄) (takeEdge_steady ..)
  exact h₁.trans (h₂.trans (h₄.trans (h₅.trans ((Steady.of_touches (requestRecompute_touch _)).trans (grants_steady _)))))

theorem judgePourBegin_keepsTaken (x : Loader × Nat × Option HoldNo) (s : State) : KeepsTaken s (judgePourBegin x s).1 := by
  obtain ⟨l, pour, named⟩ := x
  simp only [judgePourBegin]
  split
  · exact .refl s
  · split
    · exact .refl s
    · split
      · exact .refl s
      · exact .of_steady (beginPour_steady ..)

theorem judgePourProgress_keepsTaken (a : Loader × Nat) (s : State) : KeepsTaken s (judgePourProgress a s).1 := by
  unfold judgePourProgress
  split
  · exact .refl s
  · have hcredit (x : Pour) : KeepsTaken s (s.creditPour a.1 x a.2) := by
      unfold creditPour
      split
      · exact .refl s
      · exact .of_touches (touch_ptr s _)
    exact (hcredit _).trans (.of_touches (requestRecompute_touch _))

theorem endPour_steady (l : Loader) (x : Pour) (final : Nat) (s : State) : Steady s (s.endPour l x final).1 := by
  unfold endPour
  extract_lets checked s₁ mass s₂ code s₃ s₄ s₅
  have h₁ : Steady s s₁ := .of_touches (touch_ptr s _)
  have h₂ : Steady s₁ s₂ := by
    simp only [s₂]
    generalize checked = result
    rcases result with _ | ⟨e, r⟩
    · exact .refl s₁
    · exact (Steady.of_touches (touch_ptr s₁ _)).trans (handPace_steady ..)
  have h₄ : Steady s₂ s₄ := (log_steady ..).trans (Steady.ite (.refl s₃) (takeEdge_steady ..))
  have h₅ : Steady s₄ s₅ := notify_steady ..
  exact h₁.trans (h₂.trans (h₄.trans (h₅.trans ((Steady.of_touches (requestRecompute_touch _)).trans (grants_steady _)))))

theorem judgePourEnd_keepsTaken (a : Loader × Nat) (s : State) : KeepsTaken s (judgePourEnd a s).1 := by
  unfold judgePourEnd
  split
  · exact .refl s
  · exact .of_steady (endPour_steady ..)

theorem judgePredict_keepsTaken (tag : Tag) (body : List Byte) (r : ReplyNo) (s : State) :
    KeepsTaken s (judgePredict tag body r s).1 := by
  unfold judgePredict
  split
  · exact .refl s
  · split
    · exact .refl s
    · split
      · exact .refl s
      · split
        · exact .of_touches (queuePrediction_touch _ s)
        · exact .refl s

theorem judgeStepAdd_keepsTaken (body : List Byte) (r : ReplyNo) (s : State) : KeepsTaken s (judgeStepAdd body r s).1 := by
  unfold judgeStepAdd
  split
  · exact .refl s
  · split
    · exact .refl s
    · split
      · exact .refl s
      · split
        · exact .refl s
        · exact .of_touches (reserveStep_touch ..)
        · exact .refl s

theorem judgeCallSet_keepsTaken (body : List Byte) (s : State) : KeepsTaken s (judgeCallSet body s).1 := by
  unfold judgeCallSet
  split
  · exact .refl s
  · split
    · exact .refl s
    · split
      · exact .refl s
      · exact .of_touches (touch_ccl s _)

theorem selectNotices_keepsTaken (mask : BitVec 16) (s : State) : KeepsTaken s (selectNotices mask s) :=
  .of_slots (by simp only [selectNotices])

/-! ### Every request is served by a judgement -/

/-- A request is served by a judgement that frees no reply slot, checks the length first and, where it writes tables, the phase next. -/
def ServedBy (c : Instr) (kind : Byte) (tag : Tag) (judge : ReplyNo → State → Judged) : Prop :=
  (∀ s, exec c s = .next (s.serve kind tag judge))
    ∧ (∀ r s, KeepsTaken s (judge r s).1)
    ∧ (requestLengthOk c = false → ∀ r s, judge r s = refuse .format s)
    ∧ (requestLengthOk c = true → writesTables c = true → ∀ r s, s.ccl.phase ≠ .setup → judge r s = refuse .phase s)

theorem tableWrite_keepsTaken {α : Type} {lengthOk : Bool} {operands : Option α} {write : α → State → State}
    (hkeeps : ∀ x s, KeepsTaken s (write x s)) (s : State) : KeepsTaken s (tableWrite lengthOk operands write s).1 := by
  unfold tableWrite
  split
  · exact .refl s
  · split
    · exact .refl s
    · split
      · exact .refl s
      · exact hkeeps _ s

theorem anyPhase_keepsTaken {α : Type} {lengthOk : Bool} {operands : Option α} {act : α → State → Judged}
    (hkeeps : ∀ x s, KeepsTaken s (act x s).1) (s : State) : KeepsTaken s (anyPhase lengthOk operands act s).1 := by
  unfold anyPhase
  split
  · exact .refl s
  · split
    · exact .refl s
    · exact hkeeps _ s

theorem pourRequest_keepsTaken {α : Type} {lengthOk : Bool} {operands : Option α} {act : α → State → Judged}
    (hkeeps : ∀ x s, KeepsTaken s (act x s).1) (s : State) : KeepsTaken s (pourRequest lengthOk operands act s).1 := by
  unfold pourRequest
  split
  · exact .refl s
  · split
    · exact .refl s
    · split
      · exact .refl s
      · exact hkeeps _ s

section ServedBy
variable {c : Instr} {kind : Byte} {tag : Tag} {α : Type} {operands : Option α}

theorem servedBy_tableWrite {write : α → State → State}
    (hexec : ∀ s, exec c s = .next (s.serve kind tag fun _ => tableWrite (requestLengthOk c) operands write))
    (hkeeps : ∀ x s, KeepsTaken s (write x s)) :
    ServedBy c kind tag fun _ => tableWrite (requestLengthOk c) operands write :=
  ⟨hexec, fun _ => tableWrite_keepsTaken hkeeps, fun hlen _ _ => tableWrite_format hlen,
    fun hlen _ _ _ hphase => tableWrite_phase hlen hphase⟩

theorem servedBy_anyPhase {act : α → State → Judged}
    (hexec : ∀ s, exec c s = .next (s.serve kind tag fun _ => anyPhase (requestLengthOk c) operands act))
    (hkeeps : ∀ x s, KeepsTaken s (act x s).1) (hwrites : writesTables c = false) :
    ServedBy c kind tag fun _ => anyPhase (requestLengthOk c) operands act :=
  ⟨hexec, fun _ => anyPhase_keepsTaken hkeeps, fun hlen _ _ => anyPhase_format hlen, fun _ h => absurd h (by simp [hwrites])⟩

theorem servedBy_pourRequest {act : α → State → Judged}
    (hexec : ∀ s, exec c s = .next (s.serve kind tag fun _ => pourRequest (requestLengthOk c) operands act))
    (hkeeps : ∀ x s, KeepsTaken s (act x s).1) (hwrites : writesTables c = false) :
    ServedBy c kind tag fun _ => pourRequest (requestLengthOk c) operands act :=
  ⟨hexec, fun _ => pourRequest_keepsTaken hkeeps, fun hlen _ s => by simp [pourRequest, hlen],
    fun _ h => absurd h (by simp [hwrites])⟩

/-- The other requests check their length first too. -/
theorem servedBy_own {judge : ReplyNo → State → Judged} (hexec : ∀ s, exec c s = .next (s.serve kind tag judge))
    (hkeeps : ∀ r s, KeepsTaken s (judge r s).1)
    (hformat : requestLengthOk c = false → ∀ r s, judge r s = refuse .format s) (hwrites : writesTables c = false) :
    ServedBy c kind tag judge :=
  ⟨hexec, hkeeps, hformat, fun _ h => absurd h (by simp [hwrites])⟩

end ServedBy

/-- The table-writing requests are served by such judgements. -/
theorem exists_servedBy_of_writesTables {c : Instr} {kind : Byte} {tag : Tag} {body : List Byte}
    (h : requestOf c = some (kind, tag, body)) (hwrites : writesTables c = true) : ∃ judge, ServedBy c kind tag judge := by
  cases c <;> cases hwrites <;> cases h
  case shipSet => exact ⟨_, servedBy_tableWrite (fun _ => rfl) fun _ s => .of_touches (touch_cfg s _)⟩
  case segmentSet => exact ⟨_, servedBy_tableWrite (fun _ => rfl) fun _ s => .of_touches (touch_cfg s _)⟩
  case stationSet => exact ⟨_, servedBy_tableWrite (fun _ => rfl) fun _ s => .of_touches (touch_cfg s _)⟩
  case soundingSet => exact ⟨_, servedBy_tableWrite (fun _ => rfl) fun _ s => .of_touches (touch_cfg s _)⟩
  case holdSet => exact ⟨_, servedBy_tableWrite (fun _ => rfl) fun _ s => .of_touches (touch_cfg s _)⟩
  case bandSet => exact ⟨_, servedBy_tableWrite (fun _ => rfl) fun _ s => .of_touches (touch_cfg s _)⟩
  case scanSet => exact ⟨_, servedBy_tableWrite (fun _ => rfl) fun _ s => .of_touches (touch_cfg s _)⟩
  case paceSet => exact ⟨_, servedBy_tableWrite (fun _ => rfl) fun _ s => .of_touches (touch_cfg s _)⟩
  case tankSet => exact ⟨_, servedBy_tableWrite (fun _ => rfl) fun x s => .of_steady (writeTank_steady x s)⟩
  case channelSet => exact ⟨_, servedBy_tableWrite (fun _ => rfl) fun x s => .of_steady (writeChannel_steady x s)⟩
  case pumpSet => exact ⟨_, servedBy_tableWrite (fun _ => rfl) writePump_keepsTaken⟩
  case valveSet => exact ⟨_, servedBy_tableWrite (fun _ => rfl) writeValve_keepsTaken⟩
  case stopSet =>
    exact ⟨_, servedBy_tableWrite (fun _ => rfl) fun _ s =>
      .of_steady ((Steady.of_touches (touch_cfg s _)).trans (stopChange_steady ..))⟩

/-- So are the other requests of the list. -/
theorem exists_servedBy_of_writesNone {c : Instr} {kind : Byte} {tag : Tag} {body : List Byte}
    (h : requestOf c = some (kind, tag, body)) (hwrites : writesTables c = false) : ∃ judge, ServedBy c kind tag judge := by
  cases c <;> cases hwrites <;> cases h
  case boundsSet => exact ⟨_, servedBy_anyPhase (fun _ => rfl) (fun x s => .of_steady (takeBounds_steady x s)) rfl⟩
  case berthSet => exact ⟨_, servedBy_anyPhase (fun _ => rfl) (fun b s => .of_touches (takeBerth_touch b s)) rfl⟩
  case tankLock => exact ⟨_, servedBy_anyPhase (fun _ => rfl) (fun t s => .of_steady (takeLock_steady t s)) rfl⟩
  case tankUnlock => exact ⟨_, servedBy_anyPhase (fun _ => rfl) judgeUnlock_keepsTaken rfl⟩
  case conditionGet => exact ⟨_, servedBy_anyPhase (fun _ => rfl) judgeConditionGet_keepsTaken rfl⟩
  case stopAck => exact ⟨_, servedBy_anyPhase (fun _ => rfl) (fun _ => judgeStopAck_keepsTaken) rfl⟩
  case alarmAck => exact ⟨_, servedBy_anyPhase (fun _ => rfl) (fun _ s => .of_touches (touch_lsl s _)) rfl⟩
  case alarmSet => exact ⟨_, servedBy_anyPhase (fun _ => rfl) (fun _ _ => .of_slots rfl) rfl⟩
  case stepCancel => exact ⟨_, servedBy_anyPhase (fun _ => rfl) judgeStepCancel_keepsTaken rfl⟩
  case stepPin => exact ⟨_, servedBy_anyPhase (fun _ => rfl) judgeStepPin_keepsTaken rfl⟩
  case faultClear => exact ⟨_, servedBy_anyPhase (fun _ => rfl) judgeFaultClear_keepsTaken rfl⟩
  case permitSet => exact ⟨_, servedBy_anyPhase (fun _ => rfl) judgePermitSet_keepsTaken rfl⟩
  case challenge => exact ⟨_, servedBy_anyPhase (fun _ => rfl) (fun _ => takeChallenge_keepsTaken) rfl⟩
  case answer => exact ⟨_, servedBy_anyPhase (fun _ => rfl) judgeAnswerRequest_keepsTaken rfl⟩
  case permitStatus => exact ⟨_, servedBy_anyPhase (fun _ => rfl) (fun _ s => .of_touches (touch_pmu s _)) rfl⟩
  case reportCompose => exact ⟨_, servedBy_anyPhase (fun _ => rfl) judgeReportCompose_keepsTaken rfl⟩
  case clockSet => exact ⟨_, servedBy_anyPhase (fun _ => rfl) (fun _ s => .of_touches (touch_ccl s _)) rfl⟩
  case noticeSelect => exact ⟨_, servedBy_anyPhase (fun _ => rfl) selectNotices_keepsTaken rfl⟩
  case phaseSet => exact ⟨_, servedBy_anyPhase (fun _ => rfl) judgePhaseSet_keepsTaken rfl⟩
  case storeWrite => exact ⟨_, servedBy_anyPhase (fun _ => rfl) judgeStoreWrite_keepsTaken rfl⟩
  case restart => exact ⟨_, servedBy_anyPhase (fun _ => rfl) (fun _ => restart_keepsTaken) rfl⟩
  case pourBegin => exact ⟨_, servedBy_pourRequest (fun _ => rfl) judgePourBegin_keepsTaken rfl⟩
  case pourProgress => exact ⟨_, servedBy_pourRequest (fun _ => rfl) judgePourProgress_keepsTaken rfl⟩
  case pourEnd => exact ⟨_, servedBy_pourRequest (fun _ => rfl) judgePourEnd_keepsTaken rfl⟩
  case planLoad =>
    refine ⟨_, servedBy_own (fun _ => rfl) (fun _ => judgePlanLoad_keepsTaken body) (fun hlen _ s => ?_) rfl⟩
    rw [judgePlanLoad, show lengthCounted 2 9 1 body = false from hlen]
    rfl
  case predict =>
    refine ⟨_, servedBy_own (fun _ => rfl) (judgePredict_keepsTaken tag body) (fun hlen _ s => ?_) rfl⟩
    rw [judgePredict, show lengthCounted 2 6 1 body = false from hlen]
    rfl
  case stepAdd =>
    refine ⟨_, servedBy_own (fun _ => rfl) (judgeStepAdd_keepsTaken body) (fun hlen _ s => ?_) rfl⟩
    rw [judgeStepAdd, show lengthIs 9 body = false from hlen]
    rfl
  case callSet =>
    refine ⟨_, servedBy_own (fun _ => rfl) (fun _ => judgeCallSet_keepsTaken body) (fun hlen _ s => ?_) rfl⟩
    rw [judgeCallSet, show callSetLength body = false from hlen]
    rfl
  all_goals exact ⟨_, servedBy_anyPhase (fun _ => rfl) (fun _ => .refl) rfl⟩

theorem exists_servedBy {c : Instr} {kind : Byte} {tag : Tag} {body : List Byte} (h : requestOf c = some (kind, tag, body)) :
    ∃ judge, ServedBy c kind tag judge := by
  cases hwrites : writesTables c with
  | true => exact exists_servedBy_of_writesTables h hwrites
  | false => exact exists_servedBy_of_writesNone h hwrites

/-! ### The slot a request takes -/

theorem freeSlot_eq_some {l : Lnk} {r : ReplyNo} (hfree : l.slots[r] = .free) (hlowest : ∀ q : ReplyNo, q < r → l.slots[q] ≠ .free) :
    l.freeSlot = some r := by
  have hsome : l.freeSlot.isSome := List.find?_isSome.mpr ⟨r, List.mem_finRange r, by simpa using hfree⟩
  obtain ⟨q, hq⟩ := Option.isSome_iff_exists.mp hsome
  obtain ⟨hqfree, hqlowest⟩ := freeSlot_spec hq
  rcases lt_trichotomy q r with h | rfl | h
  · exact absurd hqfree (hlowest q h)
  · exact hq
  · exact absurd hfree (hqlowest r h)

/-- A request that finds no free slot is discarded (R191). -/
theorem serve_discarded {s : State} (hp : s.powered = true) (hfull : s.lnk.freeSlot = none) (hset : Settled s) (kind : Byte)
    (tag : Tag) (judge : ReplyNo → State → Judged) :
    s.serve kind tag judge = { s with lnk := { s.lnk with rx := .hunt } } := by
  have hfull' : ({ s.lnk with rx := Rx.hunt } : Lnk).freeSlot = none := hfull
  simp only [serve, event, hp, if_true, hfull']
  exact transmit_settled hset

/-- The slot a request takes stays taken: it holds the request's reply, or is reserved for it. -/
theorem serve_slot_taken {s : State} {r : ReplyNo} (hp : s.powered = true) (hr : s.lnk.freeSlot = some r) {kind : Byte} {tag : Tag}
    {judge : ReplyNo → State → Judged} (hkeeps : ∀ s, KeepsTaken s (judge r s).1) :
    (s.serve kind tag judge).lnk.slots[r] ≠ .free := by
  have hopened : (s.opened r kind tag).lnk.slots[r] ≠ .free := by simp [opened]
  have hjudged := (hkeeps _).kept r hopened
  rw [serve_eq hp hr]
  generalize judge r (s.opened r kind tag) = j at hjudged
  obtain ⟨t, _ | a⟩ := j
  · rw [(transmit_link _).2.1]
    exact hjudged
  · rw [(transmit_link _).2.1]
    exact (reply_keepsTaken ..).kept r hjudged

end Sys2Proof.Machine

namespace Sys2Proof

/- One proof at a time: side by side they take a thread each. -/
set_option Elab.async false

open Machine

/-- Settles O17: every request is served by a judgement that frees no slot and checks the length, then the phase. -/
theorem turnedAway : Obligations.TurnedAway := by
  refine ⟨fun c kind tag body s hc => ?_, fun kind tag body s hunknown hfits hs => ?unknown⟩
  · obtain ⟨judge, hexec, hkeeps, hformat, hphase⟩ := exists_servedBy hc
    rw [hexec]
    refine ⟨fun hp hfull hset => ?full, fun r hp hfree hlowest => ⟨_, rfl, ?taken⟩, fun hs hlen => ⟨_, rfl, ?format⟩,
      fun hs hlen hwrites hsetup => ⟨_, rfl, ?phase⟩⟩
    case full => rw [serve_discarded hp hfull hset]
    case taken => exact serve_slot_taken hp (freeSlot_eq_some hfree hlowest) (hkeeps r)
    case format => exact replied_of_kept hs fun r => hformat hlen r _
    case phase => exact replied_of_kept hs fun r => hphase hlen hwrites r _ hsetup
  case unknown =>
    have hexec : exec (.unknownKindRequest kind tag body) s = .next (s.serve kind tag fun _ => refuse .unknownKind) := by
      have hlong : ¬Config.maxBody < body.length := Nat.not_lt.mpr hfits
      simp [exec, execUnknownKindRequest, hunknown, hlong]
    exact ⟨_, hexec, replied_of_kept hs fun _ => rfl⟩

end Sys2Proof
end

section
/-! PROOFS. The reading requests (R16, R29, R39, R64, R65, R85, R110, R133, R152, R176, R181, R188, R215): what their bodies name, and that their reports do not depend on the link. -/

namespace Sys2Proof.Machine

/- One proof at a time: side by side they take a thread each. -/
set_option Elab.async false

theorem field_ix {n : Nat} (i : Fin n) (h : n ≤ 256) : index (field (u8 i.val) 0 1) n = some i := by
  rw [field_u8, mod_byte (by omega), index_val]

theorem parseStepList_bytes {first count : Nat} (hfirst : within 1 32 first = true) (hcount : within 1 8 count = true) :
    parseStepList (u8 first ++ u8 count) = some (first, count) := by
  have hf := within_iff.mp hfirst
  have hc := within_iff.mp hcount
  simp [parseStepList, mod_byte (show first ≤ 255 by omega), mod_byte (show count ≤ 255 by omega), hfirst, hcount]

theorem parseLogRead_bytes {first count : Nat} (hlow : 1 ≤ first) (hhigh : first ≤ Config.maxU32)
    (hcount : within 1 16 count = true) : parseLogRead (u32 first ++ u8 count) = some (first, count) := by
  have hc := within_iff.mp hcount
  simp [parseLogRead, mod_long (show first ≤ 4294967295 from hhigh), mod_byte (show count ≤ 255 by omega), hlow, hcount]

theorem parseReportRead_bytes (stored : Bool) {off len : Nat} (hoff : off ≤ 65535) (hlen : within 1 200 len = true) :
    parseReportRead (flag stored ++ u16 off ++ u8 len) = some (stored, off, len) := by
  have hl := within_iff.mp hlen
  have hsource : ofCode [false, true] stored.toNat = some stored := by cases stored <;> rfl
  simp [parseReportRead, hsource, mod_word hoff, mod_byte (show len ≤ 255 by omega), hlen]

theorem parseConditionGet_stations {first count : Nat} (hfirst : 1 ≤ first) (hcount : 1 ≤ count) (hspan : first + count ≤ 20) :
    parseConditionGet (u8 1 ++ u8 first ++ u8 count) = some (.stations first count) := by
  have hrange : (within 1 19 first && within 1 19 count && within 0 20 (first + count)) = true := by
    simp only [Bool.and_eq_true, within_iff]
    omega
  simp [parseConditionGet, mod_byte (show first ≤ 255 by omega), mod_byte (show count ≤ 255 by omega), whenever, hrange]

theorem parseConditionGet_segments {first count : Nat} (hcount : 1 ≤ count) (hspan : first + count ≤ 20) :
    parseConditionGet (u8 2 ++ u8 first ++ u8 count) = some (.segments first count) := by
  have hrange : (within 0 19 first && within 1 20 count && within 0 20 (first + count)) = true := by
    simp only [Bool.and_eq_true, within_iff]
    omega
  simp [parseConditionGet, mod_byte (show first ≤ 255 by omega), mod_byte (show count ≤ 255 by omega), whenever, hrange]

/-- CONDITION_GET of a part that is read is answered as R64 and R65 judge it. -/
theorem replied_of_conditionGet {s : State} (hs : s.serving) (tag : Tag) {b : List Byte} {part : ConditionPart} {st : Status}
    {body : List Byte} (hlen : partLength (fun p => p == 1 || p == 2) 4 b = true) (hops : parseConditionGet b = some part)
    (hj : ∀ u : State, u.cen = s.cen → judgeConditionGet part u = (u, some ⟨st, body⟩)) :
    ∃ t, exec (.conditionGet tag b) s = .next t ∧ Replied s t 0x32 tag st body :=
  ⟨_, rfl, replied_of_kept hs fun r => (anyPhase_act hlen hops).trans (hj _ (opened_touch r 0x32 tag s).cen)⟩

end Sys2Proof.Machine

namespace Sys2Proof

/- One proof at a time: side by side they take a thread each. -/
set_option Elab.async false

open Machine

/-- Settles O23: each body reads as the part it names, and each report is formed of parts of the state that serving a request leaves alone. -/
theorem readersReport : Obligations.ReadersReport := by
  intro s tag b hs
  refine ⟨fun i hlen hops => ⟨_, rfl, ?table⟩, fun ch => ⟨_, rfl, ?channel⟩, fun k => ⟨_, rfl, ?tank⟩, ?engine,
    fun r hr => ?summary, fun r first count hr hfirst hcount hspan => ?stations, fun r first count hr hcount hspan => ?segments,
    fun hnone first count hcount hspan => ⟨?noSummary, fun hfirst => ?noStations, ?noSegments⟩, ⟨_, rfl, ?limits⟩,
    fun first count hfirst hcount => ⟨_, rfl, ?steps⟩, fun part hlen hops => ⟨_, rfl, ?plant⟩,
    fun part hlen hops => ⟨_, rfl, ?pours⟩, fun first count hlow hhigh hcount => ⟨_, rfl, ?log⟩,
    fun part hlen hops => ⟨_, rfl, ?totals⟩, fun stored off len hoff hlen => ⟨_, rfl, ?report⟩, ⟨_, rfl, ?store⟩⟩
  case table => exact replied_of_reader hs (beq_iff_eq.mpr hlen) hops fun _ => by cases i <;> rfl
  case channel => exact replied_of_reader hs rfl (field_ix ch (by decide)) fun _ => rfl
  case tank => exact replied_of_reader hs rfl (field_ix k (by decide)) fun _ => rfl
  case engine => exact replied_of_conditionGet hs tag rfl rfl fun u hu => by rw [judgeConditionGet, hu]; rfl
  case summary => exact replied_of_conditionGet hs tag rfl rfl fun u hu => by simp [judgeConditionGet, taken, hu, hr]
  case stations =>
    exact replied_of_conditionGet hs tag rfl (parseConditionGet_stations hfirst hcount hspan) fun u hu => by
      simp [judgeConditionGet, taken, hu, hr]
  case segments =>
    exact replied_of_conditionGet hs tag rfl (parseConditionGet_segments hcount hspan) fun u hu => by
      simp [judgeConditionGet, taken, hu, hr]
  case noSummary => exact replied_of_conditionGet hs tag rfl rfl fun u hu => by simp [judgeConditionGet, refuse, hu, hnone]
  case noStations =>
    exact replied_of_conditionGet hs tag rfl (parseConditionGet_stations hfirst hcount hspan) fun u hu => by
      simp [judgeConditionGet, refuse, hu, hnone]
  case noSegments =>
    exact replied_of_conditionGet hs tag rfl (parseConditionGet_segments hcount hspan) fun u hu => by
      simp [judgeConditionGet, refuse, hu, hnone]
  case limits => exact replied_of_reader hs rfl rfl fun _ => rfl
  case steps => exact replied_of_reader (x := (first, count)) hs rfl (parseStepList_bytes hfirst hcount) fun _ => rfl
  case plant => exact replied_of_reader hs (beq_iff_eq.mpr hlen) hops fun _ => by cases part <;> rfl
  case pours => exact replied_of_reader hs hlen hops fun _ => by cases part <;> rfl
  case log => exact replied_of_reader (x := (first, count)) hs rfl (parseLogRead_bytes hlow hhigh hcount) fun _ => rfl
  case totals => exact replied_of_reader hs hlen hops fun _ => rfl
  case report => exact replied_of_reader hs rfl (parseReportRead_bytes stored hoff hlen) fun _ => rfl
  case store => exact replied_of_reader hs rfl rfl fun _ => rfl

end Sys2Proof
end

section
/-! PROOFS. The limit settings (R74, R75, R77, R82, R84): STOP_SET, ALARM_SET and the alarm pulse. -/

namespace Sys2Proof.Machine

/- One proof at a time: side by side they take a thread each. -/
set_option Elab.async false

open State

/-! ### LOADER STOP after an evaluation -/

theorem evaluated_causes (old new : Lsl) : (old.evaluated new).causes = new.causes := rfl

theorem evaluated_line (old new : Lsl) :
    (old.evaluated new).line = (new.causes.any || (old.line && !new.acknowledged)) := by
  simp only [Lsl.evaluated, stopLine]
  cases old.line <;> simp

theorem evaluated_acknowledged (old new : Lsl) :
    (old.evaluated new).acknowledged = (new.acknowledged && !((old.evaluated new).line && !old.line)) := rfl

theorem writeStop_lsl (x : StopSettings) (s : State) :
    (writeStop x s).lsl = s.lsl.evaluated (s.lsl.emergencyCause x.emergencyEnabled) := stopChange_lsl ..

theorem writeStop_touch (x : StopSettings) (s : State) : Touches [.cfg, .lsl, .rcu, .lnk, .pmu] s (writeStop x s) :=
  (touch_cfg s _).seq (stopChange_touch ..)

theorem writeStop_cfg (x : StopSettings) (s : State) : (writeStop x s).cfg = { s.cfg with stop := x } :=
  (stopChange_touch ..).cfg

theorem writeStop_steady (x : StopSettings) (s : State) : Steady s (writeStop x s) :=
  (Steady.of_touches (touch_cfg s _)).trans (stopChange_steady ..)

/-! ### ALARM -/

/-- A vector of four as its entries. -/
theorem vector_four {α : Type} (v : Vector α 4) : v = #v[v[0], v[1], v[2], v[3]] := by
  ext i hi
  match i, hi with
  | 0, _ | 1, _ | 2, _ | 3, _ => rfl

theorem parseAlarmSet_bytes (mode : AlarmMode) {len : Nat} (masked : Vector Bool 4) (hlen : within 1 30 len = true) :
    parseAlarmSet (u8 mode.code ++ u8 len ++ masked.toList.flatMap fun m => flag (!m)) = some ⟨mode, len, masked⟩ := by
  have hle := within_iff.mp hlen
  have hmode : ofCode [AlarmMode.lamp, .pulse] (mode.code % 256) = some mode := by cases mode <;> rfl
  have hmask (m : Bool) : ofCode [true, false] (!m).toNat = some m := by cases m <;> rfl
  rw [vector_four masked]
  generalize masked[0] = a, masked[1] = b, masked[2] = c, masked[3] = d
  simp [parseAlarmSet, hmode, hmask, mod_byte (show len ≤ 255 by omega), hlen, List.range, List.range.loop]
  rfl

theorem alarmSet_length (mode : AlarmMode) (len : Nat) (masked : Vector Bool 4) :
    lengthIs 6 (u8 mode.code ++ u8 len ++ masked.toList.flatMap fun m => flag (!m)) = true := by
  simp [lengthIs, List.length_flatMap]

/-- ALARM by the mode (R82). -/
theorem alarmLine_eq (a : AlarmSettings) (groups : Vector GroupFlags 4) (pulse : Option Nat) :
    alarmLine a groups pulse =
      if a.mode = .lamp then
        (List.finRange 4).any fun g => !a.masked[g] && (groups[g].causePresent || groups[g].unacknowledged)
      else pulse.isSome := by
  unfold alarmLine
  cases a.mode <;> rfl

theorem takeAlarmSet_lsl (x : AlarmSettings) (s : State) :
    (takeAlarmSet x s).lsl = { s.lsl with
      pulseUntil := if x.mode = .lamp then none else s.lsl.pulseUntil
      alarmLine := alarmLine x s.lsl.groups (if x.mode = .lamp then none else s.lsl.pulseUntil) } := rfl

/-- The pulse timer runs out with the line in PULSE mode: it goes OFF (R82). -/
theorem pulseEnd_pulse {s : State} (hset : s.lsl.pulseUntil ≠ none) (hmode : s.cfg.alarm.mode = .pulse) :
    s.pulseEnd = { s with lsl := { s.lsl with pulseUntil := none, alarmLine := false } } := by
  obtain ⟨u, hu⟩ := Option.ne_none_iff_exists'.mp hset
  simp [State.pulseEnd, hu, State.evalAlarm, alarmLine_eq, hmode]

/-- An event on a settled link that leaves the link as it was begins no frame. -/
theorem event_settled {s : State} {f : State → State} (hp : s.powered = true) (hset : Settled s) (hl : (f s).lnk = s.lnk) :
    s.event f = f s := by
  have hafter : Settled (f s) := by unfold Settled; rw [hl]; exact hset
  simp [State.event, hp, transmit_settled hafter]

end Sys2Proof.Machine

namespace Sys2Proof

/- One proof at a time: side by side they take a thread each. -/
set_option Elab.async false

open Machine

/-- Settles O36: LSL after each of the three as its evaluation leaves it. -/
theorem limitSettingsTaken : Obligations.LimitSettingsTaken := by
  refine ⟨fun s tag n enable hs hphase hn => ?stop, fun s tag mode len masked hs hlen => ?alarm,
    fun s hp hset => ⟨fun hnone => ?none, fun hsome hmode => ?pulse⟩⟩
  case stop =>
    obtain ⟨t, r, hexec, ht, ha⟩ := taken_of_judge (c := .stopSet tag (u8 n ++ flag enable)) rfl hs (f := writeStop ⟨n, enable⟩)
      (fun _ => tableWrite_taken rfl hphase (parseStopSet_bytes hn enable)) (fun r => writeStop_steady _ _)
    have hlsl := ht.lsl.trans (writeStop_lsl ..)
    refine ⟨t, hexec, ht.cfg.trans (writeStop_cfg ..), ?_, ?_, ?_, ?_,
      ((opened_touch r 0x42 tag s).seq ((writeStop_touch ..).seq ht)).mono, ha⟩
    · rw [hlsl]; rfl
    · rw [hlsl]; exact evaluated_line ..
    · rw [hlsl]; rfl
    · rw [hlsl]; rfl
  case alarm =>
    obtain ⟨t, r, hexec, ht, hq, ha⟩ := taken_quietly
      (c := .alarmSet tag (u8 mode.code ++ u8 len ++ masked.toList.flatMap fun m => flag (!m))) rfl hs
      (f := takeAlarmSet ⟨mode, len, masked⟩)
      (fun _ => anyPhase_act (act := fun x s => taken (takeAlarmSet x s)) (alarmSet_length mode len masked)
        (parseAlarmSet_bytes mode masked hlen)) fun _ => rfl
    have he := congrArg (fun u : State => { u with lsl := s.lsl }) (ht.lnk_eq s.lnk)
    refine ⟨t, hexec, he, ht.lsl.trans ((takeAlarmSet_lsl ..).trans ?_), hq, ha⟩
    rw [alarmLine_eq]
    cases mode <;> rfl
  case none =>
    have hsame : s.pulseEnd = s := by simp [State.pulseEnd, hnone]
    exact congrArg Host.Outcome.next ((event_settled hp hset (congrArg State.lnk hsame)).trans hsame)
  case pulse =>
    have hend := pulseEnd_pulse hsome hmode
    exact congrArg Host.Outcome.next ((event_settled hp hset (by rw [hend])).trans hend)

end Sys2Proof
end

section
/-! PROOFS. Tanks and channels written (R7, R18, R20, R30). -/

namespace Sys2Proof.Machine

/- One proof at a time: side by side they take a thread each. -/
set_option Elab.async false

open State

/-! ### The STALE flags follow the tables -/

/-- A tank is to be STALE by the tables and the channels alone (R30). -/
theorem shouldBeStale_congr {s t : State} (hcfg : t.cfg = s.cfg) (hfcu : t.fcu = s.fcu) (k : TankNo) :
    t.shouldBeStale k = s.shouldBeStale k := by
  unfold shouldBeStale
  rw [hcfg, hfcu]

theorem goStale_tanks (ch : Option ChannelNo) (k : TankNo) (s : State) :
    (s.goStale ch k).tanks = s.tanks.set k { s.tanks[k] with stale := true } := by
  unfold goStale
  extract_lets _ s₁ s₂ s₃
  have h₂ : Touches [.rcu] s₁ s₂ := log_touch ..
  have h₃ : Touches [.lnk] s₂ s₃ := notify_touch ..
  exact (h₂.seq (h₃.seq ((faultReport_touch (.sensor k) s₃).seq (tankStale_touch k _)))).tanks

theorem goValid_tanks (ch : Option ChannelNo) (k : TankNo) (s : State) :
    (s.goValid ch k none).tanks = s.tanks.set k { s.tanks[k] with stale := false } := by
  unfold goValid
  extract_lets _ s₁ s₂ s₃ s₄
  have h₃ : Touches [.rcu] s₂ s₃ := log_touch ..
  have h₄ : Touches [.lnk] s₃ s₄ := notify_touch ..
  exact (h₃.seq (h₄.seq (faultWithdraw_touch (.sensor k) s₄))).tanks

/-- One tank's flag follows the tables (R30). -/
theorem rebindTank_tanks (k : TankNo) (s : State) :
    (s.rebindTank k).tanks = s.tanks.set k { s.tanks[k] with stale := s.shouldBeStale k } := by
  unfold rebindTank
  split
  next h => rw [h]; exact (Vector.set_getElem_self _).symm
  next =>
    split
    next h => rw [h]; exact goStale_tanks ..
    next h => rw [Bool.eq_false_of_not_eq_true h]; exact goValid_tanks ..

/-- The flags of the tanks of a list follow the tables, and nothing else of the tanks changes (R30). -/
theorem rebound_tank (l : List TankNo) (j : TankNo) (s : State) :
    (l.foldl (fun s k => s.rebindTank k) s).tanks[j] =
      if j ∈ l then { s.tanks[j] with stale := s.shouldBeStale j } else s.tanks[j] := by
  induction l generalizing s with
  | nil => rfl
  | cons k l ih =>
    have hk := rebindTank_touch k s
    rw [List.foldl_cons, ih, shouldBeStale_congr hk.cfg hk.fcu, rebindTank_tanks]
    by_cases hj : k = j
    · subst hj; simp
    · have hne : k.val ≠ j.val := fun e => hj (Fin.ext e)
      simp [hne, Ne.symm hj]

theorem rebindTanks_tank (j : TankNo) (s : State) :
    s.rebindTanks.tanks[j] = { s.tanks[j] with stale := s.shouldBeStale j } := by
  rw [rebindTanks, rebound_tank, if_pos (List.mem_finRange j)]

/-- After a binding table is written, every tank is STALE or VALID as the tables then stand (R30). -/
theorem rebindTanks_follow (j : TankNo) (s : State) :
    s.rebindTanks.tanks[j] = { s.tanks[j] with stale := s.rebindTanks.shouldBeStale j } := by
  have h := rebindTanks_touch s
  rw [rebindTanks_tank, shouldBeStale_congr h.cfg h.fcu]

/-! ### What the two requests write -/

theorem writeTank_cfg (x : TankNo × TankConfig) (s : State) :
    (writeTank x s).cfg = { s.cfg with tanks := s.cfg.tanks.set x.1 x.2 } := (rebindTanks_touch _).cfg

theorem writeChannel_cfg (x : ChannelNo × ChannelConfig) (s : State) :
    (writeChannel x s).cfg = { s.cfg with channels := s.cfg.channels.set x.1 x.2 } := (rebindTanks_touch _).cfg

theorem writeChannel_fcu (x : ChannelNo × ChannelConfig) (s : State) :
    (writeChannel x s).fcu = { s.fcu with channels := s.fcu.channels.set x.1 (freshChannel s.now x.2) } := (rebindTanks_touch _).fcu

theorem writeTank_tank (x : TankNo × TankConfig) (s : State) (j : TankNo) :
    (writeTank x s).tanks[j] = { s.tanks[j] with stale := (writeTank x s).shouldBeStale j } := rebindTanks_follow j _

theorem writeChannel_tank (x : ChannelNo × ChannelConfig) (s : State) (j : TankNo) :
    (writeChannel x s).tanks[j] = { s.tanks[j] with stale := (writeChannel x s).shouldBeStale j } := rebindTanks_follow j _

/-- The tanks after a write of which only the reply is still to be given. -/
theorem tank_followed {u t : State} (ht : Touches [.lnk] u t) {j : TankNo} {y : TankRun}
    (h : u.tanks[j] = { y with stale := u.shouldBeStale j }) : t.tanks[j] = { y with stale := t.shouldBeStale j } := by
  rw [ht.tanks, h, shouldBeStale_congr ht.cfg ht.fcu]

end Sys2Proof.Machine

namespace Sys2Proof

/- One proof at a time: side by side they take a thread each. -/
set_option Elab.async false

open Machine

/-- CHANNEL_SET with a body that reads as a channel's configuration, in SETUP (R18, R20, R30). -/
theorem channelSet_written {s : State} {tag : Tag} {ch : ChannelNo} {c : ChannelConfig} {body : List Byte} (hs : s.serving)
    (hphase : s.ccl.phase = .setup) (hlen : channelSetLength (u8 ch.val ++ body) = true)
    (hparse : parseChannelSet (u8 ch.val ++ body) = some (ch, c)) :
    ∃ t, exec (.channelSet tag (u8 ch.val ++ body)) s = .next t
      ∧ t.cfg = { s.cfg with channels := s.cfg.channels.set ch c }
      ∧ t.fcu = { s.fcu with channels := s.fcu.channels.set ch (freshChannel s.now c) }
      ∧ (∀ j : TankNo, t.tanks[j] = { s.tanks[j] with stale := t.shouldBeStale j })
      ∧ Touches [.cfg, .fcu, .tanks, .lsl, .rcu, .lnk, .tsq, .pva] s t
      ∧ Answered s t 0x21 tag .ok [] := by
  obtain ⟨t, r, hexec, ht, ha⟩ := taken_of_judge (c := .channelSet tag (u8 ch.val ++ body)) rfl hs (f := writeChannel (ch, c))
    (fun _ => tableWrite_taken hlen hphase hparse) (fun _ => writeChannel_steady ..)
  exact ⟨t, hexec, ht.cfg.trans (writeChannel_cfg ..), ht.fcu.trans (writeChannel_fcu ..),
    fun j => tank_followed ht (writeChannel_tank _ _ j),
    ((opened_touch r 0x21 tag s).seq ((writeChannel_touch ..).seq ht)).mono, ha⟩

/-- Settles O19: the tables are written, and each tank's flag then follows its level channel, tank by tank. -/
theorem tankAndChannelWritten : Obligations.TankAndChannelWritten := by
  refine ⟨fun s tag k c hs hphase hfirst hcount hlow hhigh hdensity hlevel => ?tank,
    fun s tag ch c run body hs hphase hbody => ?channel⟩
  case tank =>
    obtain ⟨t, r, hexec, ht, ha⟩ := taken_of_judge (c := .tankSet tag (u8 k.val ++ u8 c.side.code ++ u8 c.first ++ u8 c.count
        ++ i16 c.arm ++ u16 c.density ++ flag (!c.metered) ++ u16 c.fixedLevel)) rfl hs (f := writeTank (k, c))
      (fun _ => tableWrite_taken (by simp [lengthIs]) hphase (parseTankSet_bytes k hfirst hcount hlow hhigh hdensity hlevel))
      (fun _ => writeTank_steady ..)
    have hw := writeTank_touch (k, c) (s.opened r 0x14 tag)
    exact ⟨t, hexec, ht.cfg.trans (writeTank_cfg ..), fun j => tank_followed ht (writeTank_tank _ _ j), (hw.seq ht).fcu,
      ((opened_touch r 0x14 tag s).seq (hw.seq ht)).mono, ha⟩
  case channel =>
    rcases hbody with ⟨rfl, rfl, rfl⟩ | ⟨lo, hi, span, band, bound, hlo, hhi, hspan, hband, rfl, rfl, rfl⟩
      | ⟨debounce, notify, hdebounce, rfl, rfl, rfl⟩ | ⟨rfl, rfl, rfl⟩
    · exact channelSet_written hs hphase (by simp [channelSetLength]) (parseChannelSet_off ch)
    · exact channelSet_written hs hphase (by simp [channelSetLength]) (parseChannelSet_level ch bound hlo hhi hspan hband)
    · exact channelSet_written hs hphase (by simp [channelSetLength]) (parseChannelSet_switch ch hdebounce notify)
    · exact channelSet_written hs hphase (by simp [channelSetLength]) (parseChannelSet_pulse ch)

end Sys2Proof
end

section
/-! PROOFS. Pumps and valves written (R12, R13, R19). -/

namespace Sys2Proof.Machine

/- One proof at a time: side by side they take a thread each. -/
set_option Elab.async false

open State

/-- A request answered at once, whose judgement first changes what is no part of the link and then makes notices at most. -/
theorem taken_after {s : State} {kind : Byte} {tag : Tag} {st : Status} {body : List Byte} {judge : ReplyNo → State → Judged}
    {c : Instr} (hexec : exec c s = .next (s.serve kind tag judge)) (h : s.serving) {f first : State → State}
    (hj : ∀ r, judge r (s.opened r kind tag) = (f (s.opened r kind tag), some ⟨st, body⟩))
    (hlnk : ∀ u : State, (first u).lnk = u.lnk) (hst : ∀ u : State, Steady (first u) (f u)) :
    ∃ t r, exec c s = .next t ∧ Touches [.lnk] (f (s.opened r kind tag)) t ∧ Answered s t kind tag st body := by
  obtain ⟨r, hr⟩ := h.slot
  have hu := hst (s.opened r kind tag)
  have hl := hlnk (s.opened r kind tag)
  exact ⟨_, r, hexec, serve_touch h.1 hr (hj r),
    answered_of_judge h.1 hr (hj r) (by rw [hu.rx, hl]; rfl) (by rw [hu.slots, hl]; rfl) (by rw [hu.filled, hl]; rfl)
      (by rw [hu.tx, hl]; rfl)⟩

/-! ### PUMP_SET -/

/-- A pump's proof as a channel shows it (R19). -/
def State.boundPump (p : PumpNo) (ch : ChannelNo) (s : State) : State :=
  match s.fcu.channels[ch].settled with
  | none => s
  | some (some active) => s.setPump p { s.pva.pumps[p] with proof := .of active }
  | some none => s.setPump p { s.pva.pumps[p] with proof := .unknown }

/-- A valve's field as a channel shows it (R19). -/
def State.boundValve (v : ValveNo) (ch : ChannelNo) (s : State) : State :=
  match s.fcu.channels[ch].settled with
  | none => s
  | some (some active) => s.setValve v { s.pva.valves[v] with proved := .of active }
  | some none => s.setValve v { s.pva.valves[v] with proved := .unknown }

theorem bindPump_steady_from (p : PumpNo) (ch : ChannelNo) (s : State) : Steady (s.boundPump p ch) (s.bindPump p ch) := by
  unfold boundPump bindPump
  rcases hset : s.fcu.channels[ch].settled with _ | _ | active
  · exact .refl s
  · exact .refl _
  · exact runFeedback_steady p active s

theorem bindValve_steady_from (v : ValveNo) (ch : ChannelNo) (s : State) : Steady (s.boundValve v ch) (s.bindValve v ch) := by
  unfold boundValve bindValve
  rcases hset : s.fcu.channels[ch].settled with _ | _ | active
  · exact .refl s
  · exact .refl _
  · exact valveFeedback_steady v active s

theorem boundPump_proof {p : PumpNo} {ch : ChannelNo} {s : State} {active : Bool}
    (hset : s.fcu.channels[ch].settled = some (some active)) :
    (s.boundPump p ch).pva.pumps[p].proof = if active then .running else .stopped := by
  unfold boundPump
  rw [hset]
  exact (congrArg Pump.proof (Vector.getElem_set_self _)).trans (by cases active <;> rfl)

theorem boundValve_proved {v : ValveNo} {ch : ChannelNo} {s : State} {active : Bool}
    (hset : s.fcu.channels[ch].settled = some (some active)) :
    (s.boundValve v ch).pva.valves[v].proved = if active then .opened else .closed := by
  unfold boundValve
  rw [hset]
  exact (congrArg Valve.proved (Vector.getElem_set_self _)).trans (by cases active <;> rfl)

/-- A pump's proof as a channel newly named gives it; nothing where the channel is the one already named or not in SWITCH mode (R19, log entry 19). -/
def State.newProof (p : PumpNo) (was : Option ChannelNo) (ch : ChannelNo) (s : State) : State :=
  if was = some ch then s else s.boundPump p ch

/-- A valve's field as a channel newly named gives it; nothing where the channel is the one already named or not in SWITCH mode (R19, log entry 19). -/
def State.newProved (v : ValveNo) (was : Option ChannelNo) (ch : ChannelNo) (s : State) : State :=
  if was = some ch then s else s.boundValve v ch

section Pump
variable {p : PumpNo} {c : PumpConfig} {run : ChannelNo} {s : State}

/-- PUMP_SET, seen from the channel it names (R19). -/
theorem writePump_named (h : c.runChannel = some run) :
    writePump (p, c) s =
      if s.cfg.pumps[p].runChannel = some run then { s with cfg := { s.cfg with pumps := s.cfg.pumps.set p c } }
      else State.bindPump p run { s with cfg := { s.cfg with pumps := s.cfg.pumps.set p c } } := by
  simp only [writePump, h]

theorem writePump_kept (h : c.runChannel = some run)
    (hkept : s.cfg.pumps[p].runChannel = some run ∨ s.fcu.channels[run].settled = none) :
    writePump (p, c) s = { s with cfg := { s.cfg with pumps := s.cfg.pumps.set p c } } := by
  rw [writePump_named h]
  split
  · rfl
  next hnew => simp only [bindPump, hkept.resolve_left hnew]

theorem writePump_unknown (h : c.runChannel = some run) (hnew : s.cfg.pumps[p].runChannel ≠ some run)
    (hset : s.fcu.channels[run].settled = some none) :
    writePump (p, c) s =
      { s.setPump p { s.pva.pumps[p] with proof := .unknown } with cfg := { s.cfg with pumps := s.cfg.pumps.set p c } } := by
  rw [writePump_named h, if_neg hnew]
  simp only [bindPump, hset]
  rfl

theorem writePump_steady_from (h : c.runChannel = some run) :
    Steady (State.newProof p s.cfg.pumps[p].runChannel run { s with cfg := { s.cfg with pumps := s.cfg.pumps.set p c } })
      (writePump (p, c) s) := by
  rw [writePump_named h, newProof]
  split
  · exact .refl _
  · exact bindPump_steady_from ..

theorem newProof_lnk (was : Option ChannelNo) : (s.newProof p was run).lnk = s.lnk := by
  unfold newProof boundPump
  split
  · rfl
  · split <;> rfl

/-- A pump's proof as the channel it newly names shows it (R19). -/
theorem writePump_shows {active : Bool} (h : c.runChannel = some run) (hnew : s.cfg.pumps[p].runChannel ≠ some run)
    (hset : s.fcu.channels[run].settled = some (some active)) :
    (writePump (p, c) s).pva.pumps[p].proof = if active then .running else .stopped := by
  rw [(writePump_steady_from h).proof p, newProof, if_neg hnew]
  exact boundPump_proof hset

/-- What PUMP_SET writes first is its table (R12). -/
theorem writePump_cfg : (writePump (p, c) s).cfg = { s.cfg with pumps := s.cfg.pumps.set p c } := by
  simp only [writePump]
  split
  · rfl
  · split
    · rfl
    · exact (bindPump_touch ..).cfg

end Pump

/-! ### VALVE_SET -/

section Valve
variable {v : ValveNo} {ch : ChannelNo} {travel : Nat} {s : State}

theorem writeValve_kept (hkept : s.cfg.valves[v].channel = some ch ∨ s.fcu.channels[ch].settled = none) :
    writeValve (v, ⟨travel, some ch⟩) s = { s with cfg := { s.cfg with valves := s.cfg.valves.set v ⟨travel, some ch⟩ } } := by
  simp only [writeValve]
  split
  · rfl
  next hnew => simp only [bindValve, hkept.resolve_left hnew]

theorem writeValve_unknown (hnew : s.cfg.valves[v].channel ≠ some ch) (hset : s.fcu.channels[ch].settled = some none) :
    writeValve (v, ⟨travel, some ch⟩) s =
      { s.setValve v { s.pva.valves[v] with proved := .unknown } with
        cfg := { s.cfg with valves := s.cfg.valves.set v ⟨travel, some ch⟩ } } := by
  simp only [writeValve, if_neg hnew, bindValve, hset]
  rfl

theorem writeValve_steady_from :
    Steady (State.newProved v s.cfg.valves[v].channel ch
        { s with cfg := { s.cfg with valves := s.cfg.valves.set v ⟨travel, some ch⟩ } })
      (writeValve (v, ⟨travel, some ch⟩) s) := by
  simp only [writeValve, newProved]
  split
  · exact .refl _
  · exact bindValve_steady_from ..

theorem newProved_lnk (was : Option ChannelNo) : (s.newProved v was ch).lnk = s.lnk := by
  unfold newProved boundValve
  split
  · rfl
  · split <;> rfl

/-- A valve's field as the channel it newly names shows it (R19). -/
theorem writeValve_shows {active : Bool} (hnew : s.cfg.valves[v].channel ≠ some ch)
    (hset : s.fcu.channels[ch].settled = some (some active)) :
    (writeValve (v, ⟨travel, some ch⟩) s).pva.valves[v].proved = if active then .opened else .closed := by
  rw [writeValve_steady_from.proved v, newProved, if_neg hnew]
  exact boundValve_proved hset

theorem writeValve_cfg :
    (writeValve (v, ⟨travel, some ch⟩) s).cfg = { s.cfg with valves := s.cfg.valves.set v ⟨travel, some ch⟩ } := by
  simp only [writeValve]
  split
  · rfl
  · exact (bindValve_touch ..).cfg

end Valve

end Sys2Proof.Machine

namespace Sys2Proof

/- One proof at a time: side by side they take a thread each. -/
set_option Elab.async false

open Machine

/-- Settles O20: both requests go by what the channel named shows, and a settled one is delivered. -/
theorem pumpAndValveWritten : Obligations.PumpAndValveWritten := by
  intro s tag hs hphase
  refine ⟨fun p c run flow hrun hflow hgear hstart hnoFlow hlitres hinterval => ?pump, fun v ch travel htravel => ?valve⟩
  case pump =>
    obtain ⟨t, r, hexec, ht, ha⟩ := taken_after (c := .pumpSet tag (u8 p.val ++ u8 c.gearInterval ++ u8 c.startTime
        ++ u8 c.noFlowTime ++ u16 c.litresPerPulse ++ u16 c.minInterval ++ u8 run.val ++ u8 flow.val)) rfl hs
      (f := writePump (p, c))
      (first := fun u => State.newProof p u.cfg.pumps[p].runChannel run
        { u with cfg := { u.cfg with pumps := u.cfg.pumps.set p c } })
      (fun _ => tableWrite_taken (by simp [lengthIs]) hphase
        (parsePumpSet_bytes p hrun hflow hgear hstart hnoFlow hlitres hinterval))
      (fun _ => newProof_lnk _) (fun _ => writePump_steady_from hrun)
    refine ⟨t, hexec, ht.cfg.trans writePump_cfg, fun hkept => ?_, fun hnew hset => ?_, fun active hnew hset => ?_, ha⟩
    · rw [writePump_kept (s := s.opened r 0x17 tag) hrun hkept] at ht
      exact congrArg (fun u : State => { u with cfg := s.cfg }) (ht.lnk_eq s.lnk)
    · rw [writePump_unknown (s := s.opened r 0x17 tag) hrun hnew hset] at ht
      exact congrArg (fun u : State => { u with cfg := s.cfg }) (ht.lnk_eq s.lnk)
    · rw [ht.pva]
      exact writePump_shows hrun hnew hset
  case valve =>
    obtain ⟨t, r, hexec, ht, ha⟩ := taken_after (c := .valveSet tag (u8 v.val ++ u8 travel ++ u8 ch.val)) rfl hs
      (f := writeValve (v, ⟨travel, some ch⟩))
      (first := fun u => State.newProved v u.cfg.valves[v].channel ch
        { u with cfg := { u.cfg with valves := u.cfg.valves.set v ⟨travel, some ch⟩ } })
      (fun _ => tableWrite_taken (by simp [lengthIs]) hphase (parseValveSet_bytes v ch htravel))
      (fun _ => newProved_lnk _) (fun _ => writeValve_steady_from)
    refine ⟨t, hexec, ht.cfg.trans writeValve_cfg, fun hkept => ?_, fun hnew hset => ?_, fun active hnew hset => ?_, ha⟩
    · rw [writeValve_kept (s := s.opened r 0x18 tag) hkept] at ht
      exact congrArg (fun u : State => { u with cfg := s.cfg }) (ht.lnk_eq s.lnk)
    · rw [writeValve_unknown (s := s.opened r 0x18 tag) hnew hset] at ht
      exact congrArg (fun u : State => { u with cfg := s.cfg }) (ht.lnk_eq s.lnk)
    · rw [ht.pva]
      exact writeValve_shows hnew hset

end Sys2Proof
end

section
/-! PROOFS. The settings store and power (R2, R130, R212 to R214, R216). -/

namespace Sys2Proof.Machine

/- One proof at a time: side by side they take a thread each. -/
set_option Elab.async false

open State

/-! ### Operations that log and give notice only: the records and, with no notice enabled, the link -/

/-- RCU's records: all that an entry leaves as it was. -/
def Rcu.records (r : Rcu) : Rcu := { r with log := [], nextSequence := none, wrapped := false, counts := .zero }

/-- With no notice enabled the link is as it was, and RCU's records are. -/
structure Unheard (s t : State) : Prop where
  lnk : s.lnk.enabled = 0 → t.lnk = s.lnk
  records : t.rcu.records = s.rcu.records

namespace Unheard

variable {s t u : State}

theorem refl (s : State) : Unheard s s := ⟨fun _ => rfl, rfl⟩

theorem trans (h : Unheard s t) (g : Unheard t u) : Unheard s u :=
  ⟨fun h0 => (g.lnk (by rw [h.lnk h0]; exact h0)).trans (h.lnk h0), g.records.trans h.records⟩

theorem of_touches {l : List Part} (h : Touches l s t) (hl : Part.lnk ∉ l := by decide) (hr : Part.rcu ∉ l := by decide) :
    Unheard s t := ⟨fun _ => h.lnk hl, congrArg Rcu.records (h.rcu hr)⟩

theorem ite {c : Prop} [Decidable c] (h : Unheard s t) (g : Unheard s u) : Unheard s (if c then t else u) := by
  split <;> assumption

end Unheard

theorem write_records (callTime : Nat) (k : EntryKind) (ps : List Nat) (r : Rcu) :
    (r.write callTime k ps).records = r.records := by
  unfold Rcu.write
  split <;> rfl

theorem log_unheard (k : EntryKind) (ps : List Nat) (s : State) : Unheard s (s.log k ps) :=
  ⟨fun _ => (log_touch k ps s).lnk, write_records s.ccl.callTime k ps s.rcu⟩

/-- A notice whose kind is not enabled is not made (R194). -/
theorem notify_unheard (n : Notice) (c : List Byte) (s : State) : Unheard s (s.notify n c) where
  records := congrArg Rcu.records (notify_touch n c s).rcu
  lnk h := by simp [notify, Lnk.enables, h]

theorem evalPermit_unheard (c : PermitCause) (s : State) : Unheard s (s.evalPermit c) :=
  .ite (.refl s) ((Unheard.of_touches (touch_pmu s _)).trans ((log_unheard ..).trans (notify_unheard ..)))

theorem stopEvaluated_unheard (f : Lsl → Lsl) (s : State) : Unheard s (s.stopEvaluated f) := by
  unfold stopEvaluated
  extract_lets old l s₁ s₂
  have h₁ : Unheard s s₁ := .of_touches (touch_lsl s _)
  have h₂ : Unheard s₁ s₂ := .ite (log_unheard ..) (.ite (log_unheard ..) (.refl _))
  exact h₁.trans (h₂.trans (.ite (notify_unheard ..) (.refl _)))

theorem stopChange_unheard (f : Lsl → Lsl) (s : State) : Unheard s (s.stopChange f) :=
  (stopEvaluated_unheard f s).trans (.ite (.refl _) (evalPermit_unheard .stop _))

/-! ### The emergency stop input at power-on -/

theorem tripPumps_touch (s : State) : Touches [.pva] s s.tripPumps := touch_pva s _

theorem emergencyAtPowerOn_touch (s : State) : Touches [.pva, .lsl, .rcu, .lnk, .pmu] s s.emergencyAtPowerOn :=
  .ite ((tripPumps_touch s).seq ((emergencyReport_touch true _).trans (log_touch ..).mono)) (.refl _ s)

theorem emergencyAtPowerOn_unheard (s : State) : Unheard s s.emergencyAtPowerOn :=
  have htrip : Unheard s s.tripPumps := .of_touches (tripPumps_touch s)
  .ite (htrip.trans ((stopChange_unheard ..).trans (log_unheard ..))) (.refl s)

theorem emergencyAtPowerOn_pumps (s : State) (p : PumpNo) :
    s.emergencyAtPowerOn.pva.pumps[p] = if s.pins.emergency then s.pva.pumps[p].tripped else s.pva.pumps[p] := by
  unfold emergencyAtPowerOn
  split
  · have h : (s.tripPumps.reportEmergency s.pva.toTrip 0).pva = s.tripPumps.pva :=
      ((emergencyReport_touch true s.tripPumps).trans (log_touch ..).mono).pva
    simp only [h]
    exact Vector.getElem_ofFn ..
  · rfl

theorem emergencyAtPowerOn_lsl (s : State) :
    s.emergencyAtPowerOn.lsl =
      if s.pins.emergency then
        s.lsl.evaluated ({ s.lsl with emergencyInput := true }.emergencyCause s.cfg.stop.emergencyEnabled)
      else s.lsl := by
  unfold emergencyAtPowerOn
  split
  · exact (log_touch ..).lsl.trans (stopChange_lsl ..)
  · rfl

/-- Outside LOADING the permit unit is untouched where LOADER PERMIT is OFF (R169). -/
theorem emergencyAtPowerOn_pmu {s : State} (hphase : s.ccl.phase ≠ .loading) (hoff : s.pmu.permit = false) :
    s.emergencyAtPowerOn.pmu = s.pmu := by
  unfold emergencyAtPowerOn
  split
  · refine (log_touch ..).pmu.trans ((stopChange_pmu ..).trans ?_)
    split
    · have hline (h l : Bool) : permitLine s.ccl.phase h l = s.pmu.permit := by simp [permitLine, hphase, hoff]
      simp only [(tripPumps_touch s).pmu, (tripPumps_touch s).ccl, hline]
    · exact (tripPumps_touch s).pmu
  · rfl

/-! ### The store as power-on finds it -/

section Read
variable {α : Type} {f : ItemFormat α} {e : StoreErrors} {y : Stored α}

theorem read_invalid (h : ∀ x, y ≠ .valid x) : y.read f e = .invalid := by
  cases y with
  | valid x => exact absurd rfl (h x)
  | _ => rfl

/-- A VALID item stays so where, as it is read, its version is the known one, its length fits and its CRC agrees (R212). -/
theorem read_valid (x : StoredItem α) :
    (Stored.valid x).read f e =
      if x.version ^^^ e.version = f.version ∧ x.length ^^^ e.length = f.length x.content
        ∧ x.crc ^^^ e.crc = f.crc (x.version ^^^ e.version) (x.length ^^^ e.length) x.content
      then .valid ⟨x.version ^^^ e.version, x.length ^^^ e.length, x.content, x.crc ^^^ e.crc⟩ else .invalid := by
  have h := passes_iff f (x.read e)
  simp only [read_version, read_length, read_content, read_crc] at h
  simp only [Stored.read, ← h]
  rfl

theorem kept_eq_valid {x : StoredItem α} : y.kept = .valid x ↔ y = .valid x := by
  cases y <;> simp [Stored.kept]

theorem kept_ne_writing (c : α) : y.kept ≠ .writing c := by
  cases y <;> simp [Stored.kept]

end Read

/-! ### A write that completes -/

/-- The end of a write of CONFIG (R213): what it leaves differs from this in the link alone. -/
theorem storeDone_config {s : State} {c : ConfigTables} (agrees : Bool) (hw : s.sst.writer = some .config)
    (hc : s.sst.config = .writing c) :
    Touches [.lnk] { s with
        sst := { s.sst with writer := none, config := if agrees then .valid (configFormat.form c) else .invalid }
        ccl := { s.ccl with configAbsent := !agrees } } (s.storeDone agrees).transmit := by
  unfold storeDone
  rw [hw]
  simp only [hc, Stored.written]
  exact (notify_touch ..).trans (transmit_touch _)

/-- The end of a write of REPORT (R213): what it leaves differs from this in the link alone. -/
theorem storeDone_report {s : State} {r : Report} (agrees : Bool) (hw : s.sst.writer = some .report)
    (hr : s.sst.report = .writing r) :
    Touches [.lnk] { s with
        sst := { s.sst with writer := none, report := if agrees then .valid (reportFormat.form r) else .invalid } }
      (s.storeDone agrees).transmit := by
  unfold storeDone
  rw [hw]
  simp only [hr, Stored.written]
  exact (notify_touch ..).trans (transmit_touch _)

/-- An event of a powered controller. -/
theorem event_powered {s : State} {f : State → State} (h : s.powered = true) : s.event f = (f s).transmit := by
  simp [State.event, h]

/-- What the controller is before the emergency stop input is looked at, at power-on (R216). -/
def State.poweredUp (config report : StoreErrors) (s : State) : State :=
  let store := s.sst.atPowerOn config report
  .powerUp (store.config.content?.getD emptyTables) store.config.content?.isNone store s.pins s.now s.choices s.pending

theorem start_eq (config report : StoreErrors) (s : State) :
    s.start config report = (s.poweredUp config report).emergencyAtPowerOn := rfl

theorem poweredUp_pump (config report : StoreErrors) (s : State) (p : PumpNo) :
    (s.poweredUp config report).pva.pumps[p] = freshPump s.now (s.poweredUp config report).cfg.pumps[p] :=
  Vector.getElem_ofFn ..

/-- At power-on every pump stands still, TRIPPED with the emergency stop input active, else FREE (R130, R216). -/
theorem start_pump (config report : StoreErrors) (s : State) (p : PumpNo) :
    (s.start config report).pva.pumps[p].run = false
      ∧ (s.start config report).pva.pumps[p].state = if s.pins.emergency then .tripped else .free := by
  have hpump := emergencyAtPowerOn_pumps (s.poweredUp config report) p
  rw [poweredUp_pump] at hpump
  rw [start_eq, hpump, show (s.poweredUp config report).pins = s.pins from rfl]
  split <;> exact ⟨rfl, rfl⟩

/-- At power-on LSL has read the emergency stop input, and LOADER STOP is ON where the input is active and enabled (R74, R216). -/
theorem start_lsl (config report : StoreErrors) (s : State) :
    (s.start config report).lsl.emergencyInput = s.pins.emergency
      ∧ (s.start config report).lsl.line = (s.pins.emergency && (s.start config report).cfg.stop.emergencyEnabled) := by
  have hcfg : (s.start config report).cfg = (s.poweredUp config report).cfg := (emergencyAtPowerOn_touch _).cfg
  rw [hcfg, start_eq, emergencyAtPowerOn_lsl, show (s.poweredUp config report).pins = s.pins from rfl]
  split
  next h =>
    rw [evaluated_line, h]
    exact ⟨rfl, by simp [Lsl.emergencyCause, StopCauses.any, State.poweredUp, State.powerUp, Lsl.initial]⟩
  next h => simp [h]; exact ⟨rfl, rfl⟩

/-- The tables in force after power-on, and CONFIG as the store then shows it (R212, R216). -/
theorem start_config (config report : StoreErrors) (s : State) :
    let found := s.sst.config.read configFormat config
    (s.start config report).cfg = found.content?.getD emptyTables ∧ (s.start config report).sst.config = found
      ∧ (s.start config report).ccl.configAbsent = found.content?.isNone :=
  have h := emergencyAtPowerOn_touch (s.poweredUp config report)
  ⟨h.cfg, congrArg Sst.config h.sst, congrArg Ccl.configAbsent h.ccl⟩

/-- Power-on with CONFIG found INVALID: the tables are empty and CONFIG is absent (R212, R216). -/
theorem start_config_absent {config report : StoreErrors} {s : State} (h : s.sst.config.read configFormat config = .invalid) :
    (s.start config report).cfg = emptyTables ∧ (s.start config report).sst.config = .invalid
      ∧ (s.start config report).ccl.configAbsent = true := by
  have hstart := start_config config report s
  rw [h] at hstart
  exact hstart

theorem parseStoreWrite_code (item : StoreItem) : parseStoreWrite (u8 (StoreItem.code item)) = some item := by
  cases item <;> rfl

end Sys2Proof.Machine

namespace Sys2Proof

/- One proof at a time: side by side they take a thread each. -/
set_option Elab.async false

open Machine

/-- STORE_WRITE that is taken writes the store's part alone. -/
theorem storeWrite_taken {s : State} {tag : Tag} {item : StoreItem} {x : Sst} (hs : s.serving)
    (hj : ∀ r, judgeStoreWrite item (s.opened r 0xB2 tag) = taken { s.opened r 0xB2 tag with sst := x }) :
    ∃ t, exec (.storeWrite tag (u8 (StoreItem.code item))) s = .next t
      ∧ { t with lnk := s.lnk } = { s with sst := x } ∧ Quiet s t ∧ Answered s t 0xB2 tag .ok [] := by
  obtain ⟨t, r, hexec, ht, hq, ha⟩ := taken_quietly (c := .storeWrite tag (u8 (StoreItem.code item))) rfl hs
    (f := fun u => { u with sst := x }) (fun r => (anyPhase_act rfl (parseStoreWrite_code item)).trans (hj r)) fun _ => rfl
  exact ⟨t, hexec, ht.lnk_eq s.lnk, hq, ha⟩

/-- STORE_WRITE that is refused changes nothing. -/
theorem storeWrite_refused {s : State} {tag : Tag} {item : StoreItem} {st : Status} (hs : s.serving)
    (hj : ∀ r, judgeStoreWrite item (s.opened r 0xB2 tag) = refuse st (s.opened r 0xB2 tag)) :
    ∃ t, exec (.storeWrite tag (u8 (StoreItem.code item))) s = .next t ∧ Replied s t 0xB2 tag st [] :=
  ⟨_, rfl, replied_of_kept hs fun r => (anyPhase_act rfl (parseStoreWrite_code item)).trans (hj r)⟩

/-- Settles O59: the four parts, each from the store's own laws. -/
theorem storeAndPower : Obligations.StoreAndPower := by
  refine ⟨fun s tag hs => ⟨fun item hbusy => ?busy, fun hidle hnone => ?state, fun hidle => ?config, fun r hidle hslot => ?report⟩,
    fun s agrees hp => ⟨fun hidle hset => ?idle, fun c hw hc => ?configDone, fun r hw hr => ?reportDone⟩, fun s hp => ?loss,
    fun s e f => ?powerOn⟩
  case busy =>
    exact storeWrite_refused hs fun r => if_pos (Option.isSome_iff_ne_none.mpr hbusy)
  case state =>
    exact storeWrite_refused (item := .report) hs fun r => by simp [judgeStoreWrite, State.opened, hidle, hnone]
  case config =>
    exact storeWrite_taken (item := .config) hs fun r => by simp [judgeStoreWrite, State.opened, hidle]
  case report =>
    exact storeWrite_taken (item := .report) hs fun q => by simp [judgeStoreWrite, State.opened, hidle, hslot]
  case idle =>
    have hsame : s.storeDone agrees = s := by simp [State.storeDone, hidle]
    exact congrArg Host.Outcome.next ((event_settled hp hset (congrArg State.lnk hsame)).trans hsame)
  case configDone =>
    exact ⟨_, congrArg Host.Outcome.next (event_powered hp), (storeDone_config agrees hw hc).lnk_eq s.lnk⟩
  case reportDone =>
    exact ⟨_, congrArg Host.Outcome.next (event_powered hp), (storeDone_report agrees hw hr).lnk_eq s.lnk⟩
  case loss =>
    refine ⟨_, congrArg Host.Outcome.next (if_pos hp), ?_, rfl, rfl, fun c => kept_eq_valid, fun r => kept_eq_valid,
      kept_ne_writing, kept_ne_writing⟩
    rw [← hp]
  case powerOn =>
    have ht := emergencyAtPowerOn_touch (s.poweredUp e f)
    have hunheard := emergencyAtPowerOn_unheard (s.poweredUp e f)
    have hpmu := emergencyAtPowerOn_pmu (s := s.poweredUp e f) (fun h => Phase.noConfusion h) rfl
    have hreport : (s.start e f).sst.report = s.sst.report.read reportFormat f := congrArg Sst.report ht.sst
    refine ⟨s.start e f, rfl, ht.powered, ht.pins, ht.now, ht.pending, congrArg Sst.writer ht.sst,
      ⟨fun hnone => start_config_absent (read_invalid hnone), fun x hx => ?config⟩,
      fun hnone => hreport.trans (read_invalid hnone), fun x hx => ?report, congrArg Ccl.phase ht.ccl,
      congrArg Ccl.startCause ht.ccl, congrArg Ccl.callNumber ht.ccl, congrArg Ccl.shipTime ht.ccl, ht.cen, ht.ptr, ht.tsq,
      congrArg Pmu.unit hpmu, congrArg Pmu.permit hpmu, hunheard.lnk rfl, congrArg Rcu.slot hunheard.records, start_pump e f s, start_lsl e f s⟩
    case config =>
      have hread := read_valid (f := configFormat) (e := e) x
      have hstart := start_config e f s
      rw [hx] at hstart
      simp only []
      split
      next hpass =>
        rw [hread.trans (if_pos hpass)] at hstart
        exact hstart
      next hfail =>
        exact start_config_absent (hx ▸ hread.trans (if_neg hfail))
    case report =>
      exact hreport.trans (hx ▸ read_valid x)

end Sys2Proof
end

section
/-! PROOFS. The five moves of a call (R17, R48, R146, R169, R177, R207 to R211). -/

namespace Sys2Proof.Machine

/- One proof at a time: side by side they take a thread each. -/
set_option Elab.async false

open State

/-! ### Entering a phase (R172, R207) -/

theorem enterPhase_ccl (d : Phase) (s : State) : (s.enterPhase d).ccl = { s.ccl with phase := d } :=
  (log_touch ..).ccl.trans (evalPermit_touch ..).ccl

theorem enterPhase_permit (d : Phase) (s : State) :
    (s.enterPhase d).pmu.permit = permitLine d s.pmu.hysteresis s.lsl.line :=
  congrArg Pmu.permit ((log_touch ..).pmu.trans (evalPermit_pmu ..))

theorem enterPhase_records (d : Phase) (s : State) : (s.enterPhase d).rcu.records = s.rcu.records :=
  ((evalPermit_unheard .phase _).trans (log_unheard ..)).records

/-- Outside LOADING, with LOADER PERMIT OFF, a move writes its PHASE entry alone. -/
theorem enterPhase_rcu {d : Phase} {s : State} (hd : d ≠ .loading) (hoff : s.pmu.permit = false) :
    (s.enterPhase d).rcu =
      (State.log .phase [s.ccl.phase.code, d.code] { s with ccl := { s.ccl with phase := d } }).rcu := by
  have hline : permitLine d s.pmu.hysteresis s.lsl.line = s.pmu.permit := by simp [permitLine, hd, hoff]
  unfold enterPhase
  extract_lets from_ _ s₁
  rw [show s₁.evalPermit .phase = s₁ from if_pos hline]

/-! ### The requests of the engine, and what a move asks of it -/

/-- Outside SETUP a recompute begins at once in an idle engine (R41, R43). -/
theorem requestRecompute_idle {s : State} (hphase : s.ccl.phase ≠ .setup) (hidle : s.cen.inFlight = none) :
    s.requestRecompute.cen = { s.cen with inFlight := some (.current (s.snapshot [])), pendingCurrent := false } := by
  simp [requestRecompute, hphase, hidle, beginCurrent]

/-- A reply slot that is replied to is RESERVED no longer; the others stand (R193). -/
theorem reply_isReserved (r : ReplyNo) (st : Status) (b : List Byte) (s : State) (q : ReplyNo) :
    (s.reply r st b).lnk.slots[q].isReserved = (s.lnk.slots[q].isReserved && decide (q ≠ r)) := by
  unfold reply
  split
  next kind tag hr =>
    by_cases h : q = r
    · subst h
      simp [ReplySlot.isReserved]
    · have hne : r.val ≠ q.val := fun e => h (Fin.ext e.symm)
      simp [hne, h]
  next hr =>
    by_cases h : q = r
    · subst h
      have hnot : s.lnk.slots[q].isReserved = false := by
        cases hq : s.lnk.slots[q] with
        | reserved kind tag => exact absurd hq (hr kind tag)
        | _ => rfl
      rw [hnot, Bool.false_and]
    · simp [h]

/-- A reply slot that is not replied to stands as it stood (R193). -/
theorem reply_other {r q : ReplyNo} (h : q ≠ r) (st : Status) (b : List Byte) (s : State) :
    (s.reply r st b).lnk.slots[q] = s.lnk.slots[q] := by
  have hne : r.val ≠ q.val := fun e => h (Fin.ext e.symm)
  unfold reply
  split
  · simp [hne]
  · rfl

theorem abort_isReserved (why : Reason) (x : PredictionRequest) (s : State) (q : ReplyNo) :
    (s.abort why x).lnk.slots[q].isReserved = (s.lnk.slots[q].isReserved && decide (q ≠ x.reply)) := by
  unfold abort
  split <;> exact reply_isReserved ..

theorem abort_other {x : PredictionRequest} {q : ReplyNo} (h : q ≠ x.reply) (why : Reason) (s : State) :
    (s.abort why x).lnk.slots[q] = s.lnk.slots[q] := by
  unfold abort
  split <;> exact reply_other h ..

/-- Aborting a list of predictions leaves RESERVED the slots that none of them awaits (R47, R48). -/
theorem aborted_isReserved (why : Reason) (l : List PredictionRequest) (s : State) (q : ReplyNo) :
    (l.foldl (fun s x => s.abort why x) s).lnk.slots[q].isReserved =
      (s.lnk.slots[q].isReserved && decide (q ∉ l.map (·.reply))) := by
  induction l generalizing s with
  | nil => simp
  | cons x l ih =>
    rw [List.foldl_cons, ih, abort_isReserved, Bool.and_assoc]
    by_cases h : q = x.reply <;> simp [h]

/-- Aborting a list of predictions leaves the slots that none of them awaits as they were (R47, R48). -/
theorem aborted_other (why : Reason) {l : List PredictionRequest} (s : State) {q : ReplyNo} (h : q ∉ l.map (·.reply)) :
    (l.foldl (fun s x => s.abort why x) s).lnk.slots[q] = s.lnk.slots[q] := by
  induction l generalizing s with
  | nil => rfl
  | cons x l ih =>
    obtain ⟨hx, hl⟩ := not_or.mp (mt List.mem_cons.mpr h)
    rw [List.foldl_cons, ih _ hl, abort_other hx]

theorem abandonEngine_cen (s : State) :
    s.abandonEngine.cen = { s.cen with inFlight := none, queue := [], pendingCurrent := false } := by
  have h := (abortAll_touch .aborted s).cen
  unfold abandonEngine
  rw [← h]

theorem abandonEngine_slots (s : State) :
    s.abandonEngine.lnk.slots = (s.cen.requests.foldl (fun s x => s.abort .aborted x) s).lnk.slots := rfl

/-- When the engine's work is abandoned in a request's service, no slot but the request's own stays RESERVED (R48). -/
theorem abandonEngine_opened {s : State} {r : ReplyNo} {kind : Byte} {tag : Tag} (hlink : LinkSafe s)
    (hr : s.lnk.freeSlot = some r) :
    (s.opened r kind tag).abandonEngine.lnk.slots[r] = .reserved kind tag
      ∧ ∀ q : ReplyNo, q ≠ r → (s.opened r kind tag).abandonEngine.lnk.slots[q].isReserved = false := by
  obtain ⟨-, -, -, -, hawaited, -, -⟩ := hlink
  have hfree := (freeSlot_spec hr).1
  have hnotAwaited : r ∉ s.cen.requests.map (·.reply) := by
    rw [← hawaited, hfree]
    exact Bool.false_ne_true
  refine ⟨?_, fun q hq => ?_⟩
  · rw [abandonEngine_slots]
    exact (aborted_other .aborted _ hnotAwaited).trans (Vector.getElem_set_self ..)
  · have hne : r.val ≠ q.val := fun e => hq (Fin.ext e.symm)
    have hopen : (s.opened r kind tag).lnk.slots[q] = s.lnk.slots[q] := by simp [State.opened, hne]
    have hfold := aborted_isReserved .aborted s.cen.requests (s.opened r kind tag) q
    rw [hopen] at hfold
    refine hfold.trans ?_
    cases hres : s.lnk.slots[q].isReserved with
    | false => rfl
    | true => simpa using (hawaited q).mp hres

/-! ### The steps in CHECKING at a move into SETUP (R108, R209) -/

/-- What the removal of the steps in CHECKING does at one slot of their list (R108). -/
def State.clearSlot (why : Reason) (s : State) (k : SlotNo) : State :=
  match s.tsq.slots[k] with
  | none => s
  | some x => s.refuseStep k x why

theorem removeChecking_eq (why : Reason) (s : State) :
    s.removeChecking why = s.tsq.checking.foldl (State.clearSlot why) s := rfl

theorem clearSlot_slot (why : Reason) (s : State) (j k : SlotNo) :
    (s.clearSlot why j).tsq.slots[k] = if k = j then none else s.tsq.slots[k] := by
  unfold clearSlot
  split
  next hj =>
    split
    next h => exact h ▸ hj
    next => rfl
  next x hj =>
    split
    next h =>
      subst h
      simp [refuseStep, State.log]
    next h =>
      have hne : j.val ≠ k.val := fun e => h (Fin.ext e.symm)
      simp [refuseStep, State.log, hne]

/-- The slots of a list are emptied and the others stand. -/
theorem clearSlots_slot (why : Reason) (l : List SlotNo) (s : State) (k : SlotNo) :
    (l.foldl (State.clearSlot why) s).tsq.slots[k] = if k ∈ l then none else s.tsq.slots[k] := by
  induction l generalizing s with
  | nil => rfl
  | cons j l ih =>
    rw [List.foldl_cons, ih, clearSlot_slot]
    by_cases h : k = j <;> simp [h]

/-- With no admitted step, the removal of the steps in CHECKING leaves every slot empty (R88, R108). -/
theorem removeChecking_empties {s : State} (why : Reason) (hqueue : QueueSafe s) (horder : s.tsq.order = []) (k : SlotNo) :
    (s.removeChecking why).tsq.slots[k] = none := by
  obtain ⟨-, -, hadmitted, hreserved, -⟩ := hqueue
  refine (clearSlots_slot why s.tsq.checking s k).trans ?_
  split
  · rfl
  next hnot =>
    rcases hk : s.tsq.slots[k] with _ | x
    · rfl
    · have hno : ¬(s.tsq.holds k fun x => x.state != .checking) = true := by rw [← hadmitted, horder]; exact List.not_mem_nil
      have hyes : ¬(s.tsq.holds k fun x => x.state == .checking) = true := by rwa [← hreserved]
      simp [Tsq.holds, hk] at hno hyes
      exact absurd hno hyes

/-! ### The tanks at the move to READY (R33) -/

/-- A tank's level as TKM brings it up to date: the last delivered where it is metered, else the fixed one (R33). -/
def State.presentLevel (t : TankNo) (s : State) : Nat :=
  if s.cfg.tanks[t].metered then s.tanks[t].level else s.cfg.tanks[t].fixedLevel

theorem figures_tanks (t : TankNo) (n : Nat) (s : State) :
    (s.figures t n).tanks = s.tanks.set t (s.tanks[t].at s.cfg.soundings[t] s.cfg.tanks[t].density n) := by
  unfold figures
  extract_lets was x s₁
  split
  · rfl
  · split
    · exact (faultReport_touch ..).tanks
    · exact (faultWithdraw_touch ..).tanks

theorem updated_tank (l : List TankNo) (hl : l.Nodup) (s : State) (k : TankNo) :
    (l.foldl (fun s t => s.figures t (if s.cfg.tanks[t].metered then s.tanks[t].level else s.cfg.tanks[t].fixedLevel)) s).tanks[k] =
      if k ∈ l then s.tanks[k].at s.cfg.soundings[k] s.cfg.tanks[k].density (s.presentLevel k) else s.tanks[k] := by
  induction l generalizing s with
  | nil => rfl
  | cons t l ih =>
    obtain ⟨ht, hl⟩ := List.nodup_cons.mp hl
    have hfig := figures_touch t (s.presentLevel t) s
    have htanks := figures_tanks t (s.presentLevel t) s
    refine (ih hl (s.figures t (s.presentLevel t))).trans ?_
    generalize s.figures t (s.presentLevel t) = u at hfig htanks
    rw [presentLevel, hfig.cfg]
    by_cases hk : k = t
    · subst hk
      simp [ht, htanks]
    · have hne : t.val ≠ k.val := fun e => hk (Fin.ext e.symm)
      have hsame : u.tanks[k] = s.tanks[k] := by simp [htanks, hne]
      rw [hsame]
      simp [presentLevel, hk]

/-- TKM brings every tank's figures up to date (R33). -/
theorem updateTanks_tank (s : State) (k : TankNo) :
    s.updateTanks.tanks[k] = s.tanks[k].at s.cfg.soundings[k] s.cfg.tanks[k].density (s.presentLevel k) :=
  (updated_tank _ (List.nodup_finRange 16) s k).trans (if_pos (List.mem_finRange k))

/-! ### The five moves -/

/-- The phase is entered with the call time at 0 and the recompute is requested: what the move to READY does behind the update of the tanks (R208). -/
def State.readied (s : State) : State := (s.zeroCallTime.enterPhase .ready).requestRecompute

theorem moveReady_eq (s : State) : s.moveReady = s.updateTanks.readied := rfl

theorem readied_touch (s : State) : Touches [.ccl, .rcu, .lnk, .pmu, .cen] s s.readied :=
  ((touch_ccl s _).seq ((enterPhase_touch ..).seq (requestRecompute_touch _))).mono

theorem readied_ccl (s : State) : s.readied.ccl = { s.ccl with phase := .ready, callTime := 0 } :=
  (requestRecompute_touch _).ccl.trans (enterPhase_ccl ..)

theorem readied_permit (s : State) : s.readied.pmu.permit = false :=
  (congrArg Pmu.permit (requestRecompute_touch _).pmu).trans (enterPhase_permit ..)

theorem readied_cen {s : State} (hidle : s.cen.inFlight = none) :
    ∃ snap, s.readied.cen = { s.cen with inFlight := some (.current snap), pendingCurrent := false } := by
  have hcen : (s.zeroCallTime.enterPhase .ready).cen = s.cen := ((touch_ccl s _).seq (enterPhase_touch ..)).cen
  have hphase : (s.zeroCallTime.enterPhase .ready).ccl.phase ≠ .setup := by rw [enterPhase_ccl]; exact Phase.noConfusion
  have h := requestRecompute_idle hphase (hcen ▸ hidle)
  rw [hcen] at h
  exact ⟨_, h⟩

theorem moveReady_touch (s : State) : Touches [.ccl, .tanks, .lsl, .rcu, .lnk, .pmu, .cen] s s.moveReady :=
  ((updateTanks_touch s).seq (readied_touch s.updateTanks)).mono

theorem moveReady_ccl (s : State) : s.moveReady.ccl = { s.ccl with phase := .ready, callTime := 0 } := by
  rw [moveReady_eq, readied_ccl, (updateTanks_touch s).ccl]

theorem moveReady_tank (s : State) (k : TankNo) :
    s.moveReady.tanks[k] = s.tanks[k].at s.cfg.soundings[k] s.cfg.tanks[k].density (s.presentLevel k) := by
  have h : s.moveReady.tanks = s.updateTanks.tanks := (readied_touch s.updateTanks).tanks
  simp only [h]
  exact updateTanks_tank s k

theorem moveReady_permit (s : State) : s.moveReady.pmu.permit = false := by
  rw [moveReady_eq]
  exact readied_permit _

theorem moveReady_cen {s : State} (hidle : s.cen.inFlight = none) :
    ∃ snap, s.moveReady.cen = { s.cen with inFlight := some (.current snap), pendingCurrent := false } := by
  have hcen := (updateTanks_touch s).cen
  obtain ⟨snap, h⟩ := readied_cen (s := s.updateTanks) ((congrArg Cen.inFlight hcen).trans hidle)
  exact ⟨snap, h.trans (by rw [hcen])⟩

theorem moveBack_touch (s : State) : Touches [.ccl, .cen, .tsq, .rcu, .lnk, .pmu] s s.moveBack :=
  ((abandonEngine_touch s).seq ((removeChecking_touch ..).seq (enterPhase_touch ..))).mono

theorem moveBack_ccl (s : State) : s.moveBack.ccl = { s.ccl with phase := .setup } := by
  refine (enterPhase_ccl ..).trans ?_
  rw [((abandonEngine_touch s).seq (removeChecking_touch ..)).ccl]

theorem moveBack_cen (s : State) :
    s.moveBack.cen = { s.cen with inFlight := none, queue := [], pendingCurrent := false } :=
  ((removeChecking_touch ..).seq (enterPhase_touch ..)).cen.trans (abandonEngine_cen s)

theorem moveBack_slots (s : State) : s.moveBack.lnk.slots = s.abandonEngine.lnk.slots :=
  (enterPhase_steady ..).slots.trans (congrArg Lnk.slots (removeChecking_touch ..).lnk)

theorem moveBack_empties {s : State} (hqueue : QueueSafe s) (horder : s.tsq.order = []) (k : SlotNo) :
    s.moveBack.tsq.slots[k] = none := by
  have hab := abandonEngine_touch s
  have h : s.moveBack.tsq = (s.abandonEngine.removeChecking .aborted).tsq := (enterPhase_touch ..).tsq
  rw [h]
  refine (clearSlots_slot .aborted s.abandonEngine.tsq.checking s.abandonEngine k).trans ?_
  rw [hab.tsq]
  exact (clearSlots_slot .aborted s.tsq.checking s k).symm.trans (removeChecking_empties .aborted hqueue horder k)

theorem moveLoading_touch (s : State) : Touches [.ccl, .ptr, .rcu, .lnk, .pmu, .cen] s s.moveLoading :=
  ((touch_ptr s _).seq ((touch_rcu _ _).seq ((enterPhase_touch ..).seq (requestRecompute_touch _)))).mono

theorem moveLoading_ccl (s : State) : s.moveLoading.ccl = { s.ccl with phase := .loading } :=
  (requestRecompute_touch _).ccl.trans (enterPhase_ccl ..)

theorem moveLoading_ptr (s : State) : s.moveLoading.ptr = s.takeStart.ptr :=
  ((touch_rcu s.takeStart _).seq ((enterPhase_touch ..).seq (requestRecompute_touch _))).ptr

theorem moveLoading_records (s : State) : s.moveLoading.rcu.records = s.takeStart.takeArrival.rcu.records :=
  (congrArg Rcu.records (requestRecompute_touch _).rcu).trans (enterPhase_records ..)

theorem moveLoading_permit (s : State) : s.moveLoading.pmu.permit = (s.pmu.hysteresis && !s.lsl.line) :=
  (congrArg Pmu.permit (requestRecompute_touch _).pmu).trans (enterPhase_permit ..)

theorem moveFinal_touch (s : State) : Touches [.ccl, .rcu, .lnk, .pmu, .cen] s s.moveFinal :=
  ((enterPhase_touch ..).seq (requestRecompute_touch _)).mono

theorem moveFinal_ccl (s : State) : s.moveFinal.ccl = { s.ccl with phase := .final } :=
  (requestRecompute_touch _).ccl.trans (enterPhase_ccl ..)

theorem moveFinal_permit (s : State) : s.moveFinal.pmu.permit = false :=
  (congrArg Pmu.permit (requestRecompute_touch _).pmu).trans (enterPhase_permit ..)

/-- The records, the pours, the queue and the plant as a new call finds them (R211). -/
def State.renewed (s : State) : State :=
  { s with rcu := s.rcu.newCall, ptr := .initial, tsq := { s.tsq with lastNumber := 0 }, pva := s.pva.newCall }

theorem renewed_touch (s : State) : Touches [.rcu, .ptr, .tsq, .pva] s s.renewed :=
  (touch_rcu s s.rcu.newCall).seq ((touch_ptr _ .initial).seq
    ((touch_tsq _ { s.tsq with lastNumber := 0 }).seq (touch_pva _ s.pva.newCall)))

/-- What the start of a new call does behind the engine's abandoned work and the cleared pace (R211). -/
def State.newlyCalled (s : State) : State := s.renewed.zeroCallTime.enterPhase .setup

theorem moveNewCall_eq (s : State) : s.moveNewCall = s.abandonEngine.clearPace.newlyCalled := rfl

theorem newlyCalled_touch (s : State) : Touches [.ccl, .ptr, .rcu, .lnk, .tsq, .pva, .pmu] s s.newlyCalled :=
  ((renewed_touch s).seq ((touch_ccl s.renewed _).seq (enterPhase_touch .setup s.renewed.zeroCallTime))).mono

theorem newlyCalled_ccl (s : State) : s.newlyCalled.ccl = { s.ccl with phase := .setup, callTime := 0 } := enterPhase_ccl ..

theorem newlyCalled_ptr (s : State) : s.newlyCalled.ptr = .initial := (enterPhase_touch ..).ptr

theorem newlyCalled_tsq (s : State) : s.newlyCalled.tsq = { s.tsq with lastNumber := 0 } := (enterPhase_touch ..).tsq

theorem newlyCalled_pva (s : State) : s.newlyCalled.pva = s.pva.newCall := (enterPhase_touch ..).pva

theorem newlyCalled_records (s : State) : s.newlyCalled.rcu.records = s.rcu.newCall.records := enterPhase_records ..

theorem newlyCalled_slots (s : State) : s.newlyCalled.lnk.slots = s.lnk.slots := (enterPhase_steady ..).slots

/-- With LOADER PERMIT OFF the new call's log holds its own move alone (R207, R211). -/
theorem newlyCalled_log {s : State} (hphase : s.ccl.phase = .final) (hoff : s.pmu.permit = false) :
    s.newlyCalled.rcu.log = [⟨1, 0, .phase, #v[3, 0, 0, 0]⟩] := by
  have hrcu := enterPhase_rcu (d := .setup) (s := s.renewed.zeroCallTime) (fun h => Phase.noConfusion h) hoff
  refine (congrArg Rcu.log hrcu).trans ?_
  simp only [State.log, zeroCallTime, renewed, hphase]
  rfl

theorem moveNewCall_touch (s : State) :
    Touches [.ccl, .ptr, .rcu, .lnk, .cen, .tsq, .pva, .lsl, .pmu] s s.moveNewCall :=
  ((abandonEngine_touch s).seq ((clearPace_touch _).seq (newlyCalled_touch _))).mono

/-- What stands before the new call's own work: the engine's work abandoned, pace lagging cleared (R48, R211). -/
theorem cleared_touch (s : State) : Touches [.lnk, .cen, .lsl] s s.abandonEngine.clearPace :=
  ((abandonEngine_touch s).seq (clearPace_touch _)).mono

theorem moveNewCall_ccl (s : State) : s.moveNewCall.ccl = { s.ccl with phase := .setup, callTime := 0 } := by
  rw [moveNewCall_eq, newlyCalled_ccl, (cleared_touch s).ccl]

theorem moveNewCall_records (s : State) : s.moveNewCall.rcu.records = s.rcu.newCall.records := by
  rw [moveNewCall_eq, newlyCalled_records, (cleared_touch s).rcu]

theorem moveNewCall_log {s : State} (hphase : s.ccl.phase = .final) (hoff : s.pmu.permit = false) :
    s.moveNewCall.rcu.log = [⟨1, 0, .phase, #v[3, 0, 0, 0]⟩] := by
  have h := cleared_touch s
  exact newlyCalled_log (by rw [h.ccl, hphase]) (by rw [h.pmu, hoff])

theorem moveNewCall_cen (s : State) :
    s.moveNewCall.cen = { s.cen with inFlight := none, queue := [], pendingCurrent := false } :=
  ((clearPace_touch _).seq (newlyCalled_touch _)).cen.trans (abandonEngine_cen s)

theorem moveNewCall_paceLagging (s : State) : s.moveNewCall.lsl.paceLagging = false :=
  (congrArg Lsl.paceLagging (newlyCalled_touch s.abandonEngine.clearPace).lsl).trans rfl

theorem moveNewCall_slots (s : State) : s.moveNewCall.lnk.slots = s.abandonEngine.lnk.slots :=
  (newlyCalled_slots _).trans (congrArg Lnk.slots (clearPace_touch _).lnk)

/-! ### The judgement of PHASE_SET -/

theorem parsePhase_code (d : Phase) : ofCode Phase.all (field (u8 d.code) 0 1) = some d := by cases d <;> rfl

section Judge
variable {s : State}

theorem judge_ready (hphase : s.ccl.phase = .setup) (hvalid : s.cfg.validate = none) :
    judgePhaseSet .ready s = (s.moveReady, some ⟨.ok, [0, 1]⟩) := by
  unfold judgePhaseSet
  rw [hphase]
  simp only [hvalid, moved, hphase]
  rfl

theorem judge_back (hphase : s.ccl.phase = .ready) (horder : s.tsq.order = []) :
    judgePhaseSet .setup s = (s.moveBack, some ⟨.ok, [1, 0]⟩) := by
  unfold judgePhaseSet
  rw [hphase]
  simp only [horder, moved, hphase]
  rfl

theorem judge_loading (hphase : s.ccl.phase = .ready) :
    judgePhaseSet .loading s = (s.moveLoading, some ⟨.ok, [1, 2]⟩) := by
  unfold judgePhaseSet
  rw [hphase]
  simp only [moved, hphase]
  rfl

theorem judge_final (hphase : s.ccl.phase = .loading) (hidle : s.ptr.idle = true) :
    judgePhaseSet .final s = (s.moveFinal, some ⟨.ok, [2, 3]⟩) := by
  unfold judgePhaseSet
  rw [hphase]
  simp only [hidle, moved, hphase]
  rfl

theorem judge_newCall (hphase : s.ccl.phase = .final) (hempty : s.tsq.isEmpty = true) :
    judgePhaseSet .setup s = (s.moveNewCall, some ⟨.ok, [3, 0]⟩) := by
  unfold judgePhaseSet
  rw [hphase]
  simp only [hempty, moved, hphase]
  rfl

/-- A move that is none of the five is refused with PHASE (R207). -/
theorem judge_refused {d : Phase} (h : (s.ccl.phase, d) ∉
      [(.setup, .ready), (.ready, .setup), (.ready, .loading), (.loading, .final), (Phase.final, Phase.setup)]) :
    judgePhaseSet d s = refuse .phase s := by
  unfold judgePhaseSet
  split
  next hp => simp [hp] at h
  next hp => simp [hp] at h
  next hp => simp [hp] at h
  next hp => simp [hp] at h
  next hp => simp [hp] at h
  next => rfl

/-- A vector of two as its entries. -/
theorem vector_two_toList {α : Type} (v : Vector α 2) : v.toList = [v[0], v[1]] := by
  refine List.ext_getElem (by simp) fun i hi _ => ?_
  have hi2 : i < 2 := by simpa using hi
  match i, hi2 with
  | 0, _ | 1, _ => simp

theorem ptr_idle_iff (p : Ptr) : p.idle = true ↔ p.loaders[0] = none ∧ p.loaders[1] = none := by
  unfold Ptr.idle
  rw [show p.loaders.toList = [p.loaders[0], p.loaders[1]] from vector_two_toList p.loaders]
  simp

theorem tsq_isEmpty_iff (q : Tsq) : q.isEmpty = true ↔ ∀ k : SlotNo, q.slots[k] = none := by
  unfold Tsq.isEmpty
  simp [Fin.forall_iff]

end Judge

/-! ### A request served whose work is to abandon the engine's -/

/-- The slots after a request that is answered at once, whose judgement leaves its own slot RESERVED (R193). -/
theorem served_slots {s t : State} {r : ReplyNo} {kind : Byte} {tag : Tag} {st : Status} {body : List Byte}
    {judge : ReplyNo → State → Judged} (hs : s.serving) (hr : s.lnk.freeSlot = some r)
    (hj : judge r (s.opened r kind tag) = (t, some ⟨st, body⟩)) (hown : t.lnk.slots[r] = .reserved kind tag) :
    (s.serve kind tag judge).lnk.slots = t.lnk.slots.set r (.filled kind tag st body) := by
  rw [serve_eq hs.1 hr, hj]
  simp only []
  rw [reply_reserved hown]
  exact (transmit_link _).2.1

/-- A request that abandons the engine's work and is answered at once leaves no slot RESERVED, and fills its own (R48, R193). -/
theorem served_abandoning {s t : State} {r : ReplyNo} {kind : Byte} {tag : Tag} {st : Status} {body : List Byte}
    {judge : ReplyNo → State → Judged} (hs : s.serving) (hlink : LinkSafe s) (hr : s.lnk.freeSlot = some r)
    (hj : judge r (s.opened r kind tag) = (t, some ⟨st, body⟩))
    (hslots : t.lnk.slots = (s.opened r kind tag).abandonEngine.lnk.slots) :
    (∀ q : ReplyNo, (s.serve kind tag judge).lnk.slots[q].isReserved = false)
      ∧ (s.serve kind tag judge).lnk.slots[r] = .filled kind tag st body := by
  obtain ⟨hown, hothers⟩ := abandonEngine_opened (kind := kind) (tag := tag) hlink hr
  rw [← hslots] at hown
  have hset := served_slots hs hr hj hown
  rw [hset]
  refine ⟨fun q => ?_, Vector.getElem_set_self ..⟩
  by_cases hq : q = r
  · subst hq
    exact congrArg ReplySlot.isReserved (Vector.getElem_set_self ..)
  · have hne : r.val ≠ q.val := fun e => hq (Fin.ext e.symm)
    have hsame : (t.lnk.slots.set r (.filled kind tag st body))[q] = t.lnk.slots[q] := Vector.getElem_set_ne _ _ hne
    rw [hsame, hslots]
    exact hothers q hq

end Sys2Proof.Machine

namespace Sys2Proof

/- One proof at a time: side by side they take a thread each. -/
set_option Elab.async false

open Machine

section Moves
variable {s : State} {tag : Tag} {d : Phase}

/-- A move that is refused, or found to have invalid tables, changes nothing (R207, R208). -/
theorem phaseSet_replied (hs : s.serving) {st : Status} {body : List Byte}
    (hj : ∀ r, judgePhaseSet d (s.opened r 0xB1 tag) = (s.opened r 0xB1 tag, some ⟨st, body⟩)) :
    ∃ t, exec (.phaseSet tag (u8 d.code)) s = .next t ∧ Replied s t 0xB1 tag st body :=
  ⟨_, rfl, replied_of_kept hs fun r => (anyPhase_act rfl (parsePhase_code d)).trans (hj r)⟩

/-- A move that is taken, and makes notices at most on the link. -/
theorem phaseSet_taken (hs : s.serving) {f : State → State} {body : List Byte}
    (hj : ∀ r, judgePhaseSet d (s.opened r 0xB1 tag) = (f (s.opened r 0xB1 tag), some ⟨.ok, body⟩))
    (hst : ∀ u, Steady u (f u)) :
    ∃ t r, exec (.phaseSet tag (u8 d.code)) s = .next t ∧ Touches [.lnk] (f (s.opened r 0xB1 tag)) t
      ∧ Answered s t 0xB1 tag .ok body :=
  taken_of_judge (c := .phaseSet tag (u8 d.code)) rfl hs (f := f)
    (fun r => (anyPhase_act rfl (parsePhase_code d)).trans (hj r)) fun _ => hst _

/-- A move into SETUP: no slot stays RESERVED, and the reply fills the slot that was the lowest-numbered FREE one (R48, log entry 37). -/
theorem phaseSet_abandoning (hs : s.serving) (hlink : LinkSafe s) {f : State → State} {body : List Byte}
    (hj : ∀ r, judgePhaseSet d (s.opened r 0xB1 tag) = (f (s.opened r 0xB1 tag), some ⟨.ok, body⟩))
    (hslots : ∀ u, (f u).lnk.slots = u.abandonEngine.lnk.slots) :
    ∃ t r, exec (.phaseSet tag (u8 d.code)) s = .next t ∧ Touches [.lnk] (f (s.opened r 0xB1 tag)) t
      ∧ (∀ q : ReplyNo, t.lnk.slots[q].isReserved = false)
      ∧ ∀ q, s.lnk.freeSlot = some q → t.lnk.slots[q] = .filled 0xB1 tag .ok body := by
  obtain ⟨r, hr⟩ := hs.slot
  have hjudge := (anyPhase_act (act := judgePhaseSet) rfl (parsePhase_code d)).trans (hj r)
  obtain ⟨hnone, hown⟩ := served_abandoning (kind := 0xB1) (tag := tag)
    (judge := fun _ => anyPhase (lengthIs 1 (u8 d.code)) (ofCode Phase.all (field (u8 d.code) 0 1)) judgePhaseSet)
    hs hlink hr hjudge (hslots _)
  exact ⟨_, r, rfl, serve_touch hs.1 hr hjudge, hnone, fun q hq => Option.some.inj (hr.symm.trans hq) ▸ hown⟩

end Moves

/-- Settles O58: each move as its judgement makes it, the refusals from its guards. -/
theorem phaseMoves : Obligations.PhaseMoves := by
  intro s tag hs
  refine ⟨fun item index hphase hinvalid => ?invalid, fun hphase hvalid hidle => ?ready, fun hphase horder => ?inUse,
    fun hphase horder hqueue hlink => ?back, fun hphase => ?loading, fun hphase hpouring => ?pouring,
    fun hphase hfirst hsecond => ?final, fun k hphase hheld => ?held, fun hphase hempty hoff hqueue hlink => ?newCall,
    fun d hd => ?refused⟩
  case invalid =>
    refine phaseSet_replied hs fun r => ?_
    simp [judgePhaseSet, State.opened, hphase, hinvalid]
  case ready =>
    obtain ⟨t, r, hexec, ht, ha⟩ := phaseSet_taken (tag := tag) hs (f := State.moveReady)
      (fun r => judge_ready hphase hvalid) moveReady_steady
    obtain ⟨snap, hcen⟩ := moveReady_cen (s := s.opened r 0xB1 tag) hidle
    refine ⟨t, snap, hexec, ht.ccl.trans (moveReady_ccl _), fun k => ?_, (congrArg Pmu.permit ht.pmu).trans (moveReady_permit _),
      ht.cen.trans hcen, ((opened_touch r 0xB1 tag s).seq ((moveReady_touch _).seq ht)).mono, ha⟩
    exact (congrArg (fun v : Vector TankRun 16 => v[k]) ht.tanks).trans (moveReady_tank _ k)
  case inUse =>
    refine phaseSet_replied hs fun r => ?_
    simp [judgePhaseSet, State.opened, hphase, horder]
    rfl
  case back =>
    obtain ⟨t, r, hexec, ht, hnone, hown⟩ := phaseSet_abandoning (tag := tag) hs hlink (f := State.moveBack)
      (fun r => judge_back hphase horder) moveBack_slots
    refine ⟨t, hexec, ht.ccl.trans (moveBack_ccl _), ht.cen.trans (moveBack_cen _), fun k => ?_, hnone, hown,
      ((opened_touch r 0xB1 tag s).seq ((moveBack_touch _).seq ht)).mono⟩
    exact (congrArg (fun q : Tsq => q.slots[k]) ht.tsq).trans (moveBack_empties (s := s.opened r 0xB1 tag) hqueue horder k)
  case loading =>
    obtain ⟨t, r, hexec, ht, ha⟩ := phaseSet_taken (tag := tag) hs (f := State.moveLoading)
      (fun r => judge_loading hphase) moveLoading_steady
    have hrecords := (congrArg Rcu.records ht.rcu).trans (moveLoading_records (s.opened r 0xB1 tag))
    have hvolumes (k : TankNo) : s.volumes[k] = s.tanks[k].volume := Vector.getElem_ofFn ..
    refine ⟨t, hexec, ht.ccl.trans (moveLoading_ccl _), ⟨s.volumes, hvolumes, ht.ptr.trans (moveLoading_ptr _)⟩,
      congrArg Rcu.arrival hrecords, fun k => ?_, (congrArg Pmu.permit ht.pmu).trans (moveLoading_permit _),
      ((opened_touch r 0xB1 tag s).seq ((moveLoading_touch _).seq ht)).mono, ha⟩
    exact (congrArg (fun x : Rcu => x.totals[k]) hrecords).trans (Vector.getElem_ofFn ..)
  case pouring =>
    have hidle : ¬ s.ptr.idle = true := fun h => by
      obtain ⟨hfirst, hsecond⟩ := (ptr_idle_iff s.ptr).mp h
      exact hpouring.elim (absurd hfirst) (absurd hsecond)
    refine phaseSet_replied hs fun r => ?_
    simp [judgePhaseSet, State.opened, hphase, hidle]
    rfl
  case final =>
    have hidle := (ptr_idle_iff s.ptr).mpr ⟨hfirst, hsecond⟩
    obtain ⟨t, r, hexec, ht, ha⟩ := phaseSet_taken (tag := tag) hs (f := State.moveFinal)
      (fun r => judge_final hphase hidle) moveFinal_steady
    exact ⟨t, hexec, ht.ccl.trans (moveFinal_ccl _), (congrArg Pmu.permit ht.pmu).trans (moveFinal_permit _),
      ((opened_touch r 0xB1 tag s).seq ((moveFinal_touch _).seq ht)).mono, ha⟩
  case held =>
    have hempty : ¬ s.tsq.isEmpty = true := fun h => hheld ((tsq_isEmpty_iff s.tsq).mp h k)
    refine phaseSet_replied hs fun r => ?_
    simp [judgePhaseSet, State.opened, hphase, hempty]
    rfl
  case newCall =>
    obtain ⟨t, r, hexec, ht, hnone, hown⟩ := phaseSet_abandoning (tag := tag) hs hlink (f := State.moveNewCall)
      (fun r => judge_newCall hphase ((tsq_isEmpty_iff s.tsq).mpr hempty)) moveNewCall_slots
    have hptr := ht.ptr.trans (newlyCalled_ptr _)
    have hcen := ht.cen.trans (moveNewCall_cen _)
    have hrecords := (congrArg Rcu.records ht.rcu).trans (moveNewCall_records (s.opened r 0xB1 tag))
    refine ⟨t, hexec, ht.ccl.trans (moveNewCall_ccl _), congrArg Ptr.plan hptr,
      fun h => (congrArg (fun p : Ptr => p.holds[h]) hptr).trans (Vector.getElem_replicate ..), congrArg Ptr.start hptr,
      (congrArg Rcu.log ht.rcu).trans (moveNewCall_log hphase hoff), congrArg Rcu.arrival hrecords, congrArg Rcu.slot hrecords,
      (congrArg Rcu.memoryBands hrecords).trans rfl, congrArg Cen.inFlight hcen, (congrArg Cen.current hcen).trans rfl,
      congrArg Tsq.lastNumber (ht.tsq.trans (newlyCalled_tsq _)), congrArg Pva.grants (ht.pva.trans (newlyCalled_pva _)),
      (congrArg Lsl.paceLagging ht.lsl).trans (moveNewCall_paceLagging _), hnone, hown,
      ((opened_touch r 0xB1 tag s).seq ((moveNewCall_touch _).seq ht)).mono⟩
  case refused => exact phaseSet_replied hs fun r => judge_refused hd

end Sys2Proof
end

section
/-! PROOFS. What the operations on one step of the transfer queue leave of the others and of the arbiter's candidates (R95, R96, R101 to R104, R114). -/

namespace Sys2Proof.Machine

/- One proof at a time: side by side they take a thread each. -/
set_option Elab.async false

open State

/-- What a step keeps from its admission to its end (R87). -/
def StepRec.plan (x : StepRec) : Nat × StepKind × Option TankNo × Option TankNo × Nat :=
  (x.number, x.kind, x.source, x.dest, x.target)

theorem plan_number {x y : StepRec} (h : x.plan = y.plan) : x.number = y.number := congrArg Prod.fst h

theorem plan_targetTank {x y : StepRec} (h : x.plan = y.plan) : x.targetTank = y.targetTank := by
  simp only [StepRec.plan, Prod.mk.injEq] at h
  obtain ⟨-, hkind, hsource, hdest, -⟩ := h
  simp [StepRec.targetTank, hkind, hsource, hdest]

theorem plan_names {x y : StepRec} (h : x.plan = y.plan) (t : TankNo) : x.names t = y.names t := by
  simp only [StepRec.plan, Prod.mk.injEq] at h
  obtain ⟨-, -, hsource, hdest, -⟩ := h
  simp [StepRec.names, StepRec.tanks, hsource, hdest]

/-- Of the queue only the step in one slot may change its state or leave, and PVA's candidates are those it had and steps WAITING in other slots. -/
structure ActsOn (k : SlotNo) (s t : State) : Prop where
  others : ∀ j : SlotNo, j ≠ k → t.tsq.slots[j] = s.tsq.slots[j]
  own : ∀ y, t.tsq.slots[k] = some y → ∃ x, s.tsq.slots[k] = some x ∧ x.plan = y.plan
  order : ∀ j : SlotNo, j ≠ k → j ∈ s.tsq.order → j ∈ t.tsq.order
  offered : ∀ c ∈ t.pva.candidates, (∃ b ∈ s.pva.candidates, b.step = c.step)
    ∨ ∃ (i : SlotNo) (x : StepRec), i ≠ k ∧ s.tsq.slots[i] = some x ∧ x.state = .waiting ∧ x.number = c.step

namespace ActsOn

variable {k : SlotNo} {s t u : State}

theorem of_same (hq : t.tsq = s.tsq) (hc : t.pva.candidates = s.pva.candidates) : ActsOn k s t where
  others j _ := by rw [hq]
  own y hy := ⟨y, by rwa [hq] at hy, rfl⟩
  order j _ hj := by rwa [hq]
  offered c hmem := .inl ⟨c, hc ▸ hmem, rfl⟩

theorem refl (s : State) : ActsOn k s s := of_same rfl rfl

theorem trans (h : ActsOn k s t) (g : ActsOn k t u) : ActsOn k s u where
  others j hj := (g.others j hj).trans (h.others j hj)
  own z hz := by
    obtain ⟨y, hy, hplan⟩ := g.own z hz
    obtain ⟨x, hx, hplan'⟩ := h.own y hy
    exact ⟨x, hx, hplan'.trans hplan⟩
  order j hj hmem := g.order j hj (h.order j hj hmem)
  offered c hc := by
    rcases g.offered c hc with ⟨b, hb, hstep⟩ | ⟨i, x, hi, hx, hwait, hnumber⟩
    · rcases h.offered b hb with ⟨a, ha, hstep'⟩ | ⟨i, x, hi, hx, hwait, hnumber⟩
      · exact .inl ⟨a, ha, hstep'.trans hstep⟩
      · exact .inr ⟨i, x, hi, hx, hwait, hnumber.trans hstep⟩
    · exact .inr ⟨i, x, hi, (h.others i hi).symm.trans hx, hwait, hnumber⟩

theorem ite {c : Prop} [Decidable c] (h : ActsOn k s t) (g : ActsOn k s u) : ActsOn k s (if c then t else u) := by
  split <;> assumption

/-- An operation on other parts than the queue and the plant. -/
theorem of_touches {l : List Part} (h : Touches l s t) (hq : Part.tsq ∉ l := by decide) (hp : Part.pva ∉ l := by decide) :
    ActsOn k s t := of_same (h.tsq hq) (congrArg Pva.candidates (h.pva hp))

/-- An empty slot stays empty. -/
theorem empty (h : ActsOn k s t) {j : SlotNo} (hj : s.tsq.slots[j] = none) : t.tsq.slots[j] = none := by
  by_cases hjk : j = k
  · subst hjk
    rcases ht : t.tsq.slots[j] with _ | y
    · rfl
    · obtain ⟨x, hx, -⟩ := h.own y ht
      rw [hj] at hx
      cases hx
  · rw [h.others j hjk, hj]

/-- Every held step was held before, under the same plan. -/
theorem held (h : ActsOn k s t) {j : SlotNo} {y : StepRec} (hy : t.tsq.slots[j] = some y) :
    ∃ x, s.tsq.slots[j] = some x ∧ x.plan = y.plan := by
  by_cases hjk : j = k
  · subst hjk
    exact h.own y hy
  · exact ⟨y, (h.others j hjk).symm.trans hy, rfl⟩

end ActsOn

/-! ### Offering the candidates (R95) -/

theorem mem_offerOne {grants number : Nat} {stale : Bool} {l : List Candidate} {c : Candidate}
    (h : c ∈ offerOne grants number stale l) : (∃ b ∈ l, b.step = c.step) ∨ c.step = number := by
  unfold offerOne at h
  split at h
  · obtain ⟨b, hb, rfl⟩ := List.mem_map.mp h
    refine .inl ⟨b, hb, ?_⟩
    split <;> rfl
  · split at h
    · exact .inl ⟨c, h, rfl⟩
    · rcases List.mem_append.mp h with hc | hc
      · exact .inl ⟨c, hc, rfl⟩
      · rw [List.mem_singleton.mp hc]
        exact .inr rfl

/-- The candidates after an offer are those before it and WAITING steps. -/
theorem offer_candidates (s : State) : ∀ c ∈ s.offer.pva.candidates, (∃ b ∈ s.pva.candidates, b.step = c.step)
    ∨ ∃ (i : SlotNo) (x : StepRec), s.tsq.slots[i] = some x ∧ x.state = .waiting ∧ x.number = c.step := by
  unfold offer
  generalize s.tsq.order = l
  induction l generalizing s with
  | nil => exact fun c hc => .inl ⟨c, hc, rfl⟩
  | cons k l ih =>
    rw [List.foldl_cons]
    split
    next x hx =>
      split
      next hwait =>
        intro c hc
        rcases ih _ c hc with ⟨b, hb, hstep⟩ | h
        · rcases mem_offerOne hb with ⟨a, ha, hstep'⟩ | hnumber
          · exact .inl ⟨a, ha, hstep'.trans hstep⟩
          · exact .inr ⟨k, x, hx, hwait, hnumber.symm.trans hstep⟩
        · exact .inr h
      next => exact ih s
    next => exact ih s

/-- An offer with no step WAITING in the slot. -/
theorem offer_actsOn {k : SlotNo} {s : State} (hk : ∀ x, s.tsq.slots[k] = some x → x.state ≠ .waiting) : ActsOn k s s.offer where
  others j _ := by rw [(offer_touch s).tsq]
  own y hy := ⟨y, by rwa [(offer_touch s).tsq] at hy, rfl⟩
  order j _ hj := by rwa [(offer_touch s).tsq]
  offered c hc := (offer_candidates s c hc).imp_right fun ⟨i, x, hx, hwait, hnumber⟩ =>
    ⟨i, x, fun e => hk x (e ▸ hx) hwait, hx, hwait, hnumber⟩

theorem leaveWaiting_actsOn {k : SlotNo} {s : State} (n : Nat) (hk : ∀ x, s.tsq.slots[k] = some x → x.state ≠ .waiting) :
    ActsOn k s (s.leaveWaiting n) := by
  have hremove : ActsOn k s { s with pva := { s.pva with
      candidates := s.pva.candidates.filter fun c => c.step != n
      pin := if s.pva.pin = some n then none else s.pva.pin } } :=
    ⟨fun _ _ => rfl, fun y hy => ⟨y, hy, rfl⟩, fun _ _ h => h, fun c hc => .inl ⟨c, List.mem_of_mem_filter hc, rfl⟩⟩
  exact hremove.trans (offer_actsOn hk)

/-! ### A step's own slot -/

section Slot
variable {k : SlotNo} {x : StepRec} {s : State}

theorem enterState_slot : (s.enterState k x).tsq.slots[k] = some x := by
  have h : (s.enterState k x).tsq = (s.setStep k x).tsq := (notify_touch ..).tsq
  rw [h]
  exact Vector.getElem_set_self ..

theorem enterState_actsOn {y : StepRec} (hy : s.tsq.slots[k] = some y) (hplan : y.plan = x.plan) :
    ActsOn k s (s.enterState k x) := by
  suffices hset : ActsOn k s (s.setStep k x) from hset.trans (.of_touches (notify_touch ..))
  refine ⟨fun j hj => ?_, fun z hz => ⟨y, hy, ?_⟩, fun _ _ h => h, fun c hc => .inl ⟨c, hc, rfl⟩⟩
  · have hne : k.val ≠ j.val := fun e => hj (Fin.ext e.symm)
    exact Vector.getElem_set_ne k.isLt j.isLt hne
  · have hset : (s.setStep k x).tsq.slots[k] = some x := Vector.getElem_set_self ..
    rw [hset] at hz
    exact Option.some.inj hz ▸ hplan

theorem removeStep_slot (out : StepOutcome) (d : Disposition) : (s.removeStep k x out d).tsq.slots[k] = none := by
  unfold removeStep
  extract_lets _ s₁ s₂
  have h : (s₂.notify (.stepState k) (stepContent k x removedCode (some out) (some d) s₂.ccl.callTime)).tsq = s₁.tsq :=
    (notify_touch ..).tsq.trans (stepEnd_touch ..).tsq
  rw [h]
  exact Vector.getElem_set_self ..

theorem removeStep_actsOn (out : StepOutcome) (d : Disposition) : ActsOn k s (s.removeStep k x out d) := by
  unfold removeStep
  extract_lets _ s₁ s₂
  have h₁ : ActsOn k s s₁ := by
    refine ⟨fun j hj => ?_, fun y hy => ?_, fun j hj hmem => ?_, fun c hc => .inl ⟨c, hc, rfl⟩⟩
    · have hne : k.val ≠ j.val := fun e => hj (Fin.ext e.symm)
      exact Vector.getElem_set_ne k.isLt j.isLt hne
    · have hset : s₁.tsq.slots[k] = none := Vector.getElem_set_self ..
      rw [hset] at hy
      cases hy
    · exact List.mem_filter.mpr ⟨hmem, by simpa using hj⟩
  exact h₁.trans ((ActsOn.of_touches (stepEnd_touch ..)).trans (.of_touches (notify_touch ..)))

theorem dropStep_slot (out : StepOutcome) : (s.dropStep k x out).tsq.slots[k] = none := by
  unfold dropStep
  extract_lets s₁
  have h₁ : s₁.tsq.slots[k] = none := removeStep_slot ..
  split
  · exact (congrArg (fun q : Tsq => q.slots[k]) (leaveWaiting_touch ..).tsq).trans h₁
  · exact h₁

theorem dropStep_actsOn (out : StepOutcome) : ActsOn k s (s.dropStep k x out) := by
  refine (removeStep_actsOn out .cancelled).trans (.ite (leaveWaiting_actsOn _ fun y hy => ?_) (.refl _))
  rw [removeStep_slot] at hy
  cases hy

end Slot

/-! ### The plant's part -/

theorem closeValves_candidates (l : List ValveNo) (s : State) : (s.closeValves l).pva.candidates = s.pva.candidates := by
  induction l generalizing s with
  | nil => rfl
  | cons v l ih => exact (ih _).trans rfl

theorem openValves_candidates (l : List ValveNo) (s : State) :
    (l.foldl (fun s v => s.openValve v) s).pva.candidates = s.pva.candidates := by
  induction l generalizing s with
  | nil => rfl
  | cons v l ih => exact (ih _).trans rfl

theorem openValves_touch (l : List ValveNo) (s : State) : Touches [.pva] s (l.foldl (fun s v => s.openValve v) s) :=
  .foldl (fun s v => openValve_touch v s) l s

theorem releasePump_actsOn (k : SlotNo) (x : StepRec) (s : State) : ActsOn k s (s.releasePump x) := by
  unfold releasePump
  split
  · exact .refl s
  · exact .ite (.of_same rfl rfl) (.refl s)

theorem settleMode_actsOn (k : SlotNo) (s : State) : ActsOn k s s.settleMode := .ite (.refl s) (.of_same rfl rfl)

theorem checkClosed_actsOn (k : SlotNo) (s : State) : ActsOn k s (s.checkClosed k) := by
  unfold checkClosed
  split
  · exact .refl s
  next x _ =>
    refine .ite ?_ (.refl s)
    extract_lets out s₁
    have h : ActsOn k s s₁ := (removeStep_actsOn ..).trans (releasePump_actsOn ..)
    exact .ite (h.trans (settleMode_actsOn k s₁)) h

/-- The judgement of a wind-down leaves the step as it is or removes it (R102). -/
theorem checkClosed_slot (k : SlotNo) (s : State) :
    (s.checkClosed k).tsq.slots[k] = none ∨ (s.checkClosed k).tsq.slots[k] = s.tsq.slots[k] := by
  unfold checkClosed
  split
  · exact .inr rfl
  next x _ =>
    split
    · extract_lets out s₁
      have h₁ : s₁.tsq.slots[k] = none := by
        have h := (releasePump_actsOn k x (s.removeStep k x out (x.disposition out)))
        exact h.empty (removeStep_slot ..)
      refine .inl ?_
      split
      · exact (settleMode_actsOn k s₁).empty h₁
      · exact h₁
    · exact .inr rfl

theorem closeLineup_actsOn (k : SlotNo) (s : State) : ActsOn k s (s.closeLineup k) := by
  unfold closeLineup
  split
  · exact .refl s
  · exact .of_same (closeValves_touch ..).tsq (closeValves_candidates ..)

theorem plantWindDown_actsOn (k : SlotNo) (x : StepRec) (s : State) : ActsOn k s (s.plantWindDown k x) := by
  unfold plantWindDown
  split
  · exact .refl s
  · exact .ite (.of_same rfl rfl) ((closeLineup_actsOn k s).trans (checkClosed_actsOn k _))

theorem plantWindDown_slot (k : SlotNo) (x : StepRec) (s : State) :
    (s.plantWindDown k x).tsq.slots[k] = none ∨ (s.plantWindDown k x).tsq.slots[k] = s.tsq.slots[k] := by
  unfold plantWindDown
  split
  · exact .inr rfl
  · extract_lets _
    split
    · exact .inr rfl
    · have hclose : (s.closeLineup k).tsq = s.tsq := by
        unfold closeLineup
        split
        · rfl
        · exact (closeValves_touch ..).tsq
      have h := checkClosed_slot k (s.closeLineup k)
      rwa [hclose] at h

/-! ### Winding down, ending and testing a step -/

/-- A step's record in WIND_DOWN (R101). -/
def StepRec.wound (out : StepOutcome) (x : StepRec) : StepRec := { x with state := .windDown, outcome := some out }

theorem windDown_running {k : SlotNo} {x : StepRec} {s : State} (out : StepOutcome) (hx : s.tsq.slots[k] = some x)
    (hrun : x.state.running = true) :
    s.windDown k out = (s.enterState k (x.wound out)).plantWindDown k (x.wound out) := by
  unfold windDown
  rw [hx]
  exact if_pos hrun

/-- A step that is not in LINEUP, RAMP or RUN is not wound down (R101). -/
theorem windDown_still {k : SlotNo} {x : StepRec} {s : State} (out : StepOutcome) (hx : s.tsq.slots[k] = some x)
    (hrun : x.state.running = false) : s.windDown k out = s := by
  unfold windDown
  rw [hx]
  simp [hrun]

theorem windDown_actsOn (k : SlotNo) (out : StepOutcome) (s : State) : ActsOn k s (s.windDown k out) := by
  rcases hx : s.tsq.slots[k] with _ | x
  · have h : s.windDown k out = s := by unfold windDown; rw [hx]
    rw [h]
    exact .refl s
  · cases hrun : x.state.running with
    | false =>
      rw [windDown_still out hx hrun]
      exact .refl s
    | true =>
      rw [windDown_running out hx hrun]
      exact (enterState_actsOn (x := x.wound out) hx rfl).trans (plantWindDown_actsOn ..)

/-- A step in LINEUP, RAMP or RUN that winds down is in WIND_DOWN under its outcome, or its lineup was closed at once and it is gone (R101, R102). -/
theorem windDown_slot {k : SlotNo} {x : StepRec} {s : State} (out : StepOutcome) (hx : s.tsq.slots[k] = some x)
    (hrun : x.state.running = true) :
    (s.windDown k out).tsq.slots[k] = none ∨ (s.windDown k out).tsq.slots[k] = some (x.wound out) := by
  have h := plantWindDown_slot k (x.wound out) (s.enterState k (x.wound out))
  rw [enterState_slot, ← windDown_running out hx hrun] at h
  exact h

theorem endStep_actsOn (k : SlotNo) (out : StepOutcome) (s : State) : ActsOn k s (s.endStep k out) := by
  unfold endStep
  split
  · exact .refl s
  · exact .ite (dropStep_actsOn out) (windDown_actsOn ..)

theorem endStep_dropped {k : SlotNo} {x : StepRec} {s : State} (out : StepOutcome) (hx : s.tsq.slots[k] = some x)
    (h : x.state.waitingOrQueued = true) : s.endStep k out = s.dropStep k x out := by
  unfold endStep
  rw [hx]
  simp [h]

theorem endStep_wound {k : SlotNo} {x : StepRec} {s : State} (out : StepOutcome) (hx : s.tsq.slots[k] = some x)
    (h : x.state.waitingOrQueued = false) : s.endStep k out = s.windDown k out := by
  unfold endStep
  rw [hx]
  simp [h]

theorem testStep_actsOn (k : SlotNo) (t : TankNo) (s : State) : ActsOn k s (s.testStep k t) := by
  unfold testStep
  split
  · exact .refl s
  · refine .ite ?_ (.refl s)
    split
    · exact windDown_actsOn ..
    · exact .refl s

/-- Only a step in RUN is tested (R99). -/
theorem testStep_still {k : SlotNo} {s : State} (t : TankNo) (h : ∀ x, s.tsq.slots[k] = some x → x.state ≠ .run) :
    s.testStep k t = s := by
  unfold testStep
  split
  · rfl
  next x hx => exact if_neg (h x hx)

/-! ### Grants (R96) -/

theorem beforeGrant_candidates {a : Pva} {c : Candidate} (h : c ∈ a.beforeGrant.candidates) :
    ∃ b ∈ a.candidates, b.step = c.step := by
  unfold Pva.beforeGrant at h
  split at h
  · obtain ⟨b, hb, rfl⟩ := List.mem_map.mp h
    exact ⟨b, hb, rfl⟩
  · exact ⟨c, h, rfl⟩

theorem grant_actsOn (p : PumpNo) (k : SlotNo) (s : State) : ActsOn k s (s.grant p k) := by
  unfold grant
  split
  · exact .refl s
  next x hx =>
    extract_lets a serial _ y s₁ s₂ s₃
    have h₁ : ActsOn k s s₁ :=
      ⟨fun _ _ => rfl, fun z hz => ⟨z, hz, rfl⟩, fun _ _ h => h, fun c hc => .inl (beforeGrant_candidates hc)⟩
    have h₂ : ActsOn k s₁ s₂ := .of_same (openValves_touch ..).tsq (openValves_candidates ..)
    have hx₂ : s₂.tsq.slots[k] = some x := by rw [(openValves_touch ..).tsq]; exact hx
    have h₃ : ActsOn k s₂ s₃ := enterState_actsOn hx₂ rfl
    refine h₁.trans (h₂.trans (h₃.trans (leaveWaiting_actsOn _ fun z hz => ?_)))
    have hz' : s₃.tsq.slots[k] = some z := hz
    rw [show s₃.tsq.slots[k] = some { x with state := .lineup, grantedPump := some p, litres := 0 } from enterState_slot] at hz'
    obtain rfl := Option.some.inj hz'
    exact fun e => StepState.noConfusion e

/-- A candidate in the list stands in its slot under the number a candidate record names (R114). -/
theorem mem_candidateList {s : State} {e : SlotNo × StepRec × Candidate} (h : e ∈ s.candidateList) :
    s.tsq.slots[e.1] = some e.2.1 ∧ ∃ c ∈ s.pva.candidates, c.step = e.2.1.number := by
  obtain ⟨k, -, hk⟩ := List.mem_filterMap.mp h
  split at hk
  · cases hk
  next x hx =>
    obtain ⟨c, hc, rfl⟩ := Option.map_eq_some_iff.mp hk
    exact ⟨hx, c, List.mem_of_find?_eq_some hc, by simpa using List.find?_some hc⟩

theorem lowestMark_mem {l : List (SlotNo × StepRec × Candidate)} {e : SlotNo × StepRec × Candidate}
    (h : lowestMark l = some e) : e ∈ l := by
  induction l with
  | nil => cases h
  | cons a l ih =>
    unfold lowestMark at h
    split at h
    · exact Option.some.inj h ▸ List.mem_cons_self
    next b hb =>
      split at h
      · exact List.mem_cons_of_mem a (ih (hb.trans h))
      · exact Option.some.inj h ▸ List.mem_cons_self

theorem fairnessWinner_mem {memory : Option (StepClass × Nat)} {l : List (SlotNo × StepRec × Candidate)}
    {e : SlotNo × StepRec × Candidate} (h : fairnessWinner memory l = some e) : e ∈ l := by
  unfold fairnessWinner at h
  split at h
  · exact List.mem_of_mem_filter (lowestMark_mem h)
  · cases h

/-- A decision's winner is one of the candidates that can use the pump (R116 to R118). -/
theorem winnerBut_usable {passed : StepRec → Bool} {p : PumpNo} {s : State} {k : SlotNo} (h : s.winnerBut passed p = some k) :
    ∃ e ∈ s.candidateList.filter fun e => !passed e.2.1 && s.canUse p e.2.1 e.2.2, e.1 = k := by
  unfold winnerBut at h
  extract_lets usable at h
  have hfound (test : SlotNo × StepRec × Candidate → Bool) (hk : (usable.find? test).map (·.1) = some k) :
      ∃ e ∈ usable, e.1 = k := by
    obtain ⟨e, he, hek⟩ := Option.map_eq_some_iff.mp hk
    exact ⟨e, List.mem_of_find?_eq_some he, hek⟩
  split at h
  · exact hfound _ h
  · split at h
    next e he => exact ⟨e, fairnessWinner_mem he, Option.some.inj h⟩
    next =>
      split at h
      next e he => exact ⟨e, List.mem_of_find?_eq_some he, Option.some.inj h⟩
      next => exact hfound _ h

/-- A decision's winner is a held step that a candidate names and that the decision does not pass by (R116). -/
theorem winnerBut_mem {passed : StepRec → Bool} {p : PumpNo} {s : State} {k : SlotNo} (h : s.winnerBut passed p = some k) :
    ∃ x, s.tsq.slots[k] = some x ∧ passed x = false ∧ ∃ c ∈ s.pva.candidates, c.step = x.number := by
  have husable : ∀ e ∈ s.candidateList.filter fun e => !passed e.2.1 && s.canUse p e.2.1 e.2.2,
      s.tsq.slots[e.1] = some e.2.1 ∧ passed e.2.1 = false ∧ ∃ c ∈ s.pva.candidates, c.step = e.2.1.number := by
    intro e he
    obtain ⟨hlist, hcond⟩ := List.mem_filter.mp he
    obtain ⟨hslot, hcand⟩ := mem_candidateList hlist
    exact ⟨hslot, by simpa using (Bool.and_eq_true_iff.mp hcond).1, hcand⟩
  obtain ⟨e, he, rfl⟩ := winnerBut_usable h
  exact ⟨e.2.1, husable e he⟩

end Sys2Proof.Machine
end

section
/-! PROOFS. BOUNDS_SET and BERTH_SET (R9, R15, R38, R41, R106): the steps that new bounds end, slot by slot. -/

namespace Sys2Proof.Machine

/- One proof at a time: side by side they take a thread each. -/
set_option Elab.async false

open State

/-! ### What every decision on the pumps keeps -/

/-- A property that each grant keeps is kept by the decisions on all pumps (R96, R116). -/
theorem grantsBut_keeps {P : State → Prop} {passed : StepRec → Bool}
    (hgrant : ∀ p k x t, P t → t.tsq.slots[k] = some x → passed x = false →
      (∃ c ∈ t.pva.candidates, c.step = x.number) → P (t.grant p k)) {s : State} (h : P s) : P (s.grantsBut passed) := by
  have hdecide (p : PumpNo) (t : State) (ht : P t) : P (t.decidePump passed p) := by
    unfold decidePump
    split
    · exact ht
    next k hk =>
      obtain ⟨x, hx, hpassed, hcand⟩ := winnerBut_mem hk
      exact hgrant p k x t ht hx hpassed hcand
  have hall (t : State) (ht : P t) : P (t.decideAll passed) := hdecide 2 _ (hdecide 1 _ (hdecide 0 t ht))
  exact hall _ (hall _ (hall s h))

/-! ### A slot that is left aside -/

/-- A slot holds `r`, and no other held step and no candidate carries the number `n`. -/
structure Aside (j : SlotNo) (n : Nat) (r : Option StepRec) (s : State) : Prop where
  slot : s.tsq.slots[j] = r
  alone : ∀ (i : SlotNo) (y : StepRec), i ≠ j → s.tsq.slots[i] = some y → y.number ≠ n
  unoffered : ∀ c ∈ s.pva.candidates, c.step ≠ n

/-- A record of number `n` that no grant can take: it is not WAITING. -/
def Ungranted (n : Nat) (r : Option StepRec) : Prop := ∀ y, r = some y → y.number = n ∧ y.state ≠ .waiting

section Aside
variable {j k : SlotNo} {n : Nat} {r : Option StepRec} {s t : State}

/-- An operation on any one step leaves the others aside, and the candidates it offers are other steps. -/
theorem Aside.after (h : Aside j n r s) (hr : Ungranted n r) (ht : ActsOn k s t) : Aside j n t.tsq.slots[j] t where
  slot := rfl
  alone i y hi hy := by
    obtain ⟨x, hx, hplan⟩ := ht.held hy
    exact plan_number hplan ▸ h.alone i x hi hx
  unoffered c hc := by
    rcases ht.offered c hc with ⟨b, hb, hstep⟩ | ⟨i, x, -, hx, hwait, hnumber⟩
    · exact hstep ▸ h.unoffered b hb
    · by_cases hij : i = j
      · subst hij
        exact absurd hwait (hr x (h.slot.symm.trans hx)).2
      · exact hnumber ▸ h.alone i x hij hx

/-- An operation on another step leaves the slot aside as it is. -/
theorem Aside.other (h : Aside j n r s) (hr : Ungranted n r) (ht : ActsOn k s t) (hjk : j ≠ k) : Aside j n r t :=
  h.slot ▸ ht.others j hjk ▸ h.after hr ht

/-- No grant takes a step that is left aside (R96). -/
theorem Aside.grantsBut (h : Aside j n r s) (hr : Ungranted n r) (passed : StepRec → Bool) : Aside j n r (s.grantsBut passed) :=
  grantsBut_keeps (P := Aside j n r)
    (fun p k x t ht hx _ ⟨c, hc, hstep⟩ => ht.other hr (grant_actsOn p k t) fun hjk => by
      subst hjk
      exact ht.unoffered c hc (hstep.trans (hr x (ht.slot.symm.trans hx)).1)) h

end Aside

/-- An empty slot stays empty through every grant. -/
theorem grantsBut_empty {j : SlotNo} {s : State} (passed : StepRec → Bool) (h : s.tsq.slots[j] = none) :
    (s.grantsBut passed).tsq.slots[j] = none :=
  grantsBut_keeps (P := fun t => t.tsq.slots[j] = none) (fun p k _ t ht _ _ _ => (grant_actsOn p k t).empty ht) h

/-- A step that the decisions pass by keeps its slot (R96). -/
theorem grantsBut_passed {j : SlotNo} {x : StepRec} {s : State} {passed : StepRec → Bool} (hx : s.tsq.slots[j] = some x)
    (hpassed : passed x = true) : (s.grantsBut passed).tsq.slots[j] = some x :=
  grantsBut_keeps (P := fun t => t.tsq.slots[j] = some x)
    (fun p k y t ht hy hnot _ => ((grant_actsOn p k t).others j fun hjk => by
      subst hjk
      rw [Option.some.inj (hy.symm.trans ht), hpassed] at hnot
      cases hnot).trans ht) hx

/-- The queue order keeps a step that no decision can take. -/
theorem grantsBut_order {j : SlotNo} {n : Nat} {r : Option StepRec} {s : State} {passed : StepRec → Bool}
    (h : Aside j n r s) (hr : Ungranted n r) (hj : j ∈ s.tsq.order) : j ∈ (s.grantsBut passed).tsq.order :=
  (grantsBut_keeps (P := fun t => Aside j n r t ∧ j ∈ t.tsq.order) (passed := passed)
    (fun p k x t ⟨ht, hmem⟩ hx _ ⟨c, hc, hstep⟩ => by
      have hjk : j ≠ k := fun e => by
        subst e
        exact ht.unoffered c hc (hstep.trans (hr x (ht.slot.symm.trans hx)).1)
      exact ⟨ht.other hr (grant_actsOn p k t) hjk, (grant_actsOn p k t).order j hjk hmem⟩) ⟨h, hj⟩).2

/-! ### Over the queue order -/

/-- What `forSteps` does at one slot of the queue order. -/
def State.atSlot (which : StepRec → Bool) (act : SlotNo → State → State) (s : State) (k : SlotNo) : State :=
  match s.tsq.slots[k] with
  | some x => if which x then act k s else s
  | none => s

theorem forSteps_eq (which : StepRec → Bool) (act : SlotNo → State → State) (s : State) :
    s.forSteps which act = s.tsq.order.foldl (State.atSlot which act) s := rfl

section AtSlot
variable {which : StepRec → Bool} {act : SlotNo → State → State} {k : SlotNo} {x : StepRec} {s : State}

theorem atSlot_picked (hx : s.tsq.slots[k] = some x) (hw : which x = true) : s.atSlot which act k = act k s := by
  unfold atSlot
  rw [hx]
  exact if_pos hw

theorem atSlot_passed (h : ∀ x, s.tsq.slots[k] = some x → which x = false) : s.atSlot which act k = s := by
  unfold atSlot
  split
  next x hx => exact if_neg (by simp [h x hx])
  next => rfl

theorem atSlot_cases (P : State → Prop) (h : P s) (hact : P (act k s)) : P (s.atSlot which act k) := by
  unfold atSlot
  split
  · split <;> assumption
  · exact h

end AtSlot

/-- A property that the work at each slot of a list keeps is kept over the list. -/
theorem atSlots_keep {P : State → Prop} {which : StepRec → Bool} {act : SlotNo → State → State} {l : List SlotNo}
    (hact : ∀ t, ∀ k ∈ l, P t → P (t.atSlot which act k)) {s : State} (h : P s) : P (l.foldl (State.atSlot which act) s) :=
  List.foldlRecOn l _ h fun t ht k hk => hact t k hk ht

/-- The place of a step in the queue order, which lists it once. -/
theorem order_split {q : Tsq} {j : SlotNo} (hnodup : q.order.Nodup) (hj : j ∈ q.order) :
    ∃ before after, q.order = before ++ j :: after ∧ j ∉ before ∧ j ∉ after := by
  obtain ⟨before, after, horder⟩ := List.append_of_mem hj
  rw [horder] at hnodup
  obtain ⟨-, hcons, hdisjoint⟩ := List.nodup_append.mp hnodup
  exact ⟨before, after, horder, fun h => hdisjoint j h j List.mem_cons_self rfl, (List.nodup_cons.mp hcons).1⟩

/-! ### Ending the steps that an event picks (R96, R104, R106) -/

/-- One step ended, and the grant decisions its end opens. -/
def State.endOne (which : StepRec → Bool) (out : StepOutcome) (k : SlotNo) (s : State) : State :=
  (s.endStep k out).grantsBut which

theorem endSteps_eq (which : StepRec → Bool) (out : StepOutcome) (s : State) :
    s.endSteps which out = s.tsq.order.foldl (State.atSlot which (State.endOne which out)) s := rfl

section Ending
variable {which : StepRec → Bool} {out : StepOutcome} {j : SlotNo} {n : Nat} {x : StepRec} {s : State}

theorem endOne_empty (k : SlotNo) (h : s.tsq.slots[j] = none) :
    (s.atSlot which (State.endOne which out) k).tsq.slots[j] = none :=
  atSlot_cases (fun t => t.tsq.slots[j] = none) h (grantsBut_empty which ((endStep_actsOn k out s).empty h))

theorem endSteps_empty (l : List SlotNo) (h : s.tsq.slots[j] = none) :
    (l.foldl (State.atSlot which (State.endOne which out)) s).tsq.slots[j] = none :=
  atSlots_keep (P := fun t => t.tsq.slots[j] = none) (fun _ k _ ht => endOne_empty k ht) h

/-- A step that waits to be ended keeps its slot until its turn, for the decisions pass it by (R96). -/
theorem endSteps_untilTurn {l : List SlotNo} (hl : j ∉ l) (hx : s.tsq.slots[j] = some x) (hw : which x = true) :
    (l.foldl (State.atSlot which (State.endOne which out)) s).tsq.slots[j] = some x :=
  atSlots_keep (P := fun t => t.tsq.slots[j] = some x)
    (fun t k hk ht => atSlot_cases (fun u => u.tsq.slots[j] = some x) ht
      (grantsBut_passed (((endStep_actsOn k out t).others j fun e => hl (e ▸ hk)).trans ht) hw)) hx

/-- The end of other steps leaves a slot aside as it is. -/
theorem endSteps_others {r : Option StepRec} {l : List SlotNo} (hl : j ∉ l) (hr : Ungranted n r) (h : Aside j n r s) :
    Aside j n r (l.foldl (State.atSlot which (State.endOne which out)) s) :=
  atSlots_keep (P := Aside j n r)
    (fun t k hk ht => atSlot_cases (Aside j n r) ht
      ((ht.other hr (endStep_actsOn k out t) fun e => hl (e ▸ hk)).grantsBut hr which)) h

/-- A QUEUED or WAITING step that is picked leaves its slot (R103, R106). -/
theorem endSteps_drops (hnodup : s.tsq.order.Nodup) (hj : j ∈ s.tsq.order) (hx : s.tsq.slots[j] = some x)
    (hw : which x = true) (hstate : x.state.waitingOrQueued = true) : (s.endSteps which out).tsq.slots[j] = none := by
  obtain ⟨before, after, horder, hbefore, -⟩ := order_split hnodup hj
  rw [endSteps_eq, horder, List.foldl_append, List.foldl_cons]
  refine endSteps_empty after ?_
  have hturn := endSteps_untilTurn (out := out) hbefore hx hw
  rw [atSlot_picked hturn hw, endOne, endStep_dropped out hturn hstate]
  exact grantsBut_empty which (dropStep_slot out)

/-- The record of a step once it has been wound down, or none where it was removed at once. -/
def Wound (out : StepOutcome) (x : StepRec) (r : Option StepRec) : Prop := r = none ∨ r = some (x.wound out)

theorem Wound.ungranted {r : Option StepRec} (h : Wound out x r) (hn : x.number = n) : Ungranted n r := by
  rintro y rfl
  rcases h with h | h <;> cases h
  exact ⟨hn, fun e => StepState.noConfusion e⟩

theorem Wound.not_run {r : Option StepRec} (h : Wound out x r) : ∀ y, r = some y → y.state ≠ .run := by
  rintro y rfl
  rcases h with h | h <;> cases h
  exact fun e => StepState.noConfusion e

theorem running_not_waitingOrQueued {st : StepState} (h : st.running = true) : st.waitingOrQueued = false := by
  cases st with
  | lineup | ramp | run => rfl
  | checking | queued | waiting | windDown => cases h

/-- A step in LINEUP, RAMP or RUN that is picked is wound down (R104, R106). -/
theorem endSteps_winds (hnodup : s.tsq.order.Nodup) (hj : j ∈ s.tsq.order) (hw : which x = true)
    (hrun : x.state.running = true) (hn : x.number = n) (h : Aside j n (some x) s) :
    ∃ r, Wound out x r ∧ Aside j n r (s.endSteps which out) := by
  have hr : Ungranted n (some x) := by
    rintro y ⟨⟩
    exact ⟨hn, fun e => by rw [e] at hrun; cases hrun⟩
  have hnot := running_not_waitingOrQueued hrun
  obtain ⟨before, after, horder, hbefore, hafter⟩ := order_split hnodup hj
  rw [endSteps_eq, horder, List.foldl_append, List.foldl_cons]
  have hturn := endSteps_others (which := which) (out := out) hbefore hr h
  rw [atSlot_picked hturn.slot hw, endOne, endStep_wound out hturn.slot hnot]
  have hwound := hturn.after hr (windDown_actsOn j out _)
  have hcases : Wound out x _ := windDown_slot out hturn.slot hrun
  exact ⟨_, hcases, endSteps_others hafter (hcases.ungranted hn) (hwound.grantsBut (hcases.ungranted hn) which)⟩

/-- A step already in WIND_DOWN stands (R106). -/
theorem endSteps_stands (hstate : x.state = .windDown) (hn : x.number = n) (h : Aside j n (some x) s) :
    Aside j n (some x) (s.endSteps which out) := by
  have hr : Ungranted n (some x) := by
    rintro y ⟨⟩
    exact ⟨hn, fun e => by rw [hstate] at e; cases e⟩
  rw [endSteps_eq]
  refine atSlots_keep (P := Aside j n (some x)) (fun t k _ ht => atSlot_cases (Aside j n (some x)) ht ?_) h
  refine Aside.grantsBut ?_ hr which
  by_cases hjk : j = k
  · subst hjk
    rw [endStep_wound out ht.slot (by rw [hstate]; rfl), windDown_still out ht.slot (by rw [hstate]; rfl)]
    exact ht
  · exact ht.other hr (endStep_actsOn k out t) hjk

/-- A step that is not picked stands, in its place in the queue order. -/
theorem endSteps_unpicked (hw : which x = false) (hr : Ungranted n (some x)) (h : Aside j n (some x) s)
    (hj : j ∈ s.tsq.order) : Aside j n (some x) (s.endSteps which out) ∧ j ∈ (s.endSteps which out).tsq.order := by
  rw [endSteps_eq]
  refine atSlots_keep (P := fun t => Aside j n (some x) t ∧ j ∈ t.tsq.order) (fun t k _ ⟨ht, hmem⟩ => ?_) ⟨h, hj⟩
  by_cases hjk : j = k
  · subst hjk
    rw [atSlot_passed fun y hy => Option.some.inj (ht.slot.symm.trans hy) ▸ hw]
    exact ⟨ht, hmem⟩
  · have hend := ht.other hr (endStep_actsOn k out t) hjk
    exact atSlot_cases (fun u => Aside j n (some x) u ∧ j ∈ u.tsq.order) ⟨ht, hmem⟩
      ⟨hend.grantsBut hr which, grantsBut_order hend hr ((endStep_actsOn k out t).order j hjk hmem)⟩

end Ending

/-! ### Testing the steps in RUN at a tank (R99) -/

section Testing
variable {which : StepRec → Bool} {tank : TankNo} {j : SlotNo} {n : Nat} {x : StepRec} {s : State}

theorem testSteps_empty (h : s.tsq.slots[j] = none) :
    (s.forSteps which fun k s => s.testStep k tank).tsq.slots[j] = none := by
  rw [forSteps_eq]
  exact atSlots_keep (P := fun t => t.tsq.slots[j] = none)
    (fun t k _ ht => atSlot_cases (fun u => u.tsq.slots[j] = none) ht ((testStep_actsOn k tank t).empty ht)) h

theorem testOne_still {r : Option StepRec} (hr : Ungranted n r) (hrun : ∀ y, r = some y → y.state ≠ .run) (k : SlotNo)
    (h : Aside j n r s) : Aside j n r (s.atSlot which (fun k s => s.testStep k tank) k) := by
  refine atSlot_cases (Aside j n r) h ?_
  by_cases hjk : j = k
  · subst hjk
    rw [testStep_still tank fun y hy => hrun y (h.slot.symm.trans hy)]
    exact h
  · exact h.other hr (testStep_actsOn k tank s) hjk

/-- The tests leave a step that is not in RUN as it is (R99). -/
theorem testSteps_still {r : Option StepRec} (hr : Ungranted n r) (hrun : ∀ y, r = some y → y.state ≠ .run)
    (l : List SlotNo) (h : Aside j n r s) : Aside j n r (l.foldl (State.atSlot which fun k s => s.testStep k tank) s) :=
  atSlots_keep (fun _ k _ ht => testOne_still hr hrun k ht) h

/-- A test goes by the tanks and the tables alone (R99). -/
theorem targetTest_congr {t : State} (htanks : t.tanks = s.tanks) (hcfg : t.cfg = s.cfg) (x : StepRec) :
    t.targetTest x tank = s.targetTest x tank := by
  unfold targetTest
  rw [htanks, hcfg]

/-- A step in RUN that meets a test is wound down under its outcome (R99). -/
theorem testSteps_winds {out : StepOutcome} (hj : j ∈ s.tsq.order) (hw : which x = true) (hrun : x.state = .run)
    (htest : s.targetTest x tank = some out) (hn : x.number = n) (h : Aside j n (some x) s) :
    ∃ r, Wound out x r ∧ Aside j n r (s.forSteps which fun k s => s.testStep k tank) := by
  have hr : Ungranted n (some x) := by
    rintro y ⟨⟩
    exact ⟨hn, fun e => by rw [hrun] at e; cases e⟩
  obtain ⟨before, after, horder, hbefore⟩ := List.eq_append_cons_of_mem hj
  rw [forSteps_eq, horder, List.foldl_append, List.foldl_cons]
  obtain ⟨hturn, htanks, hcfg⟩ := atSlots_keep (P := fun t => Aside j n (some x) t ∧ t.tanks = s.tanks ∧ t.cfg = s.cfg)
    (which := which) (act := fun k s => s.testStep k tank) (l := before)
    (fun t k hk ⟨ht, htanks, hcfg⟩ => atSlot_cases (fun u => Aside j n (some x) u ∧ u.tanks = s.tanks ∧ u.cfg = s.cfg)
      ⟨ht, htanks, hcfg⟩
      ⟨ht.other hr (testStep_actsOn k tank t) fun e => hbefore (e ▸ hk), (testStep_touch k tank t).tanks.trans htanks,
        (testStep_touch k tank t).cfg.trans hcfg⟩) ⟨h, rfl, rfl⟩
  generalize before.foldl (State.atSlot which fun k s => s.testStep k tank) s = u at hturn htanks hcfg
  have hwind : u.testStep j tank = u.windDown j out := by
    unfold testStep
    rw [hturn.slot]
    simp only [hrun, if_true, targetTest_congr htanks hcfg, htest]
  rw [atSlot_picked hturn.slot hw, hwind]
  have hcases : Wound out x _ := windDown_slot out hturn.slot (by rw [hrun]; rfl)
  exact ⟨_, hcases, testSteps_still (hcases.ungranted hn) hcases.not_run after (hturn.after hr (windDown_actsOn j out u))⟩

end Testing

end Sys2Proof.Machine
end

section
/-! PROOFS. BOUNDS_SET and BERTH_SET (R9, R15, R38, R41, R106): what each leaves. -/

namespace Sys2Proof.Machine

/- One proof at a time: side by side they take a thread each. -/
set_option Elab.async false

open State

/-! ### What the invariants say of one held step -/

section Safe
variable {s : State} {j : SlotNo} {x : StepRec}

theorem safe_alone (hqueue : QueueSafe s) (hx : s.tsq.slots[j] = some x) {i : SlotNo} {y : StepRec} (hi : i ≠ j)
    (hy : s.tsq.slots[i] = some y) : y.number ≠ x.number := by
  obtain ⟨-, -, -, -, halone, -⟩ := hqueue
  have h := halone i j hi
  simpa [Tsq.holds, hx, hy] using h

theorem safe_order (hqueue : QueueSafe s) (hx : s.tsq.slots[j] = some x) (hstate : x.state ≠ .checking) :
    j ∈ s.tsq.order := by
  obtain ⟨-, -, hadmitted, -⟩ := hqueue
  rw [hadmitted]
  simpa [Tsq.holds, hx] using hstate

/-- A SHIFT step's two tanks differ (R87). -/
theorem safe_shift (hqueue : QueueSafe s) (hx : s.tsq.slots[j] = some x) (hkind : x.kind = .shift) : x.source ≠ x.dest := by
  obtain ⟨-, -, -, -, -, hfit, -⟩ := hqueue
  have h := hfit j
  rw [hx] at h
  simp only [Option.all_some, Bool.and_eq_true] at h
  obtain ⟨⟨-, hshape⟩, -⟩ := h
  simp only [StepRec.shaped, hkind, Bool.and_eq_true, decide_eq_true_eq] at hshape
  exact hshape.2

/-- A held step that is not WAITING is left aside by PVA (R114). -/
theorem aside_of_safe (hqueue : QueueSafe s) (hline : LineSafe s) (hx : s.tsq.slots[j] = some x)
    (hstate : x.state ≠ .waiting) : Aside j x.number (some x) s where
  slot := hx
  alone i y hi hy := safe_alone hqueue hx hi hy
  unoffered c hc hstep := by
    obtain ⟨-, -, -, hwaits, -⟩ := hline
    have h := hwaits c hc
    simp only [Tsq.waits, List.any_eq_true, Tsq.holds] at h
    obtain ⟨i, -, hi⟩ := h
    rcases hy : s.tsq.slots[i] with _ | y
    · rw [hy] at hi
      cases hi
    · rw [hy] at hi
      obtain ⟨hnumber, hwait⟩ : y.number = c.step ∧ y.state = .waiting := by simpa using hi
      by_cases hij : i = j
      · subst hij
        exact hstate (Option.some.inj (hx.symm.trans hy) ▸ hwait)
      · exact safe_alone hqueue hx hij hy (hnumber.trans hstep)

end Safe

/-! ### BOUNDS_SET -/

/-- Whether new bounds of a tank end a step (R106). -/
def endedBy (k : TankNo) (b : Bounds) (x : StepRec) : Bool := x.targetTank == some k && !within b.lower b.upper x.target

theorem endedBy_outside {k : TankNo} {b : Bounds} {x : StepRec} (htarget : x.targetTank = some k)
    (hout : x.target < b.lower ∨ b.upper < x.target) : endedBy k b x = true := by
  have hnot : ¬within b.lower b.upper x.target = true := fun h => by
    have hin := within_iff.mp h
    omega
  simp [endedBy, htarget, hnot]

/-- Whether a step is a SHIFT into a tank. -/
def shiftsInto (k : TankNo) (x : StepRec) : Bool := x.kind == .shift && x.dest == some k

/-- The bounds of a tank replaced (R9). -/
def State.withBounds (k : TankNo) (b : Bounds) (s : State) : State :=
  { s with cfg := { s.cfg with bounds := s.cfg.bounds.set k b } }

theorem withBounds_bound (k : TankNo) (b : Bounds) (s : State) : (s.withBounds k b).cfg.bounds[k] = b :=
  Vector.getElem_set_self ..

theorem boundsPassed_eq (k : TankNo) (b : Bounds) (s : State) :
    (s.withBounds k b).boundsPassed k =
      ((s.withBounds k b).endSteps (endedBy k b) .bound).forSteps (shiftsInto k) fun i s => s.testStep i k := by
  have h := withBounds_bound k b s
  unfold boundsPassed
  simp only [h]
  rfl

theorem takeBounds_eq (k : TankNo) (b : Bounds) (s : State) :
    takeBounds (k, b) s = ((s.withBounds k b).boundsPassed k).requestRecompute.grants := rfl

theorem takeBounds_cfg (k : TankNo) (b : Bounds) (s : State) : (takeBounds (k, b) s).cfg = (s.withBounds k b).cfg :=
  ((boundsPassed_touch k _).seq ((requestRecompute_touch _).seq (grants_touch _))).cfg

/-- A recompute request goes by the phase, the engine and what a snapshot shows (R41, R43, R44). -/
theorem requestRecompute_congr {s t : State} (hccl : t.ccl = s.ccl) (hcen : t.cen = s.cen) (hsnap : t.snapshot [] = s.snapshot []) :
    t.requestRecompute.cen = s.requestRecompute.cen := by
  unfold requestRecompute
  rw [hccl, hcen]
  split
  · exact hcen
  · split
    · simp only [beginCurrent, hsnap, hcen]
    · rfl

theorem takeBounds_cen (k : TankNo) (b : Bounds) (s : State) : (takeBounds (k, b) s).cen = s.requestRecompute.cen := by
  have h := boundsPassed_touch k (s.withBounds k b)
  rw [takeBounds_eq, (grants_touch _).cen]
  refine requestRecompute_congr h.ccl h.cen ?_
  unfold snapshot
  rw [h.cfg, h.tanks, h.ptr, h.berth, h.ccl, h.cen]
  rfl

section Bounds
variable {k : TankNo} {b : Bounds} {s : State} {j : SlotNo} {x : StepRec}

/-- What follows the tests leaves a slot aside as it is. -/
theorem takeBounds_aside {n : Nat} {r : Option StepRec} (hr : Ungranted n r)
    (h : Aside j n r ((s.withBounds k b).boundsPassed k)) : (takeBounds (k, b) s).tsq.slots[j] = r := by
  have hre := requestRecompute_touch ((s.withBounds k b).boundsPassed k)
  have hsame : Aside j n r ((s.withBounds k b).boundsPassed k).requestRecompute :=
    ⟨by rw [hre.tsq]; exact h.slot, by rw [hre.tsq]; exact h.alone, by rw [hre.pva]; exact h.unoffered⟩
  exact (hsame.grantsBut hr _).slot

/-- A QUEUED or WAITING step that the bounds end is gone (R106). -/
theorem takeBounds_drops (hqueue : QueueSafe s) (hx : s.tsq.slots[j] = some x) (hended : endedBy k b x = true)
    (hstate : x.state.waitingOrQueued = true) : (takeBounds (k, b) s).tsq.slots[j] = none := by
  have hj : j ∈ s.tsq.order := safe_order hqueue hx fun e => by rw [e] at hstate; cases hstate
  have hgone := endSteps_drops (s := s.withBounds k b) (out := .bound) hqueue.1 hj hx hended hstate
  have hpassed : ((s.withBounds k b).boundsPassed k).tsq.slots[j] = none := by
    rw [boundsPassed_eq]
    exact testSteps_empty hgone
  refine grantsBut_empty _ ?_
  rw [(requestRecompute_touch _).tsq]
  exact hpassed

/-- A step in LINEUP, RAMP or RUN that the bounds end is wound down (R106). -/
theorem takeBounds_winds (hqueue : QueueSafe s) (hline : LineSafe s) (hx : s.tsq.slots[j] = some x)
    (hended : endedBy k b x = true) (hrun : x.state.running = true) :
    Wound .bound x (takeBounds (k, b) s).tsq.slots[j] := by
  have hj : j ∈ s.tsq.order := safe_order hqueue hx fun e => by rw [e] at hrun; cases hrun
  have haside : Aside j x.number (some x) (s.withBounds k b) :=
    aside_of_safe hqueue hline hx fun e => by rw [e] at hrun; cases hrun
  obtain ⟨r, hr, h⟩ := endSteps_winds (s := s.withBounds k b) (out := .bound) hqueue.1 hj hended hrun rfl haside
  have hpassed : Aside j x.number r ((s.withBounds k b).boundsPassed k) := by
    rw [boundsPassed_eq]
    exact testSteps_still (hr.ungranted rfl) hr.not_run _ h
  rw [takeBounds_aside (hr.ungranted rfl) hpassed]
  exact hr

/-- A step in WIND_DOWN stands (R106). -/
theorem takeBounds_stands (hqueue : QueueSafe s) (hline : LineSafe s) (hx : s.tsq.slots[j] = some x)
    (hstate : x.state = .windDown) : (takeBounds (k, b) s).tsq.slots[j] = some x := by
  have hnot : x.state ≠ .waiting := fun e => by rw [hstate] at e; cases e
  have hr : Ungranted x.number (some x) := by
    rintro y ⟨⟩
    exact ⟨rfl, hnot⟩
  have haside : Aside j x.number (some x) (s.withBounds k b) := aside_of_safe hqueue hline hx hnot
  have hpassed : Aside j x.number (some x) ((s.withBounds k b).boundsPassed k) := by
    rw [boundsPassed_eq]
    refine testSteps_still hr ?_ _ (endSteps_stands hstate rfl haside)
    rintro y ⟨⟩ e
    rw [hstate] at e
    cases e
  exact takeBounds_aside hr hpassed

/-- A SHIFT step in RUN into the tank, whose level is at or above the new upper bound, is wound down (R99, R106). -/
theorem takeBounds_shift (hqueue : QueueSafe s) (hline : LineSafe s) (hx : s.tsq.slots[j] = some x) (hkind : x.kind = .shift)
    (hdest : x.dest = some k) (hrun : x.state = .run) (hlevel : b.upper ≤ s.tanks[k].level) :
    Wound .bound x (takeBounds (k, b) s).tsq.slots[j] := by
  have hnot : x.state ≠ .waiting := fun e => by rw [hrun] at e; cases e
  have hr : Ungranted x.number (some x) := by
    rintro y ⟨⟩
    exact ⟨rfl, hnot⟩
  have hsource : x.source ≠ some k := hdest ▸ safe_shift hqueue hx hkind
  have hj : j ∈ s.tsq.order := safe_order hqueue hx fun e => by rw [hrun] at e; cases e
  have haside : Aside j x.number (some x) (s.withBounds k b) := aside_of_safe hqueue hline hx hnot
  have hunpicked : endedBy k b x = false := by simp [endedBy, StepRec.targetTank, hkind, hsource]
  obtain ⟨hsame, horder⟩ := endSteps_unpicked (out := .bound) hunpicked hr haside hj
  have htouch := endSteps_touch (endedBy k b) .bound (s.withBounds k b)
  have htest : ((s.withBounds k b).endSteps (endedBy k b) .bound).targetTest x k = some .bound := by
    rw [targetTest_congr htouch.tanks htouch.cfg]
    have hupper : (s.withBounds k b).cfg.bounds[k].upper ≤ (s.withBounds k b).tanks[k].level := by
      rw [withBounds_bound]
      exact hlevel
    simp only [targetTest, hkind, hsource, false_and, if_false, hdest, true_and, if_pos hupper]
  obtain ⟨r, hwound, h⟩ := testSteps_winds (which := shiftsInto k) horder (by simp [shiftsInto, hkind, hdest]) hrun htest rfl hsame
  rw [← boundsPassed_eq] at h
  rw [takeBounds_aside (hwound.ungranted rfl) h]
  exact hwound

theorem dropStep_rcu (out : StepOutcome) : (s.dropStep j x out).rcu = (s.stepEnd x out .cancelled).rcu := by
  have hremove : (s.removeStep j x out .cancelled).rcu = (s.stepEnd x out .cancelled).rcu := (notify_touch ..).rcu
  have hleave : Touches [.pva] (s.removeStep j x out .cancelled) (s.dropStep j x out) :=
    .ite (leaveWaiting_touch ..) (.refl _ _)
  exact hleave.rcu.trans hremove

/-- Over steps that an event does not pick, nothing is done. -/
theorem atSlots_unpicked {which : StepRec → Bool} {act : SlotNo → State → State} (l : List SlotNo)
    (h : ∀ i ∈ l, ∀ y, s.tsq.slots[i] = some y → which y = false) : l.foldl (State.atSlot which act) s = s :=
  atSlots_keep (P := fun t => t = s) (fun t i hi ht => by
    subst ht
    exact atSlot_passed (h i hi)) rfl

theorem not_ended_of_not_named (h : x.names k = false) : endedBy k b x = false ∧ shiftsInto k x = false := by
  simp only [StepRec.names, StepRec.tanks, List.contains_eq_mem, List.mem_append, Option.mem_toList, decide_eq_false_iff_not,
    not_or] at h
  obtain ⟨hsource, hdest⟩ := h
  have htarget : x.targetTank ≠ some k := by
    unfold StepRec.targetTank
    split
    · exact hdest
    · exact hsource
  exact ⟨by simp [endedBy, htarget], by simp [shiftsInto, show x.dest ≠ some k from hdest]⟩

/-- The end of a step before its grant is the only entry in the records, where no other step names the tank (R102, R106). -/
theorem takeBounds_rcu (hqueue : QueueSafe s) (hx : s.tsq.slots[j] = some x) (hended : endedBy k b x = true)
    (hstate : x.state.waitingOrQueued = true)
    (hothers : ∀ (i : SlotNo) (y : StepRec), i ≠ j → s.tsq.slots[i] = some y → y.names k = false) :
    (takeBounds (k, b) s).rcu = (s.stepEnd x .bound .cancelled).rcu := by
  have hj : j ∈ s.tsq.order := safe_order hqueue hx fun e => by rw [e] at hstate; cases hstate
  obtain ⟨before, after, horder, hbefore, -⟩ := order_split hqueue.1 hj
  have hone : State.endOne (endedBy k b) .bound j (s.withBounds k b) =
      ((s.withBounds k b).dropStep j x .bound).grantsBut (endedBy k b) := by
    rw [endOne, endStep_dropped .bound (s := s.withBounds k b) hx hstate]
  have hleft (i : SlotNo) (y : StepRec)
      (hy : (State.endOne (endedBy k b) .bound j (s.withBounds k b)).tsq.slots[i] = some y) : y.names k = false := by
    rw [hone] at hy
    refine grantsBut_keeps (P := fun t => ∀ (i : SlotNo) (y : StepRec), t.tsq.slots[i] = some y → y.names k = false)
      (fun p q z t ht _ _ _ i y hy => ?_) (fun i y hy => ?_) i y hy
    · obtain ⟨x', hx', hplan⟩ := (grant_actsOn p q t).held hy
      exact plan_names hplan k ▸ ht i x' hx'
    · have hij : i ≠ j := fun e => by
        subst e
        rw [dropStep_slot] at hy
        cases hy
      exact hothers i y hij (((dropStep_actsOn (s := s.withBounds k b) .bound).others i hij).symm.trans hy)
  have hends : (s.withBounds k b).endSteps (endedBy k b) .bound = State.endOne (endedBy k b) .bound j (s.withBounds k b) := by
    rw [endSteps_eq, show (s.withBounds k b).tsq.order = before ++ j :: after from horder, List.foldl_append, List.foldl_cons,
      atSlots_unpicked (s := s.withBounds k b) (which := endedBy k b) before fun i hi y hy => (not_ended_of_not_named (hothers i y (fun e => hbefore (e ▸ hi)) hy)).1,
      atSlot_picked (s := s.withBounds k b) hx hended]
    exact atSlots_unpicked (which := endedBy k b) after fun i _ y hy => (not_ended_of_not_named (hleft i y hy)).1
  have hpassed : (s.withBounds k b).boundsPassed k = State.endOne (endedBy k b) .bound j (s.withBounds k b) := by
    rw [boundsPassed_eq, hends, forSteps_eq]
    exact atSlots_unpicked _ fun i _ y hy => (not_ended_of_not_named (b := b) (hleft i y hy)).2
  have hrest : (takeBounds (k, b) s).rcu = ((s.withBounds k b).boundsPassed k).rcu :=
    ((requestRecompute_touch _).seq (grants_touch _)).rcu
  rw [hrest, hpassed, hone, (grantsBut_touch ..).rcu, dropStep_rcu]
  rfl

end Bounds

end Sys2Proof.Machine

namespace Sys2Proof

/- One proof at a time: side by side they take a thread each. -/
set_option Elab.async false

open Machine

/-- Settles O21: BOUNDS_SET slot by slot, BERTH_SET by its own three effects. -/
theorem boundsAndBerthTaken : Obligations.BoundsAndBerthTaken := by
  refine fun s tag hs => ⟨fun k lower upper hrise hupper => ?bounds, fun draft clearance gm hdraft hclearance hgm => ?berth⟩
  case bounds =>
    obtain ⟨t, r, hexec, ht, ha⟩ := taken_of_judge (c := .boundsSet tag (u8 k.val ++ u16 lower ++ u16 upper)) rfl hs
      (f := takeBounds (k, ⟨lower, upper⟩))
      (fun _ => anyPhase_act (act := fun x s => taken (takeBounds x s)) (by simp [lengthIs]) (parseBoundsSet_bytes k hrise hupper))
      (fun _ => takeBounds_steady ..)
    refine ⟨t, hexec, ht.cfg.trans (takeBounds_cfg ..), (ht.cen.trans (takeBounds_cen ..)).trans (requestRecompute_congr rfl rfl rfl),
      fun hqueue hline j x hx => ⟨fun htarget hout => ⟨fun hstate => ?drops, fun hrun => ?winds, fun hstate => ?stands⟩,
        fun hkind hdest hrun hlevel => ?shift⟩,
      ((opened_touch r 0x1A tag s).seq ((takeBounds_touch ..).seq ht)).mono, ha⟩
    case shift =>
      rw [ht.tsq]
      exact takeBounds_shift (s := s.opened r 0x1A tag) hqueue hline hx hkind hdest hrun hlevel
    case drops =>
      have hleave : x.state.waitingOrQueued = true := by rcases hstate with h | h <;> rw [h] <;> rfl
      rw [ht.tsq, ht.rcu]
      exact ⟨takeBounds_drops (s := s.opened r 0x1A tag) hqueue hx (endedBy_outside htarget hout) hleave,
        takeBounds_rcu (s := s.opened r 0x1A tag) hqueue hx (endedBy_outside htarget hout) hleave⟩
    case winds =>
      rw [ht.tsq]
      exact takeBounds_winds (s := s.opened r 0x1A tag) hqueue hline hx (endedBy_outside htarget hout) hrun
    case stands =>
      rw [ht.tsq]
      exact takeBounds_stands (s := s.opened r 0x1A tag) hqueue hline hx hstate
  case berth =>
    obtain ⟨t, r, hexec, ht, hq, ha⟩ := taken_quietly (c := .berthSet tag (u16 draft ++ u16 clearance ++ u16 gm)) rfl hs
      (f := takeBerth ⟨draft, clearance, gm⟩)
      (fun _ => anyPhase_act (act := fun x s => taken (takeBerth x s)) (by simp [lengthIs])
        (parseBerthSet_bytes hdraft hclearance hgm)) (fun _ => (takeBerth_touch ..).lnk)
    have htake := takeBerth_touch ⟨draft, clearance, gm⟩ (s.opened r 0x1B tag)
    refine ⟨t, hexec, ht.berth.trans (requestRecompute_touch _).berth, ht.rcu.trans (requestRecompute_touch _).rcu,
      ht.cen.trans (requestRecompute_congr rfl rfl rfl), ((opened_touch r 0x1B tag s).seq (htake.seq ht)).mono, hq, ha⟩

end Sys2Proof
end

section
/-! PROOFS. What a scan makes of the level channels and of the tanks they feed (R22 to R25, R31, R32, R34). -/

namespace Sys2Proof.Machine

/- One proof at a time: side by side they take a thread each. -/
set_option Elab.async false

open State

/-! ### One sample: the filter's step, the channel after it, and the tank it feeds -/

/-- The step of the filter that a sample makes at a channel; none where the channel is not in LEVEL mode (R23, R24). -/
def sampleStep (c : ChannelConfig) (raw : Sample) (r : ChannelRun) : Option FilterStep :=
  match c, r with
  | .level lo hi span band _, .level _ window run valid =>
    some (filterStep window run valid (sampleLevel lo hi span band raw.toNat))
  | _, _ => none

/-- Whether a sample is valid at a channel (R23). -/
def sampleValid (c : ChannelConfig) (raw : Sample) : Bool :=
  match c with
  | .level lo hi span band _ => (sampleLevel lo hi span band raw.toNat).isSome
  | _ => false

/-- The run state that a judged sample leaves a LEVEL channel in (R24). -/
def FilterStep.run (last : Option (Sample × Bool)) : FilterStep → ChannelRun
  | .quiet window invalidRun valid => .level last window invalidRun valid
  | .deliver window => .level last window 0 true
  | .recover window => .level last window 0 true
  | .goStale => .level last [] 0 false

/-- A channel after a sample (R22 to R24). -/
def ChannelRun.sampled (c : ChannelConfig) (raw : Sample) (r : ChannelRun) : ChannelRun :=
  match sampleStep c raw r with
  | none => r
  | some f => f.run (some (raw, sampleValid c raw))

/-- A tank that takes a level: in SETUP the level alone, else with the figures its table and density give (R34). -/
def TankRun.delivered (setup : Bool) (table : List Point) (density level : Nat) (x : TankRun) : TankRun :=
  if setup then { x with level := level } else x.at table density level

/-- What a judged sample makes of the tank its channel feeds (R25, R34). -/
def FilterStep.feed (setup : Bool) (table : List Point) (density : Nat) (x : TankRun) : FilterStep → TankRun
  | .quiet .. => x
  | .deliver window => x.delivered setup table density (meanLevel window)
  | .recover window => { x with stale := false }.delivered setup table density (meanLevel window)
  | .goStale => { x with stale := true }

/-- The tank that a channel feeds, after a sample there. -/
def State.fedBy (ch : ChannelNo) (raw : Sample) (k : TankNo) (s : State) : TankRun :=
  match sampleStep s.cfg.channels[ch] raw s.fcu.channels[ch] with
  | none => s.tanks[k]
  | some f => f.feed (decide (s.ccl.phase = .setup)) s.cfg.soundings[k] s.cfg.tanks[k].density s.tanks[k]

/-- What a judged sample hands on (R25). -/
def State.handOn (ch : ChannelNo) (f : FilterStep) (s : State) : State :=
  match f, s.cfg.fedTank ch with
  | .quiet .., _ => s
  | .deliver window, some k => s.deliverLevel k (meanLevel window)
  | .deliver _, none => s
  | .recover window, some k => s.goValid (some ch) k (some (meanLevel window))
  | .recover _, none => s.looseChange ch false
  | .goStale, some k => s.goStale (some ch) k
  | .goStale, none => s.looseChange ch true

/-- A sample sets its channel and hands on what the filter makes of it; a channel in another mode takes none (R22 to R25). -/
theorem sampleChannel_eq (ch : ChannelNo) (raw : Sample) (s : State) :
    s.sampleChannel ch raw =
      (sampleStep s.cfg.channels[ch] raw s.fcu.channels[ch]).elim s fun f =>
        (s.setChannel ch (f.run (some (raw, sampleValid s.cfg.channels[ch] raw)))).handOn ch f := by
  unfold sampleChannel
  split
  next lo hi span band bound last window run valid hc hr =>
    have hstep : sampleStep s.cfg.channels[ch] raw s.fcu.channels[ch]
        = some (filterStep window run valid (sampleLevel lo hi span band raw.toNat)) := by rw [hc, hr]; rfl
    rw [hstep, Option.elim_some]
    rw [hc]
    rcases hf : filterStep window run valid (sampleLevel lo hi span band raw.toNat) <;> rcases hk : s.cfg.fedTank ch <;>
      simp only [hf, hk, sampleValid, handOn, FilterStep.run, setChannel_cfg]
  next hno =>
    have hstep : sampleStep s.cfg.channels[ch] raw s.fcu.channels[ch] = none := by
      unfold sampleStep
      split
      next hc hr => exact (hno _ _ _ _ _ _ _ _ _ hc hr).elim
      next => rfl
    rw [hstep]
    rfl

theorem handOn_touch (ch : ChannelNo) (f : FilterStep) (s : State) :
    Touches [.tanks, .lsl, .rcu, .lnk, .tsq, .pva] s (s.handOn ch f) := by
  unfold handOn
  split
  · exact .refl _ s
  · exact deliverLevel_touch ..
  · exact .refl _ s
  · exact goValid_touch ..
  · exact (looseChange_touch ..).mono
  · exact goStale_touch ..
  · exact (looseChange_touch ..).mono

theorem deliverLevel_tanks (k : TankNo) (n : Nat) (s : State) :
    (s.deliverLevel k n).tanks = s.tanks.set k
      (s.tanks[k].delivered (decide (s.ccl.phase = Phase.setup)) s.cfg.soundings[k] s.cfg.tanks[k].density n) := by
  unfold deliverLevel TankRun.delivered
  by_cases h : s.ccl.phase = .setup
  · simp [h]
  · simp only [h, if_false, decide_false, Bool.false_eq_true]
    exact (levelPassed_touch ..).tanks.trans (figures_tanks ..)

theorem goValid_delivers (ch : Option ChannelNo) (k : TankNo) (n : Nat) (s : State) :
    (s.goValid ch k (some n)).tanks = s.tanks.set k
      (TankRun.delivered (decide (s.ccl.phase = Phase.setup)) s.cfg.soundings[k] s.cfg.tanks[k].density n
        { s.tanks[k] with stale := false }) := by
  unfold goValid
  extract_lets _ s₁ s₂ s₃ s₄
  have h₃ : Touches [.rcu] s₂ s₃ := log_touch ..
  have h₄ : Touches [.lnk] s₃ s₄ := notify_touch ..
  have hlast := (h₃.seq (h₄.seq (faultWithdraw_touch (.sensor k) s₄))).tanks
  refine hlast.trans ((deliverLevel_tanks k n s₁).trans ?_)
  simp only [s₁, setTank_tanks, setTank_cfg, setTank_ccl, Fin.getElem_fin, Vector.getElem_set_self, Vector.set_set]
  rfl

theorem handOn_tanks (ch : ChannelNo) (f : FilterStep) (s : State) :
    (s.handOn ch f).tanks =
      (s.cfg.fedTank ch).elim s.tanks fun k => s.tanks.set k
          (f.feed (decide (s.ccl.phase = .setup)) s.cfg.soundings[k] s.cfg.tanks[k].density s.tanks[k]) := by
  unfold handOn
  split
  · rcases s.cfg.fedTank ch with _ | k
    · rfl
    · exact (Vector.set_getElem_self _).symm
  next hk => rw [hk]; exact deliverLevel_tanks ..
  next hk => rw [hk]; rfl
  next hk => rw [hk]; exact goValid_delivers ..
  next hk => rw [hk]; exact (looseChange_touch ..).tanks
  next hk => rw [hk]; exact goStale_tanks ..
  next hk => rw [hk]; exact (looseChange_touch ..).tanks

/-- A sample touches its own channel alone (R22). -/
theorem sampleChannel_fcu (ch : ChannelNo) (raw : Sample) (s : State) :
    (s.sampleChannel ch raw).fcu = { s.fcu with
      channels := s.fcu.channels.set ch (s.fcu.channels[ch].sampled s.cfg.channels[ch] raw) } := by
  rw [sampleChannel_eq]
  unfold ChannelRun.sampled
  rcases sampleStep s.cfg.channels[ch] raw s.fcu.channels[ch] with _ | f
  · simp
  · exact (handOn_touch ..).fcu

/-- A sample touches, of the tanks, the one its channel feeds (R25, R34). -/
theorem sampleChannel_tanks (ch : ChannelNo) (raw : Sample) (s : State) :
    (s.sampleChannel ch raw).tanks =
      (s.cfg.fedTank ch).elim s.tanks fun k => s.tanks.set k (s.fedBy ch raw k) := by
  rw [sampleChannel_eq]
  unfold fedBy
  rcases sampleStep s.cfg.channels[ch] raw s.fcu.channels[ch] with _ | f
  · rcases s.cfg.fedTank ch with _ | k
    · rfl
    · exact (Vector.set_getElem_self _).symm
  · exact handOn_tanks ..

/-! ### The channel that feeds a tank (R25, R30) -/

/-- A channel feeds the tank whose level channel it is (R25, R30). -/
theorem fedTank_iff {c : ConfigTables} {ch : ChannelNo} {k : TankNo} :
    c.fedTank ch = some k ↔ c.levelChannel k = some ch := by
  constructor
  · intro h
    unfold ConfigTables.fedTank at h
    split at h
    · split at h
      next hch => exact Option.some.inj h ▸ hch
      next => cases h
    · cases h
  · intro h
    have hmem : ch ∈ c.boundChannels k := by
      unfold ConfigTables.levelChannel at h
      split at h
      · exact List.mem_of_mem_head? h
      · cases h
    have hfor : c.channels[ch].levelFor k = true := (List.mem_filter.mp hmem).2
    unfold ConfigTables.fedTank
    unfold ChannelConfig.levelFor at hfor
    split at hfor
    next bound hc => rw [hc, beq_iff_eq.mp hfor]; exact if_pos h
    next => cases hfor

/-- A sample at another channel leaves a tank as it is. -/
theorem sampleChannel_tank_other {ch : ChannelNo} {k : TankNo} {s : State} (h : s.cfg.levelChannel k ≠ some ch) (raw : Sample) :
    (s.sampleChannel ch raw).tanks[k] = s.tanks[k] := by
  rw [sampleChannel_tanks]
  rcases hj : s.cfg.fedTank ch with _ | j
  · rfl
  · have hne : j.val ≠ k.val := fun e => h (Fin.ext e ▸ fedTank_iff.mp hj)
    simp [hne]

theorem sampleChannel_tank {ch : ChannelNo} {k : TankNo} {s : State} (h : s.cfg.levelChannel k = some ch) (raw : Sample) :
    (s.sampleChannel ch raw).tanks[k] = s.fedBy ch raw k := by
  rw [sampleChannel_tanks, fedTank_iff.mpr h]
  exact Vector.getElem_set_self ..

/-! ### The samples of a scan, channel by channel -/

/-- One channel of a scan: its sample, and the grant decisions that opens (R22, R116). -/
def State.scanOne (samples : Vector Sample 48) (s : State) (ch : ChannelNo) : State := (s.sampleChannel ch samples[ch]).grants

theorem scanOne_touch (v : Vector Sample 48) (s : State) (ch : ChannelNo) :
    Touches [.fcu, .tanks, .lsl, .rcu, .lnk, .tsq, .pva] s (s.scanOne v ch) :=
  (sampleChannel_touch ..).trans (grants_touch _).mono

theorem scan_eq (v : Vector Sample 48) (s : State) :
    s.scan v = ((List.finRange 48).foldl (State.scanOne v) s).requestRecompute := rfl

theorem scanOne_channel (v : Vector Sample 48) (s : State) (i ch : ChannelNo) :
    (s.scanOne v i).fcu.channels[ch] =
      if ch = i then s.fcu.channels[ch].sampled s.cfg.channels[ch] v[ch] else s.fcu.channels[ch] := by
  rw [scanOne, (grants_touch _).fcu, sampleChannel_fcu]
  split
  next h => subst h; exact Vector.getElem_set_self ..
  next h => exact Vector.getElem_set_ne i.isLt ch.isLt fun e => h (Fin.ext e.symm)

/-- The channels of a list are sampled and the others stand (R22). -/
theorem scanned_channel (v : Vector Sample 48) {l : List ChannelNo} (hl : l.Nodup) (s : State) (ch : ChannelNo) :
    (l.foldl (State.scanOne v) s).fcu.channels[ch] =
      if ch ∈ l then s.fcu.channels[ch].sampled s.cfg.channels[ch] v[ch] else s.fcu.channels[ch] := by
  induction l generalizing s with
  | nil => rfl
  | cons i l ih =>
    obtain ⟨hi, hl⟩ := List.nodup_cons.mp hl
    rw [List.foldl_cons, ih hl, scanOne_channel, (scanOne_touch v s i).cfg]
    by_cases h : ch = i
    · subst h; simp [hi]
    · simp [h]

/-- A tank takes the sample of its level channel where the list holds that channel, and stands otherwise (R25). -/
theorem scanned_tank (v : Vector Sample 48) {l : List ChannelNo} (hl : l.Nodup) (s : State) {ch : ChannelNo} {k : TankNo}
    (hch : s.cfg.levelChannel k = some ch) :
    (l.foldl (State.scanOne v) s).tanks[k] = if ch ∈ l then s.fedBy ch v[ch] k else s.tanks[k] := by
  induction l generalizing s with
  | nil => rfl
  | cons i l ih =>
    obtain ⟨hi, hl⟩ := List.nodup_cons.mp hl
    have hone := scanOne_touch v s i
    have htanks : (s.scanOne v i).tanks = (s.sampleChannel i v[i]).tanks := (grants_touch _).tanks
    rw [List.foldl_cons, ih hl _ (by rw [hone.cfg]; exact hch), fedBy, scanOne_channel, htanks, hone.cfg, hone.ccl]
    by_cases h : ch = i
    · subst h
      simp only [hi, if_false, List.mem_cons_self, if_true]
      exact sampleChannel_tank hch _
    · rw [sampleChannel_tank_other (fun e => h (Option.some.inj (hch.symm.trans e)))]
      simp [h, fedBy]

end Sys2Proof.Machine
end

section
/-! PROOFS. Channels, tanks and the scan period: what every step keeps (R20, R21, R24, R30). -/

namespace Sys2Proof.Machine

/- One proof at a time: side by side they take a thread each. -/
set_option Elab.async false

open State

/-! ### Steps that keep the field's promises -/

/-- The field's promises are kept from one state to another. -/
structure KeepsField (s t : State) : Prop where
  safe : FieldSafe s → FieldSafe t

/-- Whether a channel in a run state leaves the tank it feeds STALE (R30). -/
def ChannelRun.isStale : ChannelRun → Bool
  | .level _ _ _ valid => !valid
  | _ => true

theorem shouldBeStale_eq (k : TankNo) (s : State) :
    s.shouldBeStale k = (s.cfg.levelChannel k).elim true fun ch => s.fcu.channels[ch].isStale := by
  unfold shouldBeStale ChannelRun.isStale
  cases s.cfg.levelChannel k <;> rfl

/-- A tank's STALE flag goes by the channels' modes and bindings, the tanks' metering and the channels' run states (R30). -/
theorem shouldBeStale_same {s t : State} (hchannels : t.cfg.channels = s.cfg.channels) (htanks : t.cfg.tanks = s.cfg.tanks)
    (hfcu : t.fcu = s.fcu) (k : TankNo) : t.shouldBeStale k = s.shouldBeStale k := by
  simp only [shouldBeStale_eq, ConfigTables.levelChannel, ConfigTables.boundChannels, hchannels, htanks, hfcu]

namespace KeepsField

variable {s t u : State}

theorem refl (s : State) : KeepsField s s := ⟨id⟩

theorem trans (h : KeepsField s t) (g : KeepsField t u) : KeepsField s u := ⟨g.safe ∘ h.safe⟩

theorem ite {c : Prop} [Decidable c] (h : KeepsField s t) (g : KeepsField s u) : KeepsField s (if c then t else u) := by
  split <;> assumption

theorem foldl {α : Type} {f : State → α → State} (h : ∀ s a, KeepsField s (f s a)) (as : List α) (s : State) :
    KeepsField s (as.foldl f s) := by
  induction as generalizing s with
  | nil => exact refl s
  | cons a as ih => exact (h s a).trans (ih (f s a))

/-- The channels and the clock stand, and each tank is STALE as it was. -/
theorem of_same (hpowered : t.powered = s.powered) (hnow : t.now = s.now) (hfcu : t.fcu = s.fcu)
    (hchannels : t.cfg.channels = s.cfg.channels) (htanks : t.cfg.tanks = s.cfg.tanks)
    (hstale : ∀ k : TankNo, t.tanks[k].stale = s.tanks[k].stale) : KeepsField s t where
  safe h := by
    obtain ⟨hfits, hflags, hperiod⟩ := h
    refine ⟨fun ch => ?_, fun k => ?_, ?_⟩
    · rw [hchannels, hfcu]; exact hfits ch
    · rw [hstale, shouldBeStale_same hchannels htanks hfcu]; exact hflags k
    · rw [hpowered, hnow, hfcu]; exact hperiod

/-- An operation on other parts than the tables, the channels, the tanks and the clock. -/
theorem of_touches {l : List Part} (h : Touches l s t) (hpowered : Part.powered ∉ l := by decide) (hcfg : Part.cfg ∉ l := by decide)
    (hfcu : Part.fcu ∉ l := by decide) (htanks : Part.tanks ∉ l := by decide) (hnow : Part.now ∉ l := by decide) :
    KeepsField s t :=
  of_same (h.powered hpowered) (h.now hnow) (h.fcu hfcu) (by rw [h.cfg hcfg]) (by rw [h.cfg hcfg])
    fun k => by rw [h.tanks htanks]

/-- Tables are written other than those of channels and tanks. -/
theorem of_cfg {c : ConfigTables} (hchannels : c.channels = s.cfg.channels) (htanks : c.tanks = s.cfg.tanks) :
    KeepsField s { s with cfg := c } := of_same rfl rfl rfl hchannels htanks fun _ => rfl

end KeepsField

/-! ### Tanks -/

theorem setTank_keepsField {k : TankNo} {x : TankRun} {s : State} (h : x.stale = s.tanks[k].stale) :
    KeepsField s (s.setTank k x) := by
  refine .of_same rfl rfl rfl rfl rfl fun j => ?_
  simp only [setTank_tanks, Fin.getElem_fin, Vector.getElem_set]
  split
  next e => simpa [← Fin.ext e] using h
  next => rfl

theorem lockTank_keepsField (k : TankNo) (why : Lock) (s : State) : KeepsField s (s.lockTank k why) := by
  unfold lockTank
  extract_lets _ s₁ s₂
  have h₁ : KeepsField s s₁ := setTank_keepsField rfl
  have h₂ : KeepsField s₁ s₂ := .of_touches (log_touch ..)
  exact h₁.trans (h₂.trans (.of_touches ((endSteps_touch _ .locked s₂).seq (requestRecompute_touch _))))

theorem unlockTank_keepsField (k : TankNo) (s : State) : KeepsField s (s.unlockTank k) :=
  (setTank_keepsField (k := k) (x := { s.tanks[k] with lock := .unlocked }) rfl).trans
    ((KeepsField.of_touches (log_touch ..)).trans (.of_touches (requestRecompute_touch _)))

theorem failedToClose_keepsField (v : ValveNo) (s : State) : KeepsField s (s.failedToClose v) := by
  unfold failedToClose
  split
  · exact .refl s
  · exact .ite (.refl s) (lockTank_keepsField ..)

theorem updateTanks_keepsField (s : State) : KeepsField s s.updateTanks := by
  refine .foldl (fun s k => ?_) _ s
  generalize (if s.cfg.tanks[k].metered then s.tanks[k].level else s.cfg.tanks[k].fixedLevel) = n
  have h := figures_touch k n s
  refine .of_same h.powered h.now h.fcu (by rw [h.cfg]) (by rw [h.cfg]) fun j => ?_
  rw [figures_tanks]
  simp only [Fin.getElem_fin, Vector.getElem_set]
  split
  next e => simp [TankRun.at, ← Fin.ext e]
  next => rfl

/-! ### Valves and pumps -/

theorem judgeAtRest_keepsField (v : ValveNo) (was : Proved) (s : State) : KeepsField s (s.judgeAtRest v was) := by
  have h (c : ValveCause) (n : Nat) : KeepsField s ((s.markValve v).reportValve v c n) :=
    .of_touches ((markValve_touch v s).seq (reportValve_touch v c n _))
  unfold judgeAtRest
  refine .ite (.ite ?_ (.refl s)) (.ite ((h ..).trans (failedToClose_keepsField v _)) (.refl s))
  split
  · exact .refl s
  · split
    · exact .of_touches (lineupFailed_touch ..)
    · exact (h ..).trans (.of_touches (markStep_touch ..))
    · exact h ..

theorem valveFeedback_keepsField (v : ValveNo) (a : Bool) (s : State) : KeepsField s (s.valveFeedback v a) := by
  unfold valveFeedback
  extract_lets y was y₁ s₁
  have h₁ : KeepsField s s₁ := .of_touches (setValve_touch ..)
  have h₂ : KeepsField s (s₁.setValve v { y₁ with watch := .absent }) := h₁.trans (.of_touches (setValve_touch ..))
  split
  · refine .ite ?_ h₁
    split
    · exact h₂.trans (.of_touches (checkLineup_touch ..))
    · exact h₂
  · refine .ite h₁ ?_
    split
    · exact h₂.trans (.of_touches (checkClosed_touch ..))
    · exact h₂
  · exact .ite h₁ (h₁.trans (judgeAtRest_keepsField ..))

theorem deliverSwitch_keepsField (ch : ChannelNo) (a : Bool) (s : State) : KeepsField s (s.deliverSwitch ch a) :=
  (KeepsField.foldl (fun s p => .of_touches ((runFeedback_touch p a s).seq (grants_touch _))) _ s).trans
    (.foldl (fun s v => (valveFeedback_keepsField v a s).trans (.of_touches (grants_touch _))) _ _)

theorem addCloseFailed_touch (v : ValveNo) (k : SlotNo) (s : State) : Touches [.tsq] s (s.addCloseFailed v k) := by
  unfold addCloseFailed
  split
  · exact setStep_touch ..
  · exact .refl _ _

theorem closeTimeout_keepsField (v : ValveNo) (s : State) : KeepsField s (s.closeTimeout v) := by
  unfold closeTimeout
  split
  · extract_lets holder number _ s₁ s₂
    have h₁ : KeepsField s s₁ := .of_touches (setValve_touch ..)
    have h₂ : KeepsField s₁ s₂ :=
      (KeepsField.of_touches (reportValve_touch v .close number s₁)).trans (failedToClose_keepsField v _)
    clear_value holder
    rcases holder with _ | ⟨k, _⟩
    · exact h₁.trans h₂
    · exact h₁.trans (h₂.trans ((KeepsField.of_touches (addCloseFailed_touch v k s₂)).trans (.of_touches (checkClosed_touch ..))))
  · exact .refl s

/-! ### Channels -/

/-- A channel's run state is replaced by one of the same mode that leaves the tank it feeds as STALE as before. -/
theorem setChannel_keepsField {ch : ChannelNo} {r : ChannelRun} {s : State}
    (hfits : ∀ c, ChannelRun.fits c s.fcu.channels[ch] = true → ChannelRun.fits c r = true)
    (hstale : r.isStale = s.fcu.channels[ch].isStale) : KeepsField s (s.setChannel ch r) where
  safe := by
    rintro ⟨hsafe, hflags, hperiod⟩
    have hget (j : ChannelNo) : (s.setChannel ch r).fcu.channels[j] = if ch.val = j.val then r else s.fcu.channels[j] := by
      simp only [setChannel_fcu, Fin.getElem_fin, Vector.getElem_set]
    refine ⟨fun j => ?_, fun k => (hflags k).trans ?_, hperiod⟩
    · rw [hget]
      split
      next e => obtain rfl := Fin.ext e; exact hfits _ (hsafe _)
      next => exact hsafe j
    · rw [shouldBeStale_eq, shouldBeStale_eq, setChannel_cfg]
      congr 1
      funext j
      rw [hget]
      split
      next e => obtain rfl := Fin.ext e; exact hstale.symm
      next => rfl

theorem contactChange_keepsField (ch : ChannelNo) (s : State) : KeepsField s (s.contactChange ch) := by
  unfold contactChange
  split
  next hr =>
    exact setChannel_keepsField (fun c => by rw [hr]; cases c <;> exact id) (by rw [hr]; rfl)
  next => exact .refl s

theorem debounced_keepsField (ch : ChannelNo) (s : State) : KeepsField s (s.debounced ch) := by
  unfold debounced
  split
  next hr =>
    have hset (d : Option Bool) (since : Nat) (changed : Option Nat) : KeepsField s (s.setChannel ch (.switch d since changed)) :=
      setChannel_keepsField (fun c => by rw [hr]; cases c <;> exact id) (by rw [hr]; rfl)
    exact .ite (.refl s) (.ite ((hset ..).trans (deliverSwitch_keepsField ..))
      (.ite ((hset ..).trans (.of_touches (notify_touch ..))) (hset ..)))
  next => exact .refl s

theorem countPulse_keepsField (ch : ChannelNo) (s : State) : KeepsField s (s.countPulse ch) := by
  unfold countPulse
  split
  next hr =>
    exact (setChannel_keepsField (fun c => by rw [hr]; cases c <;> exact id) (by rw [hr]; rfl)).trans
      (.foldl (fun s p => .of_touches (pulse_touch p _ s)) _ _)
  next => exact .refl s

/-! ### The scan -/

/-- The table of R24 keeps the window and the invalid run within their bounds. -/
theorem filterStep_fits {lo hi span band run : Nat} {bound : Option TankNo} {last last' : Option (Sample × Bool)}
    {window : List Nat} {valid : Bool}
    (h : ChannelRun.fits (.level lo hi span band bound) (.level last window run valid) = true) (level : Option Nat) :
    ChannelRun.fits (.level lo hi span band bound) ((filterStep window run valid level).run last') = true := by
  cases valid with
  | false =>
    obtain ⟨hlen, -⟩ : window.length ≤ 3 ∧ run = 0 := by simpa [ChannelRun.fits] using h
    rcases level with _ | n
    · rfl
    · by_cases hw : window.length < 3
      · simp [filterStep, hw, FilterStep.run, ChannelRun.fits]
      · simp [filterStep, hw, FilterStep.run, ChannelRun.fits]
        omega
  | true =>
    obtain ⟨hlen, -⟩ : window.length = 4 ∧ run ≤ 2 := by simpa [ChannelRun.fits] using h
    rcases level with _ | n
    · by_cases hrun : run < 2
      · simp [filterStep, hrun, FilterStep.run, ChannelRun.fits, hlen]
      · simp [filterStep, hrun, FilterStep.run, ChannelRun.fits]
    · simp [filterStep, FilterStep.run, ChannelRun.fits, hlen]

/-- A sample leaves a channel in its mode, its window and invalid run within their bounds (R20, R24). -/
theorem sampled_fits {c : ChannelConfig} {r : ChannelRun} (h : ChannelRun.fits c r = true) (raw : Sample) :
    ChannelRun.fits c (r.sampled c raw) = true := by
  unfold ChannelRun.sampled
  rcases hf : sampleStep c raw r with _ | f
  · exact h
  · unfold sampleStep at hf
    split at hf
    · exact Option.some.inj hf ▸ filterStep_fits h _
    · cases hf

/-- The table of R24 makes the tank fed as STALE as the channel (R25, R30). -/
theorem filterStep_stale {window : List Nat} {run : Nat} {valid : Bool} {x : TankRun} (h : x.stale = !valid)
    (level : Option Nat) (last : Option (Sample × Bool)) (setup : Bool) (table : List Point) (density : Nat) :
    ((filterStep window run valid level).feed setup table density x).stale =
      ((filterStep window run valid level).run last).isStale := by
  have hdelivered (n : Nat) (y : TankRun) : (y.delivered setup table density n).stale = y.stale := by
    cases setup <;> rfl
  unfold filterStep
  split
  · simp [FilterStep.feed, FilterStep.run, ChannelRun.isStale, hdelivered, h]
  · split <;> simp [FilterStep.feed, FilterStep.run, ChannelRun.isStale, h]
  · split <;> simp [FilterStep.feed, FilterStep.run, ChannelRun.isStale, hdelivered, h]
  · simp [FilterStep.feed, FilterStep.run, ChannelRun.isStale, h]

/-- A sample at a tank's level channel leaves the tank as STALE as the channel (R25, R30). -/
theorem fedBy_stale {ch : ChannelNo} {k : TankNo} {s : State} (h : s.tanks[k].stale = s.fcu.channels[ch].isStale) (raw : Sample) :
    (s.fedBy ch raw k).stale = (s.fcu.channels[ch].sampled s.cfg.channels[ch] raw).isStale := by
  unfold fedBy ChannelRun.sampled
  rcases hf : sampleStep s.cfg.channels[ch] raw s.fcu.channels[ch] with _ | f
  · exact h
  · unfold sampleStep at hf
    split at hf
    next hr =>
      rw [hr] at h
      exact Option.some.inj hf ▸ filterStep_stale h ..
    next => cases hf

theorem sampleChannel_keepsField (ch : ChannelNo) (raw : Sample) (s : State) : KeepsField s (s.sampleChannel ch raw) where
  safe := by
    rintro ⟨hsafe, hflags, hperiod⟩
    have htouch := sampleChannel_touch ch raw s
    have hget (j : ChannelNo) : (s.sampleChannel ch raw).fcu.channels[j] =
        if ch.val = j.val then s.fcu.channels[j].sampled s.cfg.channels[j] raw else s.fcu.channels[j] := by
      rw [sampleChannel_fcu]
      simp only [Fin.getElem_fin, Vector.getElem_set]
      split
      next e => simp only [e]
      next => rfl
    refine ⟨fun j => ?_, fun k => ?_, ?_⟩
    · rw [hget, htouch.cfg]
      split
      · exact sampled_fits (hsafe j) raw
      · exact hsafe j
    · rw [shouldBeStale_eq, htouch.cfg]
      have hflag := (hflags k).trans (shouldBeStale_eq k s)
      rcases hch : s.cfg.levelChannel k with _ | j
      · rw [hch] at hflag
        rw [sampleChannel_tank_other (by rw [hch]; exact fun e => nomatch e)]
        exact hflag
      · rw [hch] at hflag
        rw [Option.elim_some, hget]
        split
        next e =>
          obtain rfl := Fin.ext e
          rw [sampleChannel_tank hch]
          exact fedBy_stale hflag raw
        next e =>
          rw [sampleChannel_tank_other (fun h => e (by rw [Option.some.inj (hch.symm.trans h)]))]
          exact hflag
    · rw [htouch.powered, htouch.now, sampleChannel_fcu]
      exact hperiod

theorem scan_keepsField (v : Vector Sample 48) (s : State) : KeepsField s (s.scan v) :=
  (KeepsField.foldl (fun s ch => (sampleChannel_keepsField ch _ s).trans (.of_touches (grants_touch _))) _ s).trans
    (.of_touches (requestRecompute_touch _))

end Sys2Proof.Machine
end

section
/-! PROOFS. The field's promises, command by command (R20, R21, R24, R30). -/

namespace Sys2Proof.Machine

/- One proof at a time: side by side they take a thread each. -/
set_option Elab.async false

open State

/-! ### Tables and calls -/

theorem writePump_keepsField (x : PumpNo × PumpConfig) (s : State) : KeepsField s (writePump x s) := by
  have hcfg : KeepsField s { s with cfg := { s.cfg with pumps := s.cfg.pumps.set x.1 x.2 } } := .of_cfg rfl rfl
  unfold writePump
  split
  · exact hcfg
  · exact .ite hcfg (hcfg.trans (.of_touches (bindPump_touch ..)))

theorem writeValve_keepsField (x : ValveNo × ValveConfig) (s : State) : KeepsField s (writeValve x s) := by
  have hcfg : KeepsField s { s with cfg := { s.cfg with valves := s.cfg.valves.set x.1 x.2 } } := .of_cfg rfl rfl
  unfold writeValve
  split
  · exact hcfg
  · refine .ite hcfg (hcfg.trans ?_)
    unfold bindValve
    split
    · exact .refl _
    · exact valveFeedback_keepsField ..
    · exact .of_touches (setValve_touch ..)

/-- After TANK_SET the flags follow the tables (R30). -/
theorem writeTank_keepsField (x : TankNo × TankConfig) (s : State) : KeepsField s (writeTank x s) where
  safe := by
    rintro ⟨hfits, -, hperiod⟩
    have h := writeTank_touch x s
    refine ⟨fun ch => ?_, fun k => by rw [writeTank_tank], by rw [h.powered, h.now, h.fcu]; exact hperiod⟩
    rw [writeTank_cfg, h.fcu]
    exact hfits ch

theorem freshChannel_fits (now : Nat) (c : ChannelConfig) : ChannelRun.fits c (freshChannel now c) = true := by
  cases c <;> rfl

theorem freshChannel_isStale (now : Nat) (c : ChannelConfig) : (freshChannel now c).isStale = true := by
  cases c <;> rfl

/-- After CHANNEL_SET the channel is fresh in its mode and the flags follow the tables (R20, R30). -/
theorem writeChannel_keepsField (x : ChannelNo × ChannelConfig) (s : State) : KeepsField s (writeChannel x s) where
  safe := by
    rintro ⟨hfits, -, hperiod⟩
    have h := writeChannel_touch x s
    refine ⟨fun ch => ?_, fun k => by rw [writeChannel_tank], by rw [h.powered, h.now, writeChannel_fcu]; exact hperiod⟩
    rw [writeChannel_cfg, writeChannel_fcu]
    simp only [Fin.getElem_fin, Vector.getElem_set]
    split
    · exact freshChannel_fits ..
    · exact hfits ch

theorem takeBounds_keepsField (x : TankNo × Bounds) (s : State) : KeepsField s (takeBounds x s) := by
  obtain ⟨k, b⟩ := x
  have h := takeBounds_touch (k, b) s
  exact .of_same h.powered h.now h.fcu (by rw [takeBounds_cfg]; rfl) (by rw [takeBounds_cfg]; rfl) fun j => by rw [h.tanks]

theorem enterPhase_keepsField (d : Phase) (s : State) : KeepsField s (s.enterPhase d) := .of_touches (enterPhase_touch d s)

theorem moveReady_keepsField (s : State) : KeepsField s s.moveReady :=
  (updateTanks_keepsField s).trans ((KeepsField.of_touches (touch_ccl _ _)).trans ((enterPhase_keepsField ..).trans
    (.of_touches (requestRecompute_touch _))))

theorem judgePhaseSet_keepsField (dest : Phase) (s : State) : KeepsField s (judgePhaseSet dest s).1 := by
  have hentered (d : Phase) (u : State) : KeepsField u (u.enterPhase d).requestRecompute :=
    (enterPhase_keepsField ..).trans (.of_touches (requestRecompute_touch _))
  have hnew := moveNewCall_touch s
  unfold judgePhaseSet
  split
  · split
    · exact .refl s
    · rw [moved_fst]
      exact moveReady_keepsField s
  · split
    · exact (KeepsField.of_touches ((abandonEngine_touch s).seq (removeChecking_touch ..))).trans (enterPhase_keepsField ..)
    · exact .refl s
  · have hstart : KeepsField s s.takeStart.takeArrival := .of_touches ((touch_ptr s _).seq (touch_rcu _ _))
    exact hstart.trans (hentered .loading _)
  · split
    · exact hentered .final s
    · exact .refl s
  · split
    · exact .of_touches hnew
    · exact .refl s
  · exact .refl s

theorem restart_touch (s : State) : Touches [.pva, .tsq, .rcu, .lnk, .cen, .pmu, .ccl] s s.restart := by
  unfold restart
  extract_lets s₁ s₂ s₃
  have h₁ : Touches [.pva, .tsq, .rcu, .lnk] s s₁ := (restartPlant_touch s).seq (restartSteps_touch _)
  have h₂ : Touches [.pva] s₁ s₂ := touch_pva s₁ _
  have hpermit (u : State) : Touches [.lnk, .pmu, .rcu] u u.restartPermit :=
    ((withdraw_touch ..).seq ((touch_pmu _ _).seq (evalPermit_touch ..))).mono
  have hrecords (u : State) : Touches [.rcu] u u.restartRecords := (touch_rcu u _).trans (log_touch ..)
  have h₃ : Touches [.lnk, .cen, .pmu, .rcu] s₂ s₃ := ((restartEngine_touch s₂).seq ((hpermit _).seq (hrecords _))).mono
  exact (h₁.seq (h₂.seq (h₃.seq (touch_ccl s₃ _)))).mono

theorem writeStop_keepsField (x : StopSettings) (s : State) : KeepsField s (writeStop x s) :=
  KeepsField.trans (.of_cfg (c := { s.cfg with stop := x }) rfl rfl) (.of_touches (stopChange_touch ..))

theorem takeAlarmSet_keepsField (x : AlarmSettings) (s : State) : KeepsField s (takeAlarmSet x s) :=
  .of_same rfl rfl rfl rfl rfl fun _ => rfl

/-! ### The judgements of the requests -/

theorem taken_keepsField {s t : State} (h : KeepsField s t) {body : List Byte} : KeepsField s (taken t body).1 := h

theorem judgeUnlock_keepsField (k : TankNo) (s : State) : KeepsField s (judgeUnlock k s).1 := by
  unfold judgeUnlock
  split
  · exact .refl s
  · exact unlockTank_keepsField k s
  · split
    · exact .refl s
    · exact unlockTank_keepsField k s

theorem judgeConditionGet_keepsField (part : ConditionPart) (s : State) : KeepsField s (judgeConditionGet part s).1 := by
  unfold judgeConditionGet
  split <;> exact .refl s

theorem judgeStopAck_keepsField (s : State) : KeepsField s (judgeStopAck s).1 := by
  unfold judgeStopAck
  split
  · exact .refl s
  · split
    · exact .refl s
    · exact .of_touches (stopChange_touch ..)

theorem judgeStepCancel_keepsField (n : Nat) (s : State) : KeepsField s (judgeStepCancel n s).1 := by
  unfold judgeStepCancel
  split
  · exact .refl s
  · split
    · exact .refl s
    · split
      · exact .of_touches (setStep_touch ..)
      · exact .refl s
      · exact .of_touches ((endStep_touch ..).seq (grants_touch _))

theorem judgeStepPin_keepsField (n : Nat) (s : State) : KeepsField s (judgeStepPin n s).1 := by
  have h (pin : Option Nat) : KeepsField s (State.grants { s with pva := { s.pva with pin := pin } }) :=
    .of_touches ((touch_pva s _).seq (grants_touch _))
  unfold judgeStepPin
  split
  · exact h none
  · split
    · exact .refl s
    · split
      · exact h (some n)
      · exact .refl s

theorem clearFault_keepsField {item : ClearItem} {s t : State} (h : s.clearFault item = some t) : KeepsField s t := by
  cases item <;> simp only [clearFault] at h <;> split at h
  all_goals cases h
  · exact .of_touches ((setPump_touch ..).seq (faultWithdraw_touch ..))
  · exact .of_touches ((setPump_touch ..).seq (faultWithdraw_touch ..))
  · exact .of_touches ((setValve_touch ..).seq (faultWithdraw_touch ..))
  · exact .of_touches (touch_pva s _)

theorem judgeFaultClear_keepsField (item : ClearItem) (s : State) : KeepsField s (judgeFaultClear item s).1 := by
  unfold judgeFaultClear
  split
  · exact .refl s
  · exact (clearFault_keepsField ‹_›).trans (.of_touches (grants_touch _))

theorem judgePermitSet_keepsField (c : PermitConfig) (s : State) : KeepsField s (judgePermitSet c s).1 := by
  have hcfg : KeepsField s (s.setPermitConfig c) := .of_cfg rfl rfl
  unfold judgePermitSet
  extract_lets held
  split
  · exact hcfg.trans (.of_touches ((reportConditions_touch _).seq (stopTaken_touch ..)))
  · split
    · exact .refl s
    · split
      · exact .refl s
      · exact hcfg.trans (.of_touches ((retime_touch _).seq (permitEvent_touch ..)))

theorem challengeEvent_touch (j : Judgement) (e : Nat) (s : State) : Touches [.pmu, .lsl, .rcu, .lnk] s (s.challengeEvent j e) := by
  cases j with
  | early => exact attendanceEvent_touch ..
  | late => exact attendanceEvent_touch ..
  | good => exact permitEvent_touch ..
  | none => exact .refl _ s
  | wrong => exact .refl _ s

theorem answerEvent_touch (j : Judgement) (e : Nat) (s : State) : Touches [.pmu, .lsl, .rcu, .lnk] s (s.answerEvent j e) := by
  cases j with
  | good => exact ((touch_pmu s _).seq (permitEvent_touch ..)).mono
  | early => exact attendanceEvent_touch ..
  | late => exact attendanceEvent_touch ..
  | wrong => exact attendanceEvent_touch ..
  | none => exact .refl _ s

theorem takeChallenge_touch (s : State) : Touches [.pmu, .lsl, .rcu, .lnk] s (takeChallenge s).1 := by
  unfold takeChallenge
  split
  · exact startCheck_touch s
  · exact ((attendanceEvent_touch ..).seq (startAnswerTimer_touch _)).mono
  · extract_lets e j
    exact ((challengeEvent_touch j e s).seq ((withdraw_touch ..).seq (startAnswerTimer_touch _))).mono

theorem judgeAnswerRequest_touch (n : Nat) (s : State) : Touches [.pmu, .lsl, .rcu, .lnk] s (judgeAnswerRequest n s).1 := by
  unfold judgeAnswerRequest
  split
  · exact .refl _ s
  · exact attendanceEvent_touch ..
  · extract_lets e j
    exact ((answerEvent_touch j e s).seq (startChallengeTimer_touch _)).mono

theorem judgeReportCompose_keepsField (interim : Bool) (s : State) : KeepsField s (judgeReportCompose interim s).1 := by
  unfold judgeReportCompose
  split
  · exact .refl s
  · split
    · exact .refl s
    · split
      · exact .refl s
      · exact .of_touches (touch_rcu s _)

theorem judgeStoreWrite_keepsField (item : StoreItem) (s : State) : KeepsField s (judgeStoreWrite item s).1 := by
  unfold judgeStoreWrite
  split
  · exact .refl s
  · split
    · exact .of_touches (touch_sst s _)
    · exact .refl s
    · exact .of_touches (touch_sst s _)

theorem judgePlanLoad_keepsField (body : List Byte) (s : State) : KeepsField s (judgePlanLoad body s).1 := by
  unfold judgePlanLoad
  split
  · exact .refl s
  · split
    · exact .refl s
    · split
      · exact .refl s
      · exact .of_touches (touch_ptr s _)

theorem beginPour_touch (l : Loader) (pour : Nat) (hold : HoldNo) (s : State) :
    Touches [.ptr, .rcu, .pmu, .lsl, .lnk, .tsq, .pva, .cen] s (s.beginPour l pour hold) := by
  unfold beginPour
  extract_lets permit slot s₁ s₂ s₃ s₄ s₅
  have h₁ : Touches [.ptr] s s₁ := touch_ptr s _
  have h₂ : Touches [.ptr] s₁ s₂ := by
    unfold s₂
    split
    · exact .refl _ s₁
    · exact touch_ptr s₁ _
  have h₃ : Touches [.rcu] s₂ s₃ := log_touch ..
  have h₄ : Touches [.pmu, .lsl, .rcu, .lnk] s₃ s₄ := .ite (.refl _ s₃) (permitEvent_touch ..)
  have h₅ : Touches [.tsq, .lnk, .pva] s₄ s₅ := .ite (.refl _ s₄) (takeEdge_touch ..)
  exact (h₁.seq (h₂.seq (h₃.seq (h₄.seq (h₅.seq ((requestRecompute_touch _).seq (grants_touch _))))))).mono

theorem judgePourBegin_keepsField (x : Loader × Nat × Option HoldNo) (s : State) : KeepsField s (judgePourBegin x s).1 := by
  obtain ⟨l, pour, named⟩ := x
  simp only [judgePourBegin]
  split
  · exact .refl s
  · split
    · exact .refl s
    · split
      · exact .refl s
      · exact .of_touches (beginPour_touch ..)

theorem judgePourProgress_keepsField (a : Loader × Nat) (s : State) : KeepsField s (judgePourProgress a s).1 := by
  unfold judgePourProgress
  split
  · exact .refl s
  · have hcredit (x : Pour) : Touches [.ptr] s (s.creditPour a.1 x a.2) := by
      unfold creditPour
      split
      · exact .refl _ s
      · exact touch_ptr s _
    exact .of_touches ((hcredit _).seq (requestRecompute_touch _))

theorem endPour_touch (l : Loader) (x : Pour) (final : Nat) (s : State) :
    Touches [.ptr, .choices, .rcu, .pmu, .lsl, .lnk, .tsq, .pva, .cen] s (s.endPour l x final).1 := by
  unfold endPour
  extract_lets checked s₁ mass s₂ code s₃ s₄ s₅
  have h₁ : Touches [.ptr] s s₁ := touch_ptr s _
  have h₂ : Touches [.ptr, .choices, .pmu, .lsl, .rcu, .lnk] s₁ s₂ := by
    simp only [s₂]
    generalize checked = result
    rcases result with _ | ⟨e, r⟩
    · exact .refl _ s₁
    · exact (touch_ptr s₁ _).seq (handPace_touch ..)
  have h₃ : Touches [.rcu] s₂ s₃ := log_touch ..
  have h₄ : Touches [.tsq, .lnk, .pva] s₃ s₄ := .ite (.refl _ s₃) (takeEdge_touch ..)
  have h₅ : Touches [.lnk] s₄ s₅ := notify_touch ..
  exact (h₁.seq (h₂.seq (h₃.seq (h₄.seq (h₅.seq ((requestRecompute_touch _).seq (grants_touch _))))))).mono

theorem judgePourEnd_keepsField (a : Loader × Nat) (s : State) : KeepsField s (judgePourEnd a s).1 := by
  unfold judgePourEnd
  split
  · exact .refl s
  · exact .of_touches (endPour_touch ..)

theorem judgePredict_keepsField (tag : Tag) (body : List Byte) (r : ReplyNo) (s : State) :
    KeepsField s (judgePredict tag body r s).1 := by
  unfold judgePredict
  split
  · exact .refl s
  · split
    · exact .refl s
    · split
      · exact .refl s
      · split
        · exact .of_touches (queuePrediction_touch _ s)
        · exact .refl s

theorem judgeStepAdd_keepsField (body : List Byte) (r : ReplyNo) (s : State) : KeepsField s (judgeStepAdd body r s).1 := by
  unfold judgeStepAdd
  split
  · exact .refl s
  · split
    · exact .refl s
    · split
      · exact .refl s
      · split
        · exact .refl s
        · exact .of_touches (reserveStep_touch ..)
        · exact .refl s

theorem judgeCallSet_keepsField (body : List Byte) (s : State) : KeepsField s (judgeCallSet body s).1 := by
  unfold judgeCallSet
  split
  · exact .refl s
  · split
    · exact .refl s
    · split
      · exact .refl s
      · exact .of_touches (touch_ccl s _)

/-! ### A request served, and an event -/

theorem event_keepsField {f : State → State} {s : State} (h : KeepsField s (f s)) : KeepsField s (s.event f) :=
  .ite (h.trans (.of_touches (transmit_touch _))) (.refl s)

theorem serve_keepsField {judge : ReplyNo → State → Judged} {kind : Byte} {tag : Tag} {s : State}
    (hjudge : ∀ r u, KeepsField u (judge r u).1) : KeepsField s (s.serve kind tag judge) := by
  refine event_keepsField ?_
  extract_lets _ s₁
  have hhunt : KeepsField s s₁ := .of_touches (touch_lnk s _)
  split
  · exact hhunt
  next r _ =>
    have hopen : KeepsField s (s₁.reserve r kind tag) := hhunt.trans (.of_touches (reserve_touch ..))
    have hjudged := hopen.trans (hjudge r _)
    generalize judge r (s₁.reserve r kind tag) = j at hjudged
    obtain ⟨t, _ | a⟩ := j
    · exact hjudged
    · exact hjudged.trans (.of_touches (reply_touch ..))

section Judged
variable {α : Type} {lengthOk : Bool} {operands : Option α}

theorem tableWrite_keepsField {write : α → State → State} (hkeeps : ∀ x s, KeepsField s (write x s)) (s : State) :
    KeepsField s (tableWrite lengthOk operands write s).1 := by
  unfold tableWrite
  split
  · exact .refl s
  · split
    · exact .refl s
    · split
      · exact .refl s
      · exact hkeeps _ s

theorem anyPhase_keepsField {act : α → State → Judged} (hkeeps : ∀ x s, KeepsField s (act x s).1) (s : State) :
    KeepsField s (anyPhase lengthOk operands act s).1 := by
  unfold anyPhase
  split
  · exact .refl s
  · split
    · exact .refl s
    · exact hkeeps _ s

theorem pourRequest_keepsField {act : α → State → Judged} (hkeeps : ∀ x s, KeepsField s (act x s).1) (s : State) :
    KeepsField s (pourRequest lengthOk operands act s).1 := by
  unfold pourRequest
  split
  · exact .refl s
  · split
    · exact .refl s
    · split
      · exact .refl s
      · exact hkeeps _ s

end Judged

/-! ### Every command -/

/-- A table-writing request keeps the field's promises. -/
theorem exec_keepsField_of_writesTables {c : Instr} {s t : State} (hwrites : writesTables c = true) (h : exec c s = .next t) :
    KeepsField s t := by
  cases c <;> cases hwrites <;> cases h
  case tankSet => exact serve_keepsField (fun _ => tableWrite_keepsField writeTank_keepsField)
  case channelSet => exact serve_keepsField (fun _ => tableWrite_keepsField writeChannel_keepsField)
  case pumpSet => exact serve_keepsField (fun _ => tableWrite_keepsField writePump_keepsField)
  case valveSet => exact serve_keepsField (fun _ => tableWrite_keepsField writeValve_keepsField)
  case stopSet => exact serve_keepsField (fun _ => tableWrite_keepsField writeStop_keepsField)
  all_goals exact serve_keepsField (fun _ => tableWrite_keepsField fun _ _ => .of_cfg rfl rfl)

/-- The other requests do too. -/
theorem exec_keepsField_of_writesNone {c : Instr} {s t : State} (hrequest : (requestOf c).isSome = true)
    (hwrites : writesTables c = false) (h : exec c s = .next t) : KeepsField s t := by
  cases c <;> cases hwrites <;> cases hrequest <;> cases h
  case boundsSet => exact serve_keepsField (fun _ => anyPhase_keepsField takeBounds_keepsField)
  case berthSet => exact serve_keepsField (fun _ => anyPhase_keepsField fun b s => .of_touches (takeBerth_touch b s))
  case tankLock =>
    exact serve_keepsField (fun _ => anyPhase_keepsField fun k s =>
      .ite ((lockTank_keepsField k .operator s).trans (.of_touches (grants_touch _))) (.refl s))
  case tankUnlock => exact serve_keepsField (fun _ => anyPhase_keepsField judgeUnlock_keepsField)
  case conditionGet => exact serve_keepsField (fun _ => anyPhase_keepsField judgeConditionGet_keepsField)
  case stopAck => exact serve_keepsField (fun _ => anyPhase_keepsField fun _ => judgeStopAck_keepsField)
  case alarmAck => exact serve_keepsField (fun _ => anyPhase_keepsField fun _ s => .of_touches (touch_lsl s _))
  case alarmSet => exact serve_keepsField (fun _ => anyPhase_keepsField fun x s => taken_keepsField (takeAlarmSet_keepsField x s))
  case stepAdd => exact serve_keepsField (judgeStepAdd_keepsField _)
  case stepCancel => exact serve_keepsField (fun _ => anyPhase_keepsField judgeStepCancel_keepsField)
  case stepPin => exact serve_keepsField (fun _ => anyPhase_keepsField judgeStepPin_keepsField)
  case faultClear => exact serve_keepsField (fun _ => anyPhase_keepsField judgeFaultClear_keepsField)
  case planLoad => exact serve_keepsField (fun _ => judgePlanLoad_keepsField _)
  case pourBegin => exact serve_keepsField (fun _ => pourRequest_keepsField judgePourBegin_keepsField)
  case pourProgress => exact serve_keepsField (fun _ => pourRequest_keepsField judgePourProgress_keepsField)
  case pourEnd => exact serve_keepsField (fun _ => pourRequest_keepsField judgePourEnd_keepsField)
  case predict => exact serve_keepsField (judgePredict_keepsField _ _)
  case permitSet => exact serve_keepsField (fun _ => anyPhase_keepsField judgePermitSet_keepsField)
  case challenge => exact serve_keepsField (fun _ => anyPhase_keepsField fun _ s => .of_touches (takeChallenge_touch s))
  case answer => exact serve_keepsField (fun _ => anyPhase_keepsField fun n s => .of_touches (judgeAnswerRequest_touch n s))
  case permitStatus => exact serve_keepsField (fun _ => anyPhase_keepsField fun _ s => .of_touches (touch_pmu s _))
  case reportCompose => exact serve_keepsField (fun _ => anyPhase_keepsField judgeReportCompose_keepsField)
  case clockSet => exact serve_keepsField (fun _ => anyPhase_keepsField fun _ s => .of_touches (touch_ccl s _))
  case callSet => exact serve_keepsField (fun _ => judgeCallSet_keepsField _)
  case noticeSelect => exact serve_keepsField (fun _ => anyPhase_keepsField fun _ s => .of_touches (touch_lnk s _))
  case phaseSet => exact serve_keepsField (fun _ => anyPhase_keepsField judgePhaseSet_keepsField)
  case storeWrite => exact serve_keepsField (fun _ => anyPhase_keepsField judgeStoreWrite_keepsField)
  case restart => exact serve_keepsField (fun _ => anyPhase_keepsField fun _ s => taken_keepsField (.of_touches (restart_touch s)))
  all_goals exact serve_keepsField (fun _ => anyPhase_keepsField fun _ => .refl)


end Sys2Proof.Machine
end

section
/-! PROOFS. The field's promises at the events, and over every step (R20, R21, R24, R30). -/

namespace Sys2Proof.Machine

/- One proof at a time: side by side they take a thread each. -/
set_option Elab.async false

open State

/-! ### The plant's expiries and the emergency stop -/

theorem openTimeout_touch (v : ValveNo) (s : State) : Touches [.pva, .lsl, .rcu, .lnk, .tsq] s (s.openTimeout v) := by
  unfold openTimeout
  split
  · exact (lineupFailed_touch ..).mono
  · exact .refl _ s

theorem rampExpiry_touch (p : PumpNo) (s : State) : Touches [.pva, .tsq, .rcu, .lnk] s (s.rampExpiry p) := by
  unfold rampExpiry
  extract_lets y
  split
  · exact .ite (.ite ((setPump_touch ..).seq (checkRamp_touch ..)).mono (setPump_touch ..).mono) (.refl _ s)
  · exact .refl _ s

theorem windDownExpiry_touch (p : PumpNo) (s : State) : Touches [.pva, .tsq, .rcu, .lnk] s (s.windDownExpiry p) := by
  unfold windDownExpiry
  extract_lets y
  split
  · exact .ite (.ite ((haltPump_touch p s).seq ((closeLineup_touch ..).seq (checkClosed_touch ..))).mono (setPump_touch ..).mono)
      (.refl _ s)
  · exact .refl _ s

theorem startTimeout_touch (p : PumpNo) (s : State) : Touches [.pva, .lsl, .rcu, .lnk, .tsq] s (s.startTimeout p) := by
  unfold startTimeout
  split
  · exact (pumpFault_touch ..).mono
  · exact .refl _ s

theorem stopTimeout_touch (p : PumpNo) (s : State) : Touches [.pva, .lsl, .rcu, .lnk, .tsq] s (s.stopTimeout p) := by
  unfold stopTimeout
  split
  · exact (pumpFault_touch ..).mono
  · exact .refl _ s

theorem flowTimeout_touch (p : PumpNo) (s : State) : Touches [.pva, .tsq, .rcu, .lnk] s (s.flowTimeout p) := by
  unfold flowTimeout
  split
  · exact .refl _ s
  · exact (setPump_touch ..).mono
  · exact ((setPump_touch ..).seq (windDown_touch ..)).mono

theorem emergencyOn_touch (s : State) : Touches [.pva, .tsq, .rcu, .lnk, .lsl, .pmu] s s.emergencyOn := by
  unfold emergencyOn
  extract_lets pumps steps s₁ s₂
  have h₁ : Touches [.pva] s s₁ := (Touches.foldl (fun s p => haltPump_touch p s) _ s).trans (tripPumps_touch _)
  have h₂ : Touches [.pva] s₁ s₂ := .foldl (fun s (kx : SlotNo × StepRec) => closeValves_touch kx.2.valves s) _ s₁
  have h₃ : Touches [.tsq, .rcu, .lnk, .pva] s₂ s₂.tripSteps :=
    forSteps_touch _ _ (fun k s => (windDown_touch k .tripped s).trans (checkClosed_touch k _)) s₂
  exact (h₁.seq (h₂.seq (h₃.seq ((emergencyReport_touch true _).seq (log_touch ..))))).mono

/-! ### The alarm, the permit and the completions -/

theorem answerExpiry_touch (s : State) : Touches [.pmu, .lsl, .rcu, .lnk] s s.answerExpiry := by
  unfold answerExpiry
  split
  · exact .ite (tripCheck_touch ..) ((attendanceEvent_touch ..).seq (startAnswerTimer_touch _)).mono
  · exact .refl _ s

theorem challengeExpiry_touch (s : State) : Touches [.pmu, .lsl, .rcu, .lnk] s s.challengeExpiry := by
  unfold challengeExpiry
  split
  · exact .ite ((tripCheck_touch ..).seq (withdraw_touch ..)).mono
      ((attendanceEvent_touch ..).seq (startChallengeTimer_touch _)).mono
  · exact .refl _ s

theorem windowOpens_touch (s : State) : Touches [.pmu, .lnk] s s.windowOpens := by
  unfold windowOpens
  split
  · exact challengeDue_touch s
  · exact .refl _ s

theorem pulseEnd_touch (s : State) : Touches [.lsl] s s.pulseEnd := by
  unfold pulseEnd
  split
  · exact .refl _ s
  · exact (touch_lsl s _).trans (evalAlarm_touch _)

theorem completeCurrent_keepsField (s : State) : KeepsField s s.completeCurrent := by
  unfold completeCurrent
  split
  · exact .of_touches ((putRecord_touch _ s).seq (chooseNext_touch true _))
  · exact .refl s

theorem deliverPrediction_keepsField (q : PredictionRequest) (r : ConditionRecord) (s : State) :
    KeepsField s (s.deliverPrediction q r) := by
  unfold deliverPrediction
  split
  · exact .of_touches (decideStep_touch ..)
  · exact .of_touches (reply_touch ..)

theorem completePrediction_keepsField (s : State) : KeepsField s s.completePrediction := by
  unfold completePrediction
  split
  · exact (deliverPrediction_keepsField ..).trans (.of_touches ((chooseNext_touch false _).seq (grants_touch _)))
  · exact .refl s

theorem completeComposition_keepsField (s : State) : KeepsField s s.completeComposition := by
  unfold completeComposition
  split
  · exact .refl s
  · exact .of_touches ((touch_rcu s _).seq (notify_touch ..))

theorem storeDone_keepsField (agrees : Bool) (s : State) : KeepsField s (s.storeDone agrees) := by
  unfold storeDone
  split
  · exact .refl s
  · extract_lets _ _ s₁
    refine KeepsField.trans (t := s₁) ?_ (.of_touches (notify_touch ..))
    unfold s₁
    split
    · exact .of_same rfl rfl rfl rfl rfl fun _ => rfl
    · exact .of_touches (touch_sst s _)

/-! ### The scan period and the power -/

/-- A scan's end, taken at its time, puts the next one in the future (R21). -/
theorem nextPeriod_keepsField (s : State) : KeepsField s s.nextPeriod where
  safe := by
    rintro ⟨hfits, hflags, hperiod⟩
    refine ⟨hfits, hflags, fun hp => ?_⟩
    have : s.now ≤ s.fcu.scan.endsAt := hperiod hp
    exact this.trans (Nat.le_add_right ..)

/-- Every channel and tank starts fresh and STALE, and the first scan period begins (R10, R20, R21). -/
theorem start_fieldSafe (config report : StoreErrors) (s : State) : FieldSafe (s.start config report) := by
  unfold start
  extract_lets store
  have hstart (u : State) (h : FieldSafe u) : FieldSafe u.emergencyAtPowerOn :=
    (KeepsField.of_touches (emergencyAtPowerOn_touch u)).safe h
  refine hstart _ ⟨fun ch => ?_, fun k => ?_, fun _ => Nat.le_add_right ..⟩
  · simp only [powerUp, Fcu.initial, Fin.getElem_fin, Vector.getElem_ofFn]
    exact freshChannel_fits ..
  · rw [shouldBeStale_eq]
    simp only [powerUp, Fcu.initial, Fin.getElem_fin, Vector.getElem_ofFn, freshChannel_isStale, Vector.getElem_replicate]
    cases ConfigTables.levelChannel _ k <;> rfl

theorem powerLoss_fieldSafe {s : State} (h : FieldSafe s) (x : Sst) : FieldSafe { s with powered := false, sst := x } := by
  obtain ⟨hfits, hflags, -⟩ := h
  exact ⟨hfits, hflags, fun hp => nomatch hp⟩

/-! ### Every event, and every step -/

/-- The commands that are no requests keep the field's promises. -/
theorem exec_fieldSafe_of_event {c : Instr} {s t : State} (hevent : (requestOf c).isSome = false) (h : exec c s = .next t)
    (hs : FieldSafe s) : FieldSafe t := by
  have hrun {f : State → State} (hf : KeepsField s (f s)) : FieldSafe (s.event f) := (event_keepsField hf).safe hs
  cases c <;> cases hevent
  case powerOn => cases h; exact start_fieldSafe ..
  case powerLoss =>
    cases h
    show FieldSafe (if s.powered then _ else s)
    split
    · exact powerLoss_fieldSafe hs _
    · exact hs
  case frameDiscarded =>
    cases h
    exact (KeepsField.ite (event_keepsField (.of_touches (touch_lnk s _))) (.refl s)).safe hs
  case rxGapTimeout => cases h; exact hrun (.of_touches (touch_lnk s _))
  case rxFramingError => cases h; exact hrun (.of_touches (touch_lnk s _))
  case lengthByteAbove240 =>
    cases h
    exact (KeepsField.ite (event_keepsField (.of_touches (touch_lnk s _))) (.refl s)).safe hs
  case unknownKindRequest =>
    cases h
    exact (KeepsField.ite (.refl s) (serve_keepsField fun _ u => .refl u)).safe hs
  case txFrameDone =>
    cases h
    refine hrun ?_
    unfold frameSent
    split
    · exact .refl s
    · exact .of_touches (touch_lnk s _)
    · exact .of_touches (touch_lnk s _)
  case scanEnd samples =>
    cases h
    exact hrun (.ite ((scan_keepsField samples s).trans (nextPeriod_keepsField _)) (.refl s))
  case switchInputChange ch closed =>
    by_cases hc : s.pins.contacts[ch] = closed
    · simp only [exec, execSwitchInputChange, if_pos hc] at h; cases h; exact hs
    · simp only [exec, execSwitchInputChange, if_neg hc] at h; cases h
      exact ((KeepsField.of_touches (touch_pins s _)).trans (event_keepsField (contactChange_keepsField ch _))).safe hs
  case switchDebounceExpiry ch => cases h; exact hrun (debounced_keepsField ch s)
  case flowPulse ch => cases h; exact hrun (countPulse_keepsField ch s)
  case emergencyStopActivation =>
    by_cases hc : s.pins.emergency
    · simp only [exec, execEmergencyStopActivation, if_pos hc] at h; cases h; exact hs
    · simp only [exec, execEmergencyStopActivation, if_neg hc] at h; cases h
      exact ((KeepsField.of_touches (touch_pins s _)).trans (event_keepsField (.of_touches (emergencyOn_touch _)))).safe hs
  case emergencyStopRelease =>
    by_cases hc : s.pins.emergency
    · simp only [exec, execEmergencyStopRelease, if_pos hc] at h; cases h
      exact ((KeepsField.of_touches (touch_pins s _)).trans (event_keepsField
        (.of_touches ((emergencyReport_touch ..).seq (log_touch ..))))).safe hs
    · simp only [exec, execEmergencyStopRelease, if_neg hc] at h; cases h; exact hs
  case valveOpenTimeout v => cases h; exact hrun (.of_touches ((openTimeout_touch v s).seq (grants_touch _)))
  case valveCloseTimeout v => cases h; exact hrun ((closeTimeout_keepsField v s).trans (.of_touches (grants_touch _)))
  case rampGearExpiry p => cases h; exact hrun (.of_touches (rampExpiry_touch p s))
  case windDownGearExpiry p => cases h; exact hrun (.of_touches ((windDownExpiry_touch p s).seq (grants_touch _)))
  case pumpStartTimeout p => cases h; exact hrun (.of_touches ((startTimeout_touch p s).seq (grants_touch _)))
  case pumpStopTimeout p => cases h; exact hrun (.of_touches ((stopTimeout_touch p s).seq (grants_touch _)))
  case noFlowExpiry p => cases h; exact hrun (.of_touches (flowTimeout_touch p s))
  case alarmPulseExpiry => cases h; exact hrun (.of_touches (pulseEnd_touch s))
  case answerTimeout => cases h; exact hrun (.of_touches (answerExpiry_touch s))
  case challengeTimeout => cases h; exact hrun (.of_touches (challengeExpiry_touch s))
  case challengeWindowOpens => cases h; exact hrun (.of_touches (windowOpens_touch s))
  case currentRecomputeComplete => cases h; exact hrun (completeCurrent_keepsField s)
  case predictionComplete => cases h; exact hrun (completePrediction_keepsField s)
  case reportCompositionComplete => cases h; exact hrun (completeComposition_keepsField s)
  case storeWriteComplete agrees => cases h; exact hrun (storeDone_keepsField agrees s)
  case clockSecondAdvance => cases h; exact hrun (.of_touches (touch_ccl s _))

theorem exec_fieldSafe {c : Instr} {s t : State} (h : exec c s = .next t) (hs : FieldSafe s) : FieldSafe t := by
  cases hrequest : (requestOf c).isSome with
  | false => exact exec_fieldSafe_of_event hrequest h hs
  | true =>
    cases hwrites : writesTables c with
    | false => exact (exec_keepsField_of_writesNone hrequest hwrites h).safe hs
    | true => exact (exec_keepsField_of_writesTables hwrites h).safe hs

/-- A millisecond passes only before the scan period's end. -/
theorem tick_fieldSafe {s : State} (hs : FieldSafe s) : FieldSafe s.tick := by
  obtain ⟨hfits, hflags, hperiod⟩ := hs
  rcases tick_cases s with ⟨c, l, -, -, e⟩ | ⟨-, -, -, e⟩ | ⟨hdue, e⟩ <;> rw [e]
  · exact ⟨hfits, hflags, hperiod⟩
  · exact ⟨hfits, hflags, hperiod⟩
  · refine ⟨hfits, hflags, fun hp => ?_⟩
    have : s.now < s.fcu.scan.endsAt := (hdue hp).2
    exact this

end Sys2Proof.Machine

namespace Sys2Proof
open Machine

/-- Settles O14: each command keeps the channels' modes, the tanks' STALE flags and the period's end, and so does the clock. -/
theorem fieldKept : Obligations.FieldKept := by
  intro s t hs h
  unfold step at h
  split at h
  · cases h
    exact tick_fieldSafe hs
  next c rest _ =>
    exact exec_fieldSafe h ((KeepsField.of_touches (touch_pending s rest)).safe hs)

end Sys2Proof
end

section
/-! PROOFS. The expiries that are due, and the clock of an empty queue (log entries 2 and 27). -/

namespace Sys2Proof.Machine

/- One proof at a time: side by side they take a thread each. -/
set_option Elab.async false

open State

/-! ### The expiries -/

/-- Every expiry there can be, in the order the model takes those of one millisecond (log entry 2). -/
def expiries : List Instr :=
  [.clockSecondAdvance] ++ (List.finRange 48).map .switchDebounceExpiry
    ++ (List.finRange 3).map .rampGearExpiry ++ (List.finRange 3).map .windDownGearExpiry
    ++ (List.finRange 3).map .pumpStartTimeout ++ (List.finRange 3).map .pumpStopTimeout
    ++ (List.finRange 3).map .noFlowExpiry
    ++ (List.finRange 21).map .valveOpenTimeout ++ (List.finRange 21).map .valveCloseTimeout
    ++ [.alarmPulseExpiry, .answerTimeout, .challengeWindowOpens, .challengeTimeout]

/-- An expiry's place in that order. -/
def expiryPlace : Instr → Nat
  | .switchDebounceExpiry ch => 1 + ch.val
  | .rampGearExpiry p => 50 + p.val
  | .windDownGearExpiry p => 60 + p.val
  | .pumpStartTimeout p => 70 + p.val
  | .pumpStopTimeout p => 80 + p.val
  | .noFlowExpiry p => 90 + p.val
  | .valveOpenTimeout v => 100 + v.val
  | .valveCloseTimeout v => 130 + v.val
  | .alarmPulseExpiry => 160
  | .answerTimeout => 161
  | .challengeWindowOpens => 162
  | .challengeTimeout => 163
  | _ => 0

/-- When the timer of an expiry runs out, where it runs. -/
def State.runsOutAt (s : State) : Instr → Option Nat
  | .clockSecondAdvance => some s.ccl.secondAt
  | .switchDebounceExpiry ch => s.debounceAt ch
  | .rampGearExpiry p => s.gearAt p .ramp
  | .windDownGearExpiry p => s.gearAt p .windDown
  | .pumpStartTimeout p => s.pva.pumps[p].watch.startingAt
  | .pumpStopTimeout p => s.pva.pumps[p].watch.stoppingAt
  | .noFlowExpiry p => s.pva.pumps[p].noFlowUntil
  | .valveOpenTimeout v => s.pva.valves[v].watch.openingAt
  | .valveCloseTimeout v => s.pva.valves[v].watch.closingAt
  | .alarmPulseExpiry => s.lsl.pulseUntil
  | .answerTimeout => s.answerAt
  | .challengeWindowOpens => s.windowAt
  | .challengeTimeout => s.challengeAt
  | _ => none

theorem dueAt_eq_some {now : Nat} {u : Option Nat} {c d : Instr} : dueAt now u c = some d ↔ c = d ∧ ∃ t, u = some t ∧ t ≤ now := by
  cases u <;> simp [dueAt, and_comm]

theorem due_eq (s : State) : s.due = (expiries.map fun c => dueAt s.now (s.runsOutAt c) c).reduceOption := by
  simp only [due, expiries, List.map_append, List.map_map, List.map_cons, List.map_nil]
  rfl

theorem mem_expiries_of_runsOutAt {c : Instr} {s : State} {u : Nat} (h : s.runsOutAt c = some u) : c ∈ expiries := by
  cases c <;> simp [runsOutAt, expiries] at h ⊢

/-- The expiries due are those whose timer runs and has run out. -/
theorem mem_due {c : Instr} {s : State} : c ∈ s.due ↔ ∃ u, s.runsOutAt c = some u ∧ u ≤ s.now := by
  rw [due_eq, List.reduceOption_mem_iff, List.mem_map]
  constructor
  · rintro ⟨d, -, h⟩
    obtain ⟨rfl, hout⟩ := dueAt_eq_some.mp h
    exact hout
  · intro h
    obtain ⟨u, hu, -⟩ := id h
    exact ⟨c, mem_expiries_of_runsOutAt hu, dueAt_eq_some.mpr ⟨rfl, h⟩⟩

/-- The expiries of a list stand in order, with places from `lo` on and below `hi`. -/
def OrderedWithin (lo hi : Nat) (l : List Instr) : Prop :=
  (l.Pairwise fun a b => expiryPlace a < expiryPlace b) ∧ ∀ c ∈ l, lo ≤ expiryPlace c ∧ expiryPlace c < hi

theorem OrderedWithin.append {lo mid hi : Nat} {l m : List Instr} (hl : OrderedWithin lo mid l) (hm : OrderedWithin mid hi m)
    (hlo : lo ≤ mid := by decide) (hhi : mid ≤ hi := by decide) : OrderedWithin lo hi (l ++ m) := by
  obtain ⟨hordl, hinl⟩ := hl
  obtain ⟨hordm, hinm⟩ := hm
  refine ⟨List.pairwise_append.mpr ⟨hordl, hordm, fun a ha b hb => ?_⟩, fun c hc => ?_⟩
  · exact (hinl a ha).2.trans_le (hinm b hb).1
  · rcases List.mem_append.mp hc with hc | hc
    · have := hinl c hc; omega
    · have := hinm c hc; omega

/-- The expiries of one kind, a pump's, a valve's or a channel's each. -/
theorem orderedWithin_block {n : Nat} {lo hi : Nat} (base : Nat) {c : Fin n → Instr} (h : ∀ i, expiryPlace (c i) = base + i.val)
    (hlo : lo ≤ base := by decide) (hhi : base + n ≤ hi := by decide) : OrderedWithin lo hi ((List.finRange n).map c) := by
  refine ⟨List.pairwise_map.mpr ((List.pairwise_lt_finRange n).imp fun {i j} hij => ?_), fun d hd => ?_⟩
  · rw [h, h]
    omega
  · obtain ⟨i, -, rfl⟩ := List.mem_map.mp hd
    rw [h]
    omega

theorem expiries_ordered : expiries.Pairwise fun a b => expiryPlace a < expiryPlace b := by
  have hclock : OrderedWithin 0 1 [.clockSecondAdvance] := by simp [OrderedWithin, expiryPlace]
  have hlast : OrderedWithin 160 164 [.alarmPulseExpiry, .answerTimeout, .challengeWindowOpens, .challengeTimeout] := by
    simp [OrderedWithin, expiryPlace]
  have hswitch : OrderedWithin 1 50 ((List.finRange 48).map .switchDebounceExpiry) := orderedWithin_block 1 fun _ => rfl
  have hramp : OrderedWithin 50 60 ((List.finRange 3).map .rampGearExpiry) := orderedWithin_block 50 fun _ => rfl
  have hdown : OrderedWithin 60 70 ((List.finRange 3).map .windDownGearExpiry) := orderedWithin_block 60 fun _ => rfl
  have hstart : OrderedWithin 70 80 ((List.finRange 3).map .pumpStartTimeout) := orderedWithin_block 70 fun _ => rfl
  have hstop : OrderedWithin 80 90 ((List.finRange 3).map .pumpStopTimeout) := orderedWithin_block 80 fun _ => rfl
  have hflow : OrderedWithin 90 100 ((List.finRange 3).map .noFlowExpiry) := orderedWithin_block 90 fun _ => rfl
  have hopen : OrderedWithin 100 130 ((List.finRange 21).map .valveOpenTimeout) := orderedWithin_block 100 fun _ => rfl
  have hclose : OrderedWithin 130 160 ((List.finRange 21).map .valveCloseTimeout) := orderedWithin_block 130 fun _ => rfl
  have hall : OrderedWithin 0 164 expiries :=
    ((((((((hclock.append hswitch).append hramp).append hdown).append hstart).append hstop).append hflow).append hopen).append
      hclose).append hlast
  exact hall.1

/-- The expiries due stand in one fixed order (log entry 2). -/
theorem due_ordered (s : State) : s.due.Pairwise fun a b => expiryPlace a < expiryPlace b := by
  rw [due_eq, List.reduceOption, List.pairwise_filterMap, List.pairwise_map]
  refine expiries_ordered.imp fun {a b} h c hc d hd => ?_
  obtain ⟨rfl, -⟩ := dueAt_eq_some.mp hc
  obtain ⟨rfl, -⟩ := dueAt_eq_some.mp hd
  exact h

/-! ### When each runs out -/

theorem debounceAt_eq_some {ch : ChannelNo} {s : State} {u : Nat} :
    s.debounceAt ch = some u ↔ ∃ debounce notify was since changed, s.cfg.channels[ch] = .switch debounce notify
      ∧ s.fcu.channels[ch] = .switch was since changed ∧ was ≠ some s.pins.contacts[ch] ∧ since + debounce = u := by
  unfold debounceAt
  split
  next hc hr => simp [hc, hr]
  next hne =>
    simp only [reduceCtorEq, false_iff]
    rintro ⟨d, n, was, since, changed, hc, hr, -⟩
    exact hne _ _ _ _ _ hc hr

theorem gearAt_eq_some {p : PumpNo} {state : StepState} {s : State} {u : Nat} :
    s.gearAt p state = some u ↔ ∃ k x, s.tsq.stepOn p = some (k, x) ∧ x.state = state ∧ s.pva.pumps[p].gearUntil = some u := by
  unfold gearAt
  rcases s.tsq.stepOn p with _ | ⟨k, x⟩
  · simp
  · simp

theorem startingAt_eq_some {w : RunWatch} {u : Nat} : w.startingAt = some u ↔ w = .starting u := by cases w <;> simp [RunWatch.startingAt]

theorem stoppingAt_eq_some {w : RunWatch} {u : Nat} : w.stoppingAt = some u ↔ w = .stopping u := by cases w <;> simp [RunWatch.stoppingAt]

theorem openingAt_eq_some {w : TravelWatch} {u : Nat} : w.openingAt = some u ↔ w = .opening u := by
  cases w <;> simp [TravelWatch.openingAt]

theorem closingAt_eq_some {w : TravelWatch} {u : Nat} : w.closingAt = some u ↔ w = .closing u := by
  cases w <;> simp [TravelWatch.closingAt]

theorem answerAt_eq_some {s : State} {u : Nat} :
    s.answerAt = some u ↔ ∃ since, s.pmu.unit = .awaitAnswer since
      ∧ since + 1000 * (s.cfg.permit.aOpen + s.cfg.permit.aWidth + s.cfg.permit.aExtra) = u := by
  unfold answerAt
  cases s.pmu.unit <;> simp [seconds, PermitConfig.answerTimeout, Nat.mul_comm]

theorem windowAt_eq_some {s : State} {u : Nat} :
    s.windowAt = some u ↔ ∃ since, s.pmu.unit = .awaitChallenge since false ∧ since + 1000 * s.cfg.permit.rOpen = u := by
  unfold windowAt
  rcases s.pmu.unit with _ | _ | ⟨since, _ | _⟩ <;> simp [seconds, Nat.mul_comm]

theorem challengeAt_eq_some {s : State} {u : Nat} :
    s.challengeAt = some u ↔ ∃ since opened, s.pmu.unit = .awaitChallenge since opened
      ∧ since + 1000 * (s.cfg.permit.rOpen + s.cfg.permit.rWidth + s.cfg.permit.rExtra) = u := by
  unfold challengeAt
  cases s.pmu.unit <;> simp [seconds, PermitConfig.challengeTimeout, Nat.mul_comm]

/-! ### The clock -/

theorem step_empty {s : State} (h : s.pending = []) : step s = .next s.tick := by
  unfold step
  rw [h]

theorem tick_of_due {s : State} {c : Instr} {l : List Instr} (hp : s.powered = true) (hd : s.due = c :: l) :
    s.tick = { s with pending := s.pending ++ [c] } := by
  simp [tick, hp, hd]

theorem tick_of_scanEnd {s : State} (hp : s.powered = true) (hd : s.due = []) (he : s.fcu.scan.endsAt ≤ s.now) :
    s.tick = { s with pending := s.pending ++ [s.scanEnding], choices := s.choices + 1 } := by
  simp [tick, hp, hd, he]

theorem tick_of_idle {s : State} (hp : s.powered = true) (hd : s.due = []) (he : s.now < s.fcu.scan.endsAt) :
    s.tick = { s with now := s.now + 1 } := by
  simp [tick, hp, hd, Nat.not_le.mpr he]

theorem tick_of_unpowered {s : State} (hp : s.powered = false) : s.tick = { s with now := s.now + 1 } := by
  simp [tick, hp]

end Sys2Proof.Machine

namespace Sys2Proof
open Machine

/-- Settles O2: the list of the expiries due is the fixed list of all expiries, less those whose timer does not run or has not run out. -/
theorem emptyQueueTicks : Obligations.EmptyQueueTicks := by
  intro s
  refine ⟨fun hq => ⟨s.tick, step_empty hq, tick_of_unpowered, tick_of_idle, fun hp hd he => ?_, fun c l hp hd => ?_⟩,
    fun c => mem_due.trans ?_, due_ordered s⟩
  · rw [tick_of_scanEnd hp hd he, hq]
    exact ⟨_, rfl⟩
  · rw [tick_of_due hp hd, hq]
    rfl
  · cases c
    case clockSecondAdvance => simp [State.runsOutAt]
    case switchDebounceExpiry ch => simp [State.runsOutAt, debounceAt_eq_some]; aesop
    case rampGearExpiry p => simp [State.runsOutAt, gearAt_eq_some]; aesop
    case windDownGearExpiry p => simp [State.runsOutAt, gearAt_eq_some]; aesop
    case pumpStartTimeout p => simp only [State.runsOutAt, startingAt_eq_some]
    case pumpStopTimeout p => simp only [State.runsOutAt, stoppingAt_eq_some]
    case noFlowExpiry p => exact Iff.rfl
    case valveOpenTimeout v => simp only [State.runsOutAt, openingAt_eq_some]
    case valveCloseTimeout v => simp only [State.runsOutAt, closingAt_eq_some]
    case alarmPulseExpiry => exact Iff.rfl
    case answerTimeout => simp [State.runsOutAt, answerAt_eq_some]
    case challengeWindowOpens => simp [State.runsOutAt, windowAt_eq_some]
    case challengeTimeout => simp [State.runsOutAt, challengeAt_eq_some]
    all_goals simp [State.runsOutAt]

end Sys2Proof
end

section
/-! PROOFS. The scan end: the level filters and the tanks they feed (R21 to R25, R31, R32, R34, R41, R44). -/

namespace Sys2Proof.Machine

/- One proof at a time: side by side they take a thread each. -/
set_option Elab.async false

open State

/-! ### A recompute requested (R41, R44) -/

theorem requestRecompute_setup {s : State} (h : s.ccl.phase = .setup) : s.requestRecompute = s := by
  simp [requestRecompute, h]

theorem requestRecompute_busy {s : State} (hphase : s.ccl.phase ≠ .setup) (hbusy : s.cen.inFlight ≠ none) :
    s.requestRecompute.cen = { s.cen with pendingCurrent := true } := by
  obtain ⟨w, hw⟩ := Option.ne_none_iff_exists'.mp hbusy
  simp [requestRecompute, hphase, hw]

/-! ### What a sample is worth (R23) -/

/-- Whether a sample is in the range of a LEVEL channel with its fault band (R23). -/
def sampleGood (lo hi band raw : Nat) : Bool := decide (lo < hi) && decide (lo ≤ raw + band) && decide (raw ≤ hi + band)

/-- The level a sample stands for (R23). -/
def scaledLevel (lo hi span raw : Nat) : Nat :=
  (clampInt 0 span (roundDiv (((raw : Int) - lo) * span) ((hi : Int) - lo))).toNat

theorem sampleLevel_eq (lo hi span band raw : Nat) :
    sampleLevel lo hi span band raw = if sampleGood lo hi band raw then some (scaledLevel lo hi span raw) else none := by
  have hiff : (hi ≤ lo ∨ raw + band < lo ∨ hi + band < raw) ↔ ¬ sampleGood lo hi band raw = true := by
    simp only [sampleGood, Bool.and_eq_true, decide_eq_true_eq]
    omega
  unfold sampleLevel scaledLevel
  by_cases h : sampleGood lo hi band raw = true
  · rw [if_neg (mt hiff.mp (not_not_intro h)), if_pos h]
  · rw [if_pos (hiff.mpr h), if_neg h]

section Sample
variable (lo hi span band : Nat) (bound : Option TankNo) (last : Option (Sample × Bool)) (window : List Nat) (run : Nat)
  (valid : Bool) (raw : Sample)

/-- The rows of the table of R24, at a LEVEL channel. -/
theorem sampleStep_level :
    sampleStep (.level lo hi span band bound) raw (.level last window run valid) =
      some (if valid then
          if sampleGood lo hi band raw.toNat then .deliver (window.drop 1 ++ [scaledLevel lo hi span raw.toNat])
          else if run < 2 then .quiet window (run + 1) true
          else .goStale
        else if sampleGood lo hi band raw.toNat then
          if window.length < 3 then .quiet (window ++ [scaledLevel lo hi span raw.toNat]) 0 false
          else .recover (window ++ [scaledLevel lo hi span raw.toNat])
        else .quiet [] 0 false) := by
  unfold sampleStep
  simp only [sampleLevel_eq]
  cases valid <;> cases sampleGood lo hi band raw.toNat <;> rfl

/-- A LEVEL channel after a sample, row by row (R24). -/
theorem sampled_level :
    ChannelRun.sampled (.level lo hi span band bound) raw (.level last window run valid) =
      if valid then
        if sampleGood lo hi band raw.toNat then
          .level (some (raw, true)) (window.drop 1 ++ [scaledLevel lo hi span raw.toNat]) 0 true
        else if run < 2 then .level (some (raw, false)) window (run + 1) true
        else .level (some (raw, false)) [] 0 false
      else if sampleGood lo hi band raw.toNat then
        if window.length < 3 then .level (some (raw, true)) (window ++ [scaledLevel lo hi span raw.toNat]) 0 false
        else .level (some (raw, true)) (window ++ [scaledLevel lo hi span raw.toNat]) 0 true
      else .level (some (raw, false)) [] 0 false := by
  have hvalid : sampleValid (.level lo hi span band bound) raw = sampleGood lo hi band raw.toNat := by
    unfold sampleValid
    simp only [sampleLevel_eq]
    cases sampleGood lo hi band raw.toNat <;> rfl
  unfold ChannelRun.sampled
  rw [sampleStep_level, hvalid]
  cases valid <;> cases sampleGood lo hi band raw.toNat
  · rfl
  · by_cases hw : window.length < 3 <;> simp [hw, FilterStep.run]
  · by_cases hr : run < 2 <;> simp [hr, FilterStep.run]
  · rfl

end Sample

/-- A channel in another mode takes no sample (R22). -/
theorem sampled_other {c : ChannelConfig} (h : ∀ lo hi span band bound, c ≠ .level lo hi span band bound) (raw : Sample)
    (r : ChannelRun) : r.sampled c raw = r := by
  have hnone : sampleStep c raw r = none := by
    cases c with
    | level lo hi span band bound => exact absurd rfl (h lo hi span band bound)
    | off => cases r <;> rfl
    | switch => cases r <;> rfl
    | pulse => cases r <;> rfl
  unfold ChannelRun.sampled
  rw [hnone]

/-! ### The scan end -/

/-- What a scan end makes of the state, before the transmitter looks for work (R21, R22). -/
def State.scanned (v : Vector Sample 48) (s : State) : State := (s.scan v).nextPeriod

section ScanEnd
variable {s : State} {v : Vector Sample 48}

/-- Before the period's end there is no scan end (log entry 18). -/
theorem exec_scanEnd_early (hp : s.powered = true) (he : s.now < s.fcu.scan.endsAt) (hset : Settled s) :
    exec (.scanEnd v) s = .next s := by
  have hnot : ¬ s.fcu.scan.endsAt ≤ s.now := Nat.not_le.mpr he
  show Host.Outcome.next (s.event _) = _
  rw [event_powered hp, if_neg hnot, transmit_settled hset]

theorem exec_scanEnd (hp : s.powered = true) (he : s.fcu.scan.endsAt ≤ s.now) :
    exec (.scanEnd v) s = .next (s.scanned v).transmit := by
  show Host.Outcome.next (s.event _) = _
  rw [event_powered hp, if_pos he]
  rfl

theorem scanned_touch (v : Vector Sample 48) (s : State) :
    Touches [.fcu, .tanks, .lsl, .rcu, .lnk, .tsq, .pva, .cen] s (s.scanned v).transmit :=
  ((scan_touch v s).seq ((nextPeriod_touch _).seq (transmit_touch _))).mono

/-- The deliveries of a scan, before the recompute is requested. -/
def State.sampledAll (v : Vector Sample 48) (s : State) : State := (List.finRange 48).foldl (State.scanOne v) s

theorem sampledAll_touch (v : Vector Sample 48) (s : State) :
    Touches [.fcu, .tanks, .lsl, .rcu, .lnk, .tsq, .pva] s (s.sampledAll v) :=
  .foldl (fun s ch => scanOne_touch v s ch) _ s

theorem scan_sampledAll (v : Vector Sample 48) (s : State) : s.scan v = (s.sampledAll v).requestRecompute := scan_eq v s

theorem scanned_cen (v : Vector Sample 48) (s : State) : (s.scanned v).transmit.cen = (s.sampledAll v).requestRecompute.cen := by
  rw [(transmit_touch _).cen, scanned, (nextPeriod_touch _).cen, scan_sampledAll]

theorem scanned_tanks (v : Vector Sample 48) (s : State) : (s.scanned v).transmit.tanks = (s.sampledAll v).tanks := by
  rw [(transmit_touch _).tanks, scanned, (nextPeriod_touch _).tanks, scan_sampledAll, (requestRecompute_touch _).tanks]

theorem scanned_channel_sampled (v : Vector Sample 48) (s : State) (ch : ChannelNo) :
    (s.scanned v).transmit.fcu.channels[ch] = s.fcu.channels[ch].sampled s.cfg.channels[ch] v[ch] := by
  have hscan : (s.scan v).fcu = (s.sampledAll v).fcu := by rw [scan_sampledAll, (requestRecompute_touch _).fcu]
  have hchannels : (s.scanned v).transmit.fcu.channels = (s.sampledAll v).fcu.channels := by
    rw [(transmit_touch _).fcu, scanned, nextPeriod, ← hscan]
  rw [hchannels, sampledAll, scanned_channel v (List.nodup_finRange 48), if_pos (List.mem_finRange ch)]

theorem scanned_period (v : Vector Sample 48) (s : State) :
    (s.scanned v).transmit.fcu.scan = ⟨s.cfg.scan, s.fcu.scan.endsAt + scanPeriod s.cfg.scan⟩ := by
  have hscan : (s.scan v).fcu.scan = s.fcu.scan := by
    have hone (l : List ChannelNo) (u : State) : (l.foldl (State.scanOne v) u).fcu.scan = u.fcu.scan := by
      induction l generalizing u with
      | nil => rfl
      | cons i l ih => rw [List.foldl_cons, ih, scanOne, (grants_touch _).fcu, sampleChannel_fcu]
    rw [scan_eq, (requestRecompute_touch _).fcu, hone]
  rw [(transmit_touch _).fcu, scanned, nextPeriod, (scan_touch v s).cfg, hscan]

/-- A tank that a channel feeds takes what its sample makes of it (R25, R34). -/
theorem scanned_tank_fed {ch : ChannelNo} {k : TankNo} (h : s.cfg.fedTank ch = some k) :
    (s.scanned v).transmit.tanks[k] = s.fedBy ch v[ch] k := by
  rw [scanned_tanks, sampledAll, scanned_tank v (List.nodup_finRange 48) s (fedTank_iff.mp h), if_pos (List.mem_finRange ch)]

/-! ### The recompute behind the deliveries (R41, R44) -/

theorem scanned_cen_setup (h : s.ccl.phase = .setup) : (s.scanned v).transmit.cen = s.cen := by
  have ht := sampledAll_touch v s
  rw [scanned_cen, requestRecompute_setup (by rw [ht.ccl]; exact h), ht.cen]

theorem scanned_cen_busy (hphase : s.ccl.phase ≠ .setup) (hbusy : s.cen.inFlight ≠ none) :
    (s.scanned v).transmit.cen = { s.cen with pendingCurrent := true } := by
  have ht := sampledAll_touch v s
  rw [scanned_cen, requestRecompute_busy (by rw [ht.ccl]; exact hphase) (by rw [ht.cen]; exact hbusy), ht.cen]

/-- An idle engine begins on the masses the tanks hold after the deliveries. -/
theorem scanned_cen_idle (hphase : s.ccl.phase ≠ .setup) (hidle : s.cen.inFlight = none) :
    ∃ snap, (s.scanned v).transmit.cen = { s.cen with inFlight := some (.current snap), pendingCurrent := false }
      ∧ snap.moves = [] ∧ ∀ k : TankNo, snap.tankMass[k] = (s.scanned v).transmit.tanks[k].mass := by
  have ht := sampledAll_touch v s
  refine ⟨(s.sampledAll v).snapshot [], ?_, rfl, fun k => ?_⟩
  · rw [scanned_cen, requestRecompute_idle (by rw [ht.ccl]; exact hphase) (by rw [ht.cen]; exact hidle), ht.cen]
  · rw [scanned_tanks]
    exact Vector.getElem_ofFn k.isLt

end ScanEnd

/-! ### The tank fed, row by row (R24, R25, R31, R32, R34) -/

/-- The window a sample fills, a VALID channel's oldest value gone (R24). -/
def fullWindow (valid : Bool) (window : List Nat) (level : Nat) : List Nat :=
  (if valid then window.drop 1 else window) ++ [level]

theorem feed_delivered (setup : Prop) [Decidable setup] (table : List Point) (density mean : Nat) (x : TankRun) (stale : Bool) :
    ({ x with stale := stale } : TankRun).delivered (decide setup) table density mean =
      if setup then { x with level := mean, stale := stale }
      else { x with
        level := mean, stale := stale, volume := volumeAt table mean, mass := roundNat (volumeAt table mean * density) 10000
        overTable := overTableAt table mean } := by
  unfold TankRun.delivered
  by_cases h : setup <;> simp [h, TankRun.at, massOf]

theorem fedBy_level {s : State} {ch : ChannelNo} {lo hi span band : Nat} {bound : Option TankNo} {last : Option (Sample × Bool)}
    {window : List Nat} {run : Nat} {valid : Bool} (hc : s.cfg.channels[ch] = .level lo hi span band bound)
    (hr : s.fcu.channels[ch] = .level last window run valid) (raw : Sample) (k : TankNo) :
    s.fedBy ch raw k =
      if sampleGood lo hi band raw.toNat && (valid || decide (3 ≤ window.length)) then
        ({ s.tanks[k] with stale := s.tanks[k].stale && valid } : TankRun).delivered (decide (s.ccl.phase = .setup)) s.cfg.soundings[k]
          s.cfg.tanks[k].density (meanLevel (fullWindow valid window (scaledLevel lo hi span raw.toNat)))
      else { s.tanks[k] with
        stale := s.tanks[k].stale || (valid && !sampleGood lo hi band raw.toNat && decide (2 ≤ run)) } := by
  unfold fedBy
  rw [hc, hr, sampleStep_level]
  cases valid <;> cases sampleGood lo hi band raw.toNat
  · simp [FilterStep.feed]
  · by_cases hw : window.length < 3
    · simp [hw, FilterStep.feed]
    · simp [hw, Nat.not_lt.mp hw, FilterStep.feed, fullWindow]
  · by_cases hrun : run < 2
    · simp [hrun, Nat.not_le.mpr hrun, FilterStep.feed]
    · simp [hrun, Nat.not_lt.mp hrun, FilterStep.feed]
  · simp [FilterStep.feed, fullWindow]

end Sys2Proof.Machine

namespace Sys2Proof
open Machine

/-- Settles O25: each channel takes its own sample by the table of R24, and the recompute is requested behind the last. -/
theorem scanEndFilters : Obligations.ScanEndFilters := by
  intro s v hp
  refine ⟨fun he hset => exec_scanEnd_early hp he hset, fun he => ⟨_, exec_scanEnd hp he, scanned_touch v s, scanned_period v s,
    scanned_cen_idle, scanned_cen_setup, scanned_cen_busy, fun ch hother => ?_, ?_⟩⟩
  · rw [scanned_channel_sampled, sampled_other hother]
  · intro ch lo hi span band bound last window run valid hc hr
    rw [scanned_channel_sampled, hc, hr]
    exact sampled_level ..

/-- Settles O26: a tank takes the sample of the one channel that feeds it. -/
theorem scanEndDelivers : Obligations.ScanEndDelivers := by
  intro s v hp he
  refine ⟨_, exec_scanEnd hp he, ?_⟩
  intro ch k lo hi span band bound last window run valid hfed hc hr
  rw [scanned_tank_fed hfed, fedBy_level hc hr, feed_delivered]
  rfl

end Sys2Proof
end

section
/-! PROOFS. TANK_LOCK and TANK_UNLOCK (R35, R36, R41, R104): what each leaves. -/

namespace Sys2Proof.Machine

/- One proof at a time: side by side they take a thread each. -/
set_option Elab.async false

open State

/-! ### A tank's number -/

theorem index_byte {k : Nat} (i : Fin k) (h : k ≤ 256) : index (field (u8 i.val) 0 1) k = some i := by
  rw [field_u8, mod_byte (by omega), index_val]

theorem index_byte_beyond {k n : Nat} (hlow : k ≤ n) (hhigh : n ≤ 255) : index (field (u8 n) 0 1) k = none := by
  rw [field_u8, mod_byte hhigh]
  exact dif_neg (by omega)

theorem anyPhase_range {α : Type} {lengthOk : Bool} {operands : Option α} {act : α → State → Judged} {s : State}
    (hlen : lengthOk = true) (hops : operands = none) : anyPhase lengthOk operands act s = refuse .range s := by
  simp [anyPhase, hlen, hops]

theorem lengthIs_not {n : Nat} {body : List Byte} (h : body.length ≠ n) : lengthIs n body = false := by simp [lengthIs, h]

/-! ### The recompute that a request asks for (R41, R44) -/

/-- A recompute requested behind deliveries: none in SETUP, pending behind one in flight, else begun at once. -/
theorem requestRecompute_follows {s u : State} (hccl : u.ccl = s.ccl) (hcen : u.cen = s.cen) :
    (s.ccl.phase = .setup → u.requestRecompute.cen = s.cen)
      ∧ (s.ccl.phase ≠ .setup → s.cen.inFlight ≠ none → u.requestRecompute.cen = { s.cen with pendingCurrent := true })
      ∧ (s.ccl.phase ≠ .setup → s.cen.inFlight = none → ∃ snap,
          u.requestRecompute.cen = { s.cen with inFlight := some (.current snap), pendingCurrent := false }) := by
  rw [← hccl, ← hcen]
  exact ⟨fun h => by rw [requestRecompute_setup h], requestRecompute_busy, fun hp hi => ⟨_, requestRecompute_idle hp hi⟩⟩

/-! ### TANK_LOCK -/

/-- A tank's lock replaced and logged. -/
def State.locked (k : TankNo) (why : Lock) (s : State) : State :=
  (s.setTank k { s.tanks[k] with lock := why }).log .tankLock [k.val, why.reasonCode]

theorem locked_touch (k : TankNo) (why : Lock) (s : State) : Touches [.tanks, .rcu] s (s.locked k why) :=
  (setTank_touch ..).seq (log_touch ..)

theorem locked_tanks (k : TankNo) (why : Lock) (s : State) :
    (s.locked k why).tanks = s.tanks.set k { s.tanks[k] with lock := why } := (log_touch ..).tanks

theorem lockTank_eq (k : TankNo) (why : Lock) (s : State) :
    s.lockTank k why = ((s.locked k why).endSteps (·.names k) .locked).requestRecompute := rfl

theorem lockTank_tanks (k : TankNo) (why : Lock) (s : State) :
    (s.lockTank k why).tanks = s.tanks.set k { s.tanks[k] with lock := why } := by
  rw [lockTank_eq, (requestRecompute_touch _).tanks, (endSteps_touch ..).tanks, locked_tanks]

/-- Where no step names the tank, the records take the lock alone (R35). -/
theorem lockTank_rcu {k : TankNo} {s : State}
    (hnone : ∀ (j : SlotNo) (x : StepRec), s.tsq.slots[j] = some x → x.names k = false) (why : Lock) :
    (s.lockTank k why).rcu = (s.log .tankLock [k.val, why.reasonCode]).rcu := by
  have hstand : (s.locked k why).endSteps (·.names k) .locked = s.locked k why := by
    rw [endSteps_eq]
    exact atSlots_unpicked _ fun i _ y hy => hnone i y hy
  rw [lockTank_eq, (requestRecompute_touch _).rcu, hstand]
  rfl

theorem takeLock_unlocked {k : TankNo} {s : State} (h : s.tanks[k].lock = .unlocked) :
    takeLock k s = (s.lockTank k .operator).grants := if_pos h

theorem takeLock_locked {k : TankNo} {s : State} (h : s.tanks[k].lock ≠ .unlocked) : takeLock k s = s := if_neg h

/-- The recompute of a lock, behind the ends of the steps it ends (R35, R41). -/
theorem takeLock_cen {k : TankNo} {s : State} (h : s.tanks[k].lock = .unlocked) :
    ∃ u : State, u.ccl = s.ccl ∧ u.cen = s.cen ∧ (takeLock k s).cen = u.requestRecompute.cen := by
  refine ⟨(s.locked k .operator).endSteps (·.names k) .locked, ?_, ?_, ?_⟩
  · rw [(endSteps_touch ..).ccl, (locked_touch ..).ccl]
  · rw [(endSteps_touch ..).cen, (locked_touch ..).cen]
  · rw [takeLock_unlocked h, (grants_touch _).cen, lockTank_eq]

section Lock
variable {k : TankNo} {s : State} {j : SlotNo} {x : StepRec}

/-- What follows the ends of the steps leaves a slot aside as it is. -/
theorem takeLock_aside {n : Nat} {r : Option StepRec} (hlock : s.tanks[k].lock = .unlocked) (hr : Ungranted n r)
    (h : Aside j n r ((s.locked k .operator).endSteps (·.names k) .locked)) : (takeLock k s).tsq.slots[j] = r := by
  have hre := requestRecompute_touch ((s.locked k .operator).endSteps (·.names k) .locked)
  have hsame : Aside j n r (s.lockTank k .operator) :=
    ⟨by rw [lockTank_eq, hre.tsq]; exact h.slot, by rw [lockTank_eq, hre.tsq]; exact h.alone,
      by rw [lockTank_eq, hre.pva]; exact h.unoffered⟩
  rw [takeLock_unlocked hlock]
  exact (hsame.grantsBut hr _).slot

theorem locked_aside {n : Nat} {r : Option StepRec} (h : Aside j n r s) : Aside j n r (s.locked k .operator) :=
  ⟨h.slot, h.alone, h.unoffered⟩

/-- A QUEUED or WAITING step that names the tank is gone (R104). -/
theorem takeLock_drops (hqueue : QueueSafe s) (hlock : s.tanks[k].lock = .unlocked) (hx : s.tsq.slots[j] = some x)
    (hnames : x.names k = true) (hstate : x.state.waitingOrQueued = true) : (takeLock k s).tsq.slots[j] = none := by
  have hj : j ∈ s.tsq.order := safe_order hqueue hx fun e => by rw [e] at hstate; cases hstate
  have hgone := endSteps_drops (which := (·.names k)) (s := s.locked k .operator) (out := .locked) hqueue.1 hj hx hnames hstate
  rw [takeLock_unlocked hlock]
  refine grantsBut_empty _ ?_
  rw [lockTank_eq, (requestRecompute_touch _).tsq]
  exact hgone

/-- Every admitted step that names the tank has ended or is in WIND_DOWN (R35, R104). -/
theorem takeLock_ends (hqueue : QueueSafe s) (hline : LineSafe s) (hlock : s.tanks[k].lock = .unlocked)
    (hx : s.tsq.slots[j] = some x) (hstate : x.state ≠ .checking) (hnames : x.names k = true) :
    (takeLock k s).tsq.slots[j].all (·.state == .windDown) = true := by
  have haside (hnot : x.state ≠ .waiting) : Aside j x.number (some x) (s.locked k .operator) :=
    locked_aside (aside_of_safe hqueue hline hx hnot)
  have hwinds (hrun : x.state.running = true) : (takeLock k s).tsq.slots[j].all (·.state == .windDown) = true := by
    have hnot : x.state ≠ .waiting := fun e => by rw [e] at hrun; cases hrun
    obtain ⟨r, hr, h⟩ := endSteps_winds (which := (·.names k)) (s := s.locked k .operator) (out := .locked) hqueue.1
      (safe_order hqueue hx hstate) hnames hrun rfl (haside hnot)
    rw [takeLock_aside hlock (hr.ungranted rfl) h]
    rcases hr with rfl | rfl <;> rfl
  cases hst : x.state with
  | checking => exact absurd hst hstate
  | queued => rw [takeLock_drops hqueue hlock hx hnames (by rw [hst]; rfl)]; rfl
  | waiting => rw [takeLock_drops hqueue hlock hx hnames (by rw [hst]; rfl)]; rfl
  | lineup => exact hwinds (by rw [hst]; rfl)
  | ramp => exact hwinds (by rw [hst]; rfl)
  | run => exact hwinds (by rw [hst]; rfl)
  | windDown =>
    have hnot : x.state ≠ .waiting := fun e => by rw [hst] at e; cases e
    have hr : Ungranted x.number (some x) := by
      rintro y ⟨⟩
      exact ⟨rfl, hnot⟩
    rw [takeLock_aside hlock hr (endSteps_stands hst rfl (haside hnot))]
    simp [hst]

end Lock

/-! ### TANK_UNLOCK -/

/-- A tank's lock opened and logged (R36). -/
def State.unlocked (k : TankNo) (s : State) : State :=
  (s.setTank k { s.tanks[k] with lock := .unlocked }).log .tankUnlock [k.val]

theorem unlockTank_eq (k : TankNo) (s : State) : s.unlockTank k = (s.unlocked k).requestRecompute := rfl

theorem unlockTank_tanks (k : TankNo) (s : State) : (s.unlockTank k).tanks = s.tanks.set k { s.tanks[k] with lock := .unlocked } := by
  rw [unlockTank_eq, (requestRecompute_touch _).tanks]
  exact (log_touch ..).tanks

theorem unlockTank_rcu (k : TankNo) (s : State) : (s.unlockTank k).rcu = (s.log .tankUnlock [k.val]).rcu := by
  rw [unlockTank_eq, (requestRecompute_touch _).rcu]
  rfl

theorem judgeUnlock_unlocked {k : TankNo} {s : State} (h : s.tanks[k].lock = .unlocked) : judgeUnlock k s = taken s := by
  unfold judgeUnlock
  rw [h]

theorem judgeUnlock_faulted {k : TankNo} {s : State} (h : s.tanks[k].lock = .valve)
    (hf : s.pva.valves[tankValve k].faulted = true) : judgeUnlock k s = refuse .state s := by
  unfold judgeUnlock
  rw [h]
  exact if_pos hf

theorem judgeUnlock_opens {k : TankNo} {s : State}
    (h : s.tanks[k].lock = .operator ∨ s.tanks[k].lock = .valve ∧ s.pva.valves[tankValve k].faulted = false) :
    judgeUnlock k s = taken (s.unlockTank k) := by
  unfold judgeUnlock
  rcases h with h | ⟨h, hf⟩
  · rw [h]
  · rw [h]
    exact if_neg (by rw [hf]; exact Bool.false_ne_true)

end Sys2Proof.Machine

namespace Sys2Proof
open Machine

/-- Settles O28: a lock by the ends of the steps that name its tank, an unlock by the table of R36. -/
theorem tankLocks : Obligations.TankLocks := by
  intro s tag hs
  refine ⟨fun body hlen => ⟨_, rfl, replied_of_kept hs fun _ => anyPhase_format (lengthIs_not hlen)⟩,
    fun n hlow hhigh => ⟨_, rfl, replied_of_kept hs fun _ => anyPhase_range rfl (index_byte_beyond hlow hhigh)⟩,
    fun k => ?lock, fun body hlen => ⟨_, rfl, replied_of_kept hs fun _ => anyPhase_format (lengthIs_not hlen)⟩,
    fun n hlow hhigh => ⟨_, rfl, replied_of_kept hs fun _ => anyPhase_range rfl (index_byte_beyond hlow hhigh)⟩,
    fun k => ?unlock⟩
  case lock =>
    by_cases hlock : s.tanks[k].lock = .unlocked
    · obtain ⟨t, r, hexec, ht, ha⟩ := taken_of_judge (c := .tankLock tag (u8 k.val)) rfl hs (f := takeLock k)
        (fun _ => anyPhase_act (act := fun x s => taken (takeLock x s)) rfl (index_byte k (by decide)))
        (fun _ => takeLock_steady ..)
      obtain ⟨u, hccl, hcen, hrequest⟩ := takeLock_cen (s := s.opened r 0x24 tag) hlock
      obtain ⟨hsetup, hbusy, hidle⟩ := requestRecompute_follows (s := s.opened r 0x24 tag) hccl hcen
      rw [← hrequest, ← ht.cen] at hsetup hbusy hidle
      refine ⟨t, hexec, ha, fun h => absurd hlock h, fun _ => ⟨?_, ((opened_touch r 0x24 tag s).seq ((takeLock_touch ..).seq ht)).mono,
        fun hnone => ?_, hsetup, hbusy, hidle, fun hqueue hline j x hx hstate hnames => ?_⟩⟩
      · rw [ht.tanks, takeLock_unlocked (s := s.opened r 0x24 tag) hlock, (grants_touch _).tanks, lockTank_tanks]
        rfl
      · rw [ht.rcu, takeLock_unlocked (s := s.opened r 0x24 tag) hlock, (grants_touch _).rcu,
          lockTank_rcu (s := s.opened r 0x24 tag) hnone]
        rfl
      · rw [ht.tsq]
        exact takeLock_ends (s := s.opened r 0x24 tag) hqueue hline hlock hx hstate hnames
    · obtain ⟨hsame, hquiet, ha⟩ : Replied s (s.serve 0x24 tag fun _ => anyPhase (lengthIs 1 (u8 k.val))
          (index (field (u8 k.val) 0 1) 16) fun x s => taken (takeLock x s)) 0x24 tag .ok [] :=
        replied_of_kept hs fun r => (anyPhase_act rfl (index_byte k (by decide))).trans
          (by rw [takeLock_locked (s := s.opened r 0x24 tag) hlock]; rfl)
      exact ⟨_, rfl, ha, fun _ => ⟨hsame, hquiet⟩, fun h => absurd h hlock⟩
  case unlock =>
    have hact (r : ReplyNo) : anyPhase (lengthIs 1 (u8 k.val)) (index (field (u8 k.val) 0 1) 16) judgeUnlock
        (s.opened r 0x25 tag) = judgeUnlock k (s.opened r 0x25 tag) := anyPhase_act rfl (index_byte k (by decide))
    refine ⟨_, rfl, fun h => ?_, fun h hf => ?_, fun h => ?_⟩
    · exact replied_of_kept hs fun r => (hact r).trans (judgeUnlock_unlocked h)
    · exact replied_of_kept hs fun r => (hact r).trans (judgeUnlock_faulted h hf)
    · obtain ⟨t, r, hexec, ht, hq, ha⟩ := taken_quietly (c := .tankUnlock tag (u8 k.val)) rfl hs (f := State.unlockTank k)
        (fun r => (hact r).trans (judgeUnlock_opens h)) (fun _ => (unlockTank_touch ..).lnk)
      obtain rfl := Host.Outcome.next.inj hexec
      obtain ⟨hsetup, hbusy, hidle⟩ := requestRecompute_follows (s := s.opened r 0x25 tag)
        (u := (s.opened r 0x25 tag).unlocked k) rfl rfl
      rw [← unlockTank_eq, ← ht.cen] at hsetup hbusy hidle
      exact ⟨by rw [ht.tanks, unlockTank_tanks]; rfl, by rw [ht.rcu, unlockTank_rcu]; rfl, hsetup, hbusy, hidle,
        ((opened_touch r 0x25 tag s).seq ((unlockTank_touch ..).seq ht)).mono, hq, ha⟩

end Sys2Proof
end

section
/-! PROOFS. Faults reported to LSL (R78, R81), and contacts, debounced states and flow pulses (R19, R20, R26 to R28, R100, R126, R127). -/

namespace Sys2Proof.Machine

/- One proof at a time: side by side they take a thread each. -/
set_option Elab.async false

open State

/-! ### An alarm event, and a fault reported (R78, R81) -/

/-- The entry of an alarm event (R78). -/
def State.alarmEntry (g : AlarmGroup) (source item : Nat) (s : State) : State :=
  s.log .alarm [g.code, source, item, s.cfg.alarm.masked[g.ix].toNat]

section Alarm
variable (g : AlarmGroup) (source item : Nat) (e e' : Equipment) {s : State}

theorem log_congr {s t : State} (hrcu : t.rcu = s.rcu) (hccl : t.ccl = s.ccl) (k : EntryKind) (ps : List Nat) :
    (t.log k ps).rcu = (s.log k ps).rcu := by
  unfold State.log
  rw [hrcu, hccl]

theorem alarmEvent_rcu (s : State) : (s.alarmEvent g source item).rcu = (s.alarmEntry g source item).rcu := by
  unfold alarmEvent
  extract_lets masked s₁ s₂ s₃ s₄
  have h₁ : Touches [.lsl] s s₁ := .ite (.refl _ s) (touch_lsl s _)
  have h₃ : s₃.rcu = s₂.rcu := (notify_touch ..).rcu
  have h₄ : Touches [.lsl] s₃ s₄ := .ite (.refl _ _) (startPulse_touch _)
  rw [(evalAlarm_touch s₄).rcu, h₄.rcu, h₃]
  exact log_congr h₁.rcu h₁.ccl ..

theorem alarmEvent_faults (s : State) : (s.alarmEvent g source item).lsl.faults = s.lsl.faults := by
  cases h : s.cfg.alarm.masked[g.ix] with
  | false => rw [alarmEvent_unmasked g source item s h]
  | true => rw [alarmEvent_masked g source item s h]

/-- An alarm event makes its group unacknowledged, unless the group is masked (R78). -/
theorem alarmEvent_group (s : State) :
    (s.alarmEvent g source item).lsl.groups[g.ix] =
      { s.lsl.groups[g.ix] with
        unacknowledged := s.lsl.groups[g.ix].unacknowledged || !s.cfg.alarm.masked[g.ix] } := by
  cases h : s.cfg.alarm.masked[g.ix] with
  | false =>
    rw [alarmEvent_unmasked g source item s h]
    simp
  | true =>
    rw [alarmEvent_masked g source item s h]
    simp

/-- A fault joins the set, and its cause is present (R81). -/
def State.withFault (e : Equipment) (s : State) : State :=
  { s with lsl := { s.lsl with faults := s.lsl.faults.put true e } }.setCause .equipment true

theorem withFault_touch (s : State) : Touches [.lsl] s (s.withFault e) := (touch_lsl s _).trans (setCause_touch ..)

theorem faultReport_known (h : s.lsl.faults.has e = true) : s.faultReport e = s := if_pos h

theorem faultReport_new (h : s.lsl.faults.has e = false) :
    s.faultReport e = (s.withFault e).alarmEvent .equipment (30 + e.code) e.item := if_neg (by rw [h]; exact Bool.false_ne_true)

theorem faultReport_has (s : State) : (s.faultReport e).lsl.faults.has e' = (decide (e = e') || s.lsl.faults.has e') := by
  cases h : s.lsl.faults.has e with
  | true =>
    rw [faultReport_known e h]
    by_cases he : e = e'
    · subst he; simp [h]
    · simp [he]
  | false =>
    rw [faultReport_new e h, alarmEvent_faults, withFault, setCause_lsl]
    refine (put_has s.lsl.faults true e e').trans ?_
    by_cases he : e = e' <;> simp [he]

/-- A new fault is one EQUIPMENT alarm event (R81). -/
theorem faultReport_group (h : s.lsl.faults.has e = false) :
    (s.faultReport e).lsl.groups[AlarmGroup.equipment.ix] =
      ⟨true, s.lsl.groups[AlarmGroup.equipment.ix].unacknowledged || !s.cfg.alarm.masked[AlarmGroup.equipment.ix]⟩ := by
  rw [faultReport_new e h, alarmEvent_group, (withFault_touch e s).cfg, withFault, setCause_lsl]
  simp

/-- The entries of a fault report: that of its alarm event where the fault is new (R81). -/
def State.faultEntry (e : Equipment) (s : State) : State :=
  if s.lsl.faults.has e then s else s.alarmEntry .equipment (30 + e.code) e.item

theorem faultReport_rcu (s : State) : (s.faultReport e).rcu = (s.faultEntry e).rcu := by
  unfold State.faultEntry
  split
  next h => rw [faultReport_known e h]
  next h =>
    rw [faultReport_new e (by simpa using h), alarmEvent_rcu, State.alarmEntry, (withFault_touch e s).cfg]
    exact log_congr (withFault_touch e s).rcu (withFault_touch e s).ccl ..

end Alarm

/-! ### A contact changes (R20, R26) -/

/-- One contact changed (R26). -/
def State.contacted (ch : ChannelNo) (closed : Bool) (s : State) : State :=
  { s with pins := { s.pins with contacts := s.pins.contacts.set ch closed } }

section Contact
variable {s : State} {ch : ChannelNo} {closed : Bool}

theorem exec_switchInputChange_same (h : s.pins.contacts[ch] = closed) : exec (.switchInputChange ch closed) s = .next s := if_pos h

theorem exec_switchInputChange (h : s.pins.contacts[ch] ≠ closed) :
    exec (.switchInputChange ch closed) s
      = .next ((s.contacted ch closed).event fun s => s.contactChange ch) := if_neg h

theorem contactChange_switch {d : Option Bool} {since : Nat} {changed : Option Nat} (h : s.fcu.channels[ch] = .switch d since changed) :
    s.contactChange ch = s.setChannel ch (.switch d s.now (some s.now)) := by
  unfold contactChange
  rw [h]

theorem contactChange_other (h : ∀ d since changed, s.fcu.channels[ch] ≠ .switch d since changed) : s.contactChange ch = s := by
  unfold contactChange
  split
  next hr => exact (h _ _ _ hr).elim
  next => rfl

theorem event_unpowered {f : State → State} (h : s.powered = false) : s.event f = s := by simp [State.event, h]

end Contact

/-! ### A debounced state is taken (R26, R27) -/

/-- A run feedback shows on its pump what its switch shows, and on no other (R26). -/
theorem runFeedback_proof (q : PumpNo) (a : Bool) (s : State) (p : PumpNo) :
    (s.runFeedback q a).grants.pva.pumps[p].proof = if q = p then .of a else s.pva.pumps[p].proof := by
  rw [(grants_steady _).proof, (runFeedback_steady q a s).proof, setPump_pva]
  simp only [Fin.getElem_fin, Vector.getElem_set, Fin.ext_iff]
  split <;> rfl

theorem valveFeedback_proved (w : ValveNo) (a : Bool) (s : State) (v : ValveNo) :
    (s.valveFeedback w a).grants.pva.valves[v].proved = if w = v then .of a else s.pva.valves[v].proved := by
  rw [(grants_steady _).proved, (valveFeedback_steady w a s).proved, setValve_pva]
  simp only [Fin.getElem_fin, Vector.getElem_set, Fin.ext_iff]
  split <;> rfl

theorem valveFeedback_proof (w : ValveNo) (a : Bool) (s : State) (p : PumpNo) :
    (s.valveFeedback w a).grants.pva.pumps[p].proof = s.pva.pumps[p].proof := by
  rw [(grants_steady _).proof, (valveFeedback_steady w a s).proof]
  rfl

theorem runFeedbacks_proof (l : List PumpNo) (a : Bool) (s : State) (p : PumpNo) :
    (l.foldl (fun s q => (s.runFeedback q a).grants) s).pva.pumps[p].proof =
      if p ∈ l then .of a else s.pva.pumps[p].proof := by
  induction l generalizing s with
  | nil => rfl
  | cons q l ih =>
    rw [List.foldl_cons, ih, runFeedback_proof]
    by_cases h : p = q <;> simp [h, eq_comm (a := q)]

theorem valveFeedbacks_proved (l : List ValveNo) (a : Bool) (s : State) (v : ValveNo) :
    (l.foldl (fun s w => (s.valveFeedback w a).grants) s).pva.valves[v].proved =
      if v ∈ l then .of a else s.pva.valves[v].proved := by
  induction l generalizing s with
  | nil => rfl
  | cons w l ih =>
    rw [List.foldl_cons, ih, valveFeedback_proved]
    by_cases h : v = w <;> simp [h, eq_comm (a := w)]

theorem valveFeedbacks_proof (l : List ValveNo) (a : Bool) (s : State) (p : PumpNo) :
    (l.foldl (fun s w => (s.valveFeedback w a).grants) s).pva.pumps[p].proof = s.pva.pumps[p].proof := by
  induction l generalizing s with
  | nil => rfl
  | cons w l ih => rw [List.foldl_cons, ih, valveFeedback_proof]

theorem mem_runPumps {c : ConfigTables} {ch : ChannelNo} {p : PumpNo} : p ∈ c.runPumps ch ↔ c.pumps[p].runChannel = some ch := by
  simp [ConfigTables.runPumps]

theorem mem_boundValves {c : ConfigTables} {ch : ChannelNo} {v : ValveNo} : v ∈ c.boundValves ch ↔ c.valves[v].channel = some ch := by
  simp [ConfigTables.boundValves]

theorem deliverSwitch_pump {ch : ChannelNo} {p : PumpNo} {s : State} (h : s.cfg.pumps[p].runChannel = some ch) (a : Bool) :
    (s.deliverSwitch ch a).pva.pumps[p].proof = .of a := by
  unfold deliverSwitch
  rw [valveFeedbacks_proof, runFeedbacks_proof, if_pos (mem_runPumps.mpr h)]

theorem deliverSwitch_valve {ch : ChannelNo} {v : ValveNo} {s : State} (h : s.cfg.valves[v].channel = some ch) (a : Bool) :
    (s.deliverSwitch ch a).pva.valves[v].proved = .of a := by
  unfold deliverSwitch
  extract_lets s₁
  have hcfg : s₁.cfg = s.cfg :=
    (Touches.foldl (l := [.pva, .lsl, .rcu, .lnk, .tsq]) (fun s p => (runFeedback_touch p a s).mono.trans (grants_touch _).mono) _ s).cfg
  rw [valveFeedbacks_proved, hcfg, if_pos (mem_boundValves.mpr h)]

theorem plantBound_of_run {c : ConfigTables} {ch : ChannelNo} {p : PumpNo} (h : c.pumps[p].runChannel = some ch) :
    c.plantBound ch = true := by
  have hmem := List.ne_nil_of_mem (mem_runPumps.mpr h)
  simp [ConfigTables.plantBound, hmem]

theorem plantBound_of_valve {c : ConfigTables} {ch : ChannelNo} {v : ValveNo} (h : c.valves[v].channel = some ch) :
    c.plantBound ch = true := by
  have hmem := List.ne_nil_of_mem (mem_boundValves.mpr h)
  simp [ConfigTables.plantBound, hmem]

theorem notify_disabled {n : Notice} {s : State} (h : s.lnk.enables n.code = false) (c : List Byte) : s.notify n c = s := by
  simp [notify, h]

theorem notify_enabled {n : Notice} {s : State} (h : s.lnk.enables n.code = true) (c : List Byte) :
    ((s.notify n c).lnk.notices[n.place]).map (·.content) = some c := by
  simp [notify, h]

section Debounced
variable {s : State} {ch : ChannelNo} {debounce since : Nat} {notify : Bool} {was : Option Bool} {changed : Option Nat}

/-- The channel's debounced state is its raw state (R26). -/
def State.debouncedTo (ch : ChannelNo) (since : Nat) (changed : Option Nat) (s : State) : State :=
  s.setChannel ch (.switch (some s.pins.contacts[ch]) since changed)

variable (hc : s.cfg.channels[ch] = .switch debounce notify) (hr : s.fcu.channels[ch] = .switch was since changed)
  (hwas : was ≠ some s.pins.contacts[ch])
include hc hr hwas

theorem debounced_eq :
    s.debounced ch =
      if s.cfg.plantBound ch then (s.debouncedTo ch since changed).deliverSwitch ch s.pins.contacts[ch]
      else if notify && was.isSome then
        (s.debouncedTo ch since changed).notify .sensor (u8 ch.val ++ flag s.pins.contacts[ch])
      else s.debouncedTo ch since changed := by
  unfold debounced
  rw [hc, hr]
  exact if_neg hwas

theorem debounced_fcu : (s.debounced ch).fcu = (s.debouncedTo ch since changed).fcu := by
  rw [debounced_eq hc hr hwas]
  split
  · exact (deliverSwitch_touch ..).fcu
  · split
    · exact (notify_touch ..).fcu
    · rfl

theorem debounced_pump {p : PumpNo} (hp : s.cfg.pumps[p].runChannel = some ch) :
    (s.debounced ch).pva.pumps[p].proof = .of s.pins.contacts[ch] := by
  rw [debounced_eq hc hr hwas, if_pos (plantBound_of_run hp)]
  exact deliverSwitch_pump (s := s.debouncedTo ch since changed) hp _

theorem debounced_valve {v : ValveNo} (hv : s.cfg.valves[v].channel = some ch) :
    (s.debounced ch).pva.valves[v].proved = .of s.pins.contacts[ch] := by
  rw [debounced_eq hc hr hwas, if_pos (plantBound_of_valve hv)]
  exact deliverSwitch_valve (s := s.debouncedTo ch since changed) hv _

/-- A channel that no pump or valve field names changes itself and at most the notice (R27). -/
theorem debounced_loose (hloose : s.cfg.plantBound ch = false) : Touches [.fcu, .lnk] s (s.debounced ch) := by
  rw [debounced_eq hc hr hwas, hloose, if_neg Bool.false_ne_true]
  exact .ite ((setChannel_touch ..).seq (notify_touch ..)) (setChannel_touch ..).mono

theorem debounced_tx (hloose : s.cfg.plantBound ch = false) : (s.debounced ch).lnk.tx = s.lnk.tx := by
  rw [debounced_eq hc hr hwas, hloose, if_neg Bool.false_ne_true]
  split
  · exact (notify_steady ..).tx
  · rfl

theorem debounced_silent (hloose : s.cfg.plantBound ch = false) (h : notify = false ∨ was = none ∨ s.lnk.enables 8 = false) :
    (s.debounced ch).lnk = s.lnk := by
  rw [debounced_eq hc hr hwas, hloose, if_neg Bool.false_ne_true]
  split
  next hnotes =>
    have hdisabled : s.lnk.enables Notice.sensor.code = false := by
      rcases h with h | h | h
      · rw [h] at hnotes; cases hnotes
      · rw [h] at hnotes; simp at hnotes
      · exact h
    rw [notify_disabled (s := s.debouncedTo ch since changed) hdisabled]
    rfl
  next => rfl

theorem debounced_noticed (hloose : s.cfg.plantBound ch = false) (hn : notify = true) (hs : was ≠ none)
    (he : s.lnk.enables 8 = true) :
    ((s.debounced ch).lnk.notices[Notice.sensor.place]).map (·.content) = some (u8 ch.val ++ flag s.pins.contacts[ch]) := by
  have hnotes : (notify && was.isSome) = true := by rw [hn, Bool.true_and, Option.isSome_iff_ne_none]; exact hs
  rw [debounced_eq hc hr hwas, hloose, if_neg Bool.false_ne_true, if_pos hnotes]
  exact notify_enabled (n := .sensor) (s := s.debouncedTo ch since changed) he _

end Debounced

/-! ### Flow pulses (R28, R100, R126, R127) -/

section Pulse
variable {s : State} {p : PumpNo}

theorem judgePulse_fast {i : Nat} (h : s.pva.pumps[p].state = .busy ∧ s.pva.pumps[p].meter = false
    ∧ i < s.cfg.pumps[p].minInterval) :
    s.judgePulse p (some i) =
      ((s.setPump p { s.pva.pumps[p] with meter := true, noFlowUntil := none }).faultReport (.meter p)).log .meterFault
        [p.val, i, s.cfg.pumps[p].minInterval, s.pva.pumps[p].granted.getD 0] := if_pos h

theorem judgePulse_slow {interval : Option Nat} (h : ¬(s.pva.pumps[p].state = .busy ∧ s.pva.pumps[p].meter = false
    ∧ interval ≠ none ∧ interval.getD 0 < s.cfg.pumps[p].minInterval)) : s.judgePulse p interval = s := by
  unfold judgePulse
  rcases interval with _ | i
  · rfl
  · exact if_neg fun hfast => h ⟨hfast.1, hfast.2.1, Option.some_ne_none i, hfast.2.2⟩

theorem restartFlow_pump (s : State) : (s.restartFlow p).pva =
    { s.pva with pumps := s.pva.pumps.set p { s.pva.pumps[p] with
      noFlowUntil := s.pva.pumps[p].noFlowUntil.map fun _ => s.now + seconds s.cfg.pumps[p].noFlowTime } } := by
  rcases h : s.pva.pumps[p].noFlowUntil with _ | u
  · have hnone : s.restartFlow p = s := if_neg (by rw [h]; exact Bool.false_ne_true)
    have hsame : ({ s.pva.pumps[p] with noFlowUntil := none } : Pump) = s.pva.pumps[p] := by rw [← h]
    rw [hnone, Option.map_none, hsame]
    exact congrArg (fun v => { s.pva with pumps := v }) (Vector.set_getElem_self _).symm
  · have hsome : s.restartFlow p =
        s.setPump p { s.pva.pumps[p] with noFlowUntil := some (s.now + seconds s.cfg.pumps[p].noFlowTime) } :=
      if_pos (by rw [h]; rfl)
    rw [hsome]
    rfl

theorem countLitres_idle (h : s.tsq.stepOn p = none) : s.countLitres p = s := by
  unfold countLitres
  rw [h]

theorem countLitres_step {k : SlotNo} {x : StepRec} (h : s.tsq.stepOn p = some (k, x)) :
    s.countLitres p = s.setStep k { x with litres := satAdd Config.maxU32 x.litres s.cfg.pumps[p].litresPerPulse } := by
  unfold countLitres
  rw [h]

theorem pulse_tsq_idle {interval : Option Nat} (h : s.tsq.stepOn p = none) : (s.pulse p interval).tsq = s.tsq := by
  have hbefore : ((s.judgePulse p interval).restartFlow p).tsq = s.tsq := ((judgePulse_touch ..).seq (restartFlow_touch ..)).tsq
  rw [pulse, countLitres_idle (by rw [hbefore]; exact h), hbefore]

theorem pulse_tsq_step {interval : Option Nat} {k : SlotNo} {x : StepRec} (h : s.tsq.stepOn p = some (k, x)) :
    (s.pulse p interval).tsq = { s.tsq with
      slots := (s.tsq.slots.set k (some { x with litres := satAdd Config.maxU32 x.litres s.cfg.pumps[p].litresPerPulse })) } := by
  have hbefore := (judgePulse_touch p interval s).seq (restartFlow_touch p _)
  rw [pulse, countLitres_step (by rw [hbefore.tsq]; exact h), setStep_tsq, hbefore.tsq, hbefore.cfg]

/-- A pulse on time restarts the no-flow timer where it runs, and does no more to PVA, LSL and RCU (R126). -/
theorem pulse_slow {interval : Option Nat} (h : ¬(s.pva.pumps[p].state = .busy ∧ s.pva.pumps[p].meter = false
    ∧ interval ≠ none ∧ interval.getD 0 < s.cfg.pumps[p].minInterval)) :
    (s.pulse p interval).lsl = s.lsl ∧ (s.pulse p interval).rcu = s.rcu ∧ (s.pulse p interval).pva = (s.restartFlow p).pva := by
  rw [pulse, judgePulse_slow h]
  have hcount := countLitres_touch p (s.restartFlow p)
  exact ⟨hcount.lsl.trans (restartFlow_touch ..).lsl, hcount.rcu.trans (restartFlow_touch ..).rcu, hcount.pva⟩

/-- A pulse touches no valve and no other pump. -/
theorem judgePulse_plant (interval : Option Nat) (s : State) :
    (s.judgePulse p interval).pva.valves = s.pva.valves
      ∧ ∀ q : PumpNo, q ≠ p → (s.judgePulse p interval).pva.pumps[q] = s.pva.pumps[q] := by
  by_cases h : s.pva.pumps[p].state = .busy ∧ s.pva.pumps[p].meter = false
      ∧ interval ≠ none ∧ interval.getD 0 < s.cfg.pumps[p].minInterval
  · obtain ⟨hbusy, hmeter, hsome, hsoon⟩ := h
    obtain ⟨i, rfl⟩ := Option.ne_none_iff_exists'.mp hsome
    rw [judgePulse_fast (i := i) ⟨hbusy, hmeter, hsoon⟩, (log_touch ..).pva, (faultReport_touch ..).pva, setPump_pva]
    exact ⟨rfl, fun q hq => Vector.getElem_set_ne p.isLt q.isLt fun e => hq (Fin.ext e.symm)⟩
  · rw [judgePulse_slow h]
    exact ⟨rfl, fun _ _ => rfl⟩

theorem pulse_valves (p : PumpNo) (interval : Option Nat) (s : State) : (s.pulse p interval).pva.valves = s.pva.valves := by
  rw [pulse, (countLitres_touch ..).pva, restartFlow_pump]
  exact (judgePulse_plant interval s).1

theorem pulse_others {q : PumpNo} (interval : Option Nat) (s : State) (h : q ≠ p) :
    (s.pulse p interval).pva.pumps[q] = s.pva.pumps[q] := by
  rw [pulse, (countLitres_touch ..).pva, restartFlow_pump]
  exact (Vector.getElem_set_ne p.isLt q.isLt fun e => h (Fin.ext e.symm)).trans ((judgePulse_plant interval s).2 q h)

/-- The pump of a pulse that comes too soon: METER, and no no-flow timer (R127). -/
def State.metered (p : PumpNo) (s : State) : State := s.setPump p { s.pva.pumps[p] with meter := true, noFlowUntil := none }

/-- A pulse that comes too soon (R127). -/
theorem pulse_fast {i : Nat} (h : s.pva.pumps[p].state = .busy ∧ s.pva.pumps[p].meter = false
    ∧ i < s.cfg.pumps[p].minInterval) :
    (s.pulse p (some i)).lsl = ((s.metered p).faultReport (.meter p)).lsl
      ∧ (s.pulse p (some i)).rcu = (((s.metered p).faultReport (.meter p)).log .meterFault
          [p.val, i, s.cfg.pumps[p].minInterval, s.pva.pumps[p].granted.getD 0]).rcu
      ∧ (s.pulse p (some i)).pva = (s.metered p).pva := by
  rw [pulse, judgePulse_fast h]
  have hcount := countLitres_touch p ((((s.metered p).faultReport (.meter p)).log .meterFault
    [p.val, i, s.cfg.pumps[p].minInterval, s.pva.pumps[p].granted.getD 0]).restartFlow p)
  have hflow := restartFlow_touch p (((s.metered p).faultReport (.meter p)).log .meterFault
    [p.val, i, s.cfg.pumps[p].minInterval, s.pva.pumps[p].granted.getD 0])
  have hreport : (((s.metered p).faultReport (.meter p)).log .meterFault
      [p.val, i, s.cfg.pumps[p].minInterval, s.pva.pumps[p].granted.getD 0]).pva = (s.metered p).pva := (faultReport_touch ..).pva
  refine ⟨(hcount.lsl.trans hflow.lsl).trans (log_touch ..).lsl, hcount.rcu.trans hflow.rcu, hcount.pva.trans ?_⟩
  rw [restartFlow_pump, hreport]
  simp [State.metered]

end Pulse

end Sys2Proof.Machine
end

section
/-! PROOFS. Switch changes, debounce expiries and flow pulses as commands (R20, R26 to R28, R100, R126, R127). -/

namespace Sys2Proof.Machine

/- One proof at a time: side by side they take a thread each. -/
set_option Elab.async false

open State

/-! ### SWITCH_INPUT_CHANGE -/

section Contact
variable {s : State} {ch : ChannelNo} {closed : Bool}

/-- Without power, or at a channel in another mode, the contact alone changes (log entry 16). -/
theorem exec_switchInputChange_still (hset : Settled s) (h : s.pins.contacts[ch] ≠ closed)
    (hstill : s.powered = false ∨ ∀ d since changed, s.fcu.channels[ch] ≠ .switch d since changed) :
    exec (.switchInputChange ch closed) s = .next (s.contacted ch closed) := by
  rw [exec_switchInputChange h]
  rcases hp : s.powered with _ | _
  · rw [event_unpowered (s := s.contacted ch closed) hp]
  · have hother : ∀ d since changed, s.fcu.channels[ch] ≠ .switch d since changed :=
      hstill.resolve_left (by rw [hp]; exact Bool.noConfusion)
    have hsame : (s.contacted ch closed).contactChange ch = s.contacted ch closed := contactChange_other hother
    rw [event_settled (s := s.contacted ch closed) hp hset (by rw [hsame]), hsame]

/-- With power a SWITCH channel's debounce starts afresh (R26). -/
theorem exec_switchInputChange_restarts (hset : Settled s) (h : s.pins.contacts[ch] ≠ closed) (hp : s.powered = true)
    {d : Option Bool} {since : Nat} {changed : Option Nat} (hr : s.fcu.channels[ch] = .switch d since changed) :
    exec (.switchInputChange ch closed) s = .next ((s.contacted ch closed).setChannel ch (.switch d s.now (some s.now))) := by
  have hchange : (s.contacted ch closed).contactChange ch = (s.contacted ch closed).setChannel ch (.switch d s.now (some s.now)) :=
    contactChange_switch hr
  rw [exec_switchInputChange h, event_settled (s := s.contacted ch closed) hp hset (by rw [hchange]; rfl), hchange]

end Contact

/-! ### SWITCH_DEBOUNCE_EXPIRY and FLOW_PULSE -/

theorem exec_switchDebounceExpiry {s : State} (hp : s.powered = true) (ch : ChannelNo) :
    exec (.switchDebounceExpiry ch) s = .next (s.debounced ch).transmit := congrArg Host.Outcome.next (event_powered hp)

section Pulse
variable {s : State} {ch : ChannelNo} {count : BitVec 32} {last : Option Nat}

theorem exec_flowPulse (hp : s.powered = true) : exec (.flowPulse ch) s = .next (s.countPulse ch).transmit :=
  congrArg Host.Outcome.next (event_powered hp)

/-- The channel counts the pulse and records its time (R28). -/
def State.counted (ch : ChannelNo) (count : BitVec 32) (s : State) : State := s.setChannel ch (.pulse (count + 1) (some s.now))

theorem countPulse_eq (hr : s.fcu.channels[ch] = .pulse count last) :
    s.countPulse ch =
      (s.cfg.flowPumps ch).foldl (fun u p => u.pulse p (last.map fun t => s.now - t)) (s.counted ch count) := by
  unfold countPulse
  rw [hr]
  rfl

theorem countPulse_fcu (hr : s.fcu.channels[ch] = .pulse count last) : (s.countPulse ch).fcu = (s.counted ch count).fcu := by
  rw [countPulse_eq hr]
  exact (Touches.foldl (fun u p => pulse_touch p _ u) _ _).fcu

theorem countPulse_unbound (hr : s.fcu.channels[ch] = .pulse count last) (h : s.cfg.flowPumps ch = []) :
    s.countPulse ch = s.counted ch count := by
  rw [countPulse_eq hr, h]
  rfl

theorem countPulse_one (hr : s.fcu.channels[ch] = .pulse count last) {p : PumpNo} (h : s.cfg.flowPumps ch = [p]) :
    s.countPulse ch = (s.counted ch count).pulse p (last.map fun t => s.now - t) := by
  rw [countPulse_eq hr, h]
  rfl

end Pulse

end Sys2Proof.Machine

namespace Sys2Proof
open Machine

/-- Settles O27: contact, debounced state and pulse, each from its channel's mode. -/
theorem contactsTaken : Obligations.ContactsTaken := by
  refine ⟨fun s ch closed hset => ⟨exec_switchInputChange_same, fun h =>
      ⟨exec_switchInputChange_still hset h, fun d since changed hp hr => exec_switchInputChange_restarts hset h hp hr⟩⟩,
    fun s ch debounce since notify was changed hp hc hr hwas => ?debounced, fun s ch count last hp hr => ?pulse⟩
  case debounced =>
    have hbusy (hloose : s.cfg.plantBound ch = false) (htx : s.lnk.tx ≠ .idle) : (s.debounced ch).lnk.tx ≠ .idle := by
      rw [debounced_tx hc hr hwas hloose]
      exact htx
    refine ⟨_, exec_switchDebounceExpiry hp ch, ?_, ((debounced_touch ch s).seq (transmit_touch _)).mono, fun p hrun => ?_,
      fun v hv => ?_, fun hloose => ⟨((debounced_loose hc hr hwas hloose).seq (transmit_touch _)).mono, fun htx h => ?_,
        fun htx hn hs he => ?_⟩⟩
    · rw [(transmit_touch _).fcu, debounced_fcu hc hr hwas]
      rfl
    · rw [(transmit_touch _).pva, debounced_pump hc hr hwas hrun]
      rfl
    · rw [(transmit_touch _).pva, debounced_valve hc hr hwas hv]
      rfl
    · rw [transmit_busy (hbusy hloose htx), debounced_silent hc hr hwas hloose h]
    · rw [transmit_busy (hbusy hloose htx)]
      exact debounced_noticed hc hr hwas hloose hn hs he
  case pulse =>
    refine ⟨_, exec_flowPulse hp, ?_, ((countPulse_touch ch s).seq (transmit_touch _)).mono, fun hnone hset => ?_, fun p hone => ?_⟩
    · rw [(transmit_touch _).fcu, countPulse_fcu hr]
      rfl
    · rw [countPulse_unbound hr hnone, transmit_settled (s := s.counted ch count) hset]
      rfl
    · intro y interval fast masked alarmed
      have ht := transmit_touch ((s.counted ch count).pulse p (last.map fun t => s.now - t))
      rw [countPulse_one hr hone, ht.pva, ht.lsl, ht.rcu, ht.tsq]
      refine ⟨pulse_valves _ _ _, fun q hq => pulse_others _ _ hq, fun hfast => ?fast, fun hslow => ?slow,
        fun h => pulse_tsq_idle (s := s.counted ch count) h, fun k x h => pulse_tsq_step (s := s.counted ch count) h⟩
      case fast =>
        obtain ⟨hbusy, hmeter, hlast, hsoon⟩ := hfast
        obtain ⟨t, rfl⟩ := Option.ne_none_iff_exists'.mp hlast
        obtain ⟨hlsl, hrcu, hpva⟩ := pulse_fast (s := s.counted ch count) (i := s.now - t) ⟨hbusy, hmeter, hsoon⟩
        rw [Option.map_some, hlsl, hrcu, hpva]
        refine ⟨Vector.getElem_set_self .., ?_, fun h => ?_, fun h => ?_, ?_⟩
        · exact (faultReport_has (.meter p) (.meter p) _).trans (by simp)
        · rw [faultReport_known (.meter p) (s := (s.counted ch count).metered p) h]
          rfl
        · exact faultReport_group (.meter p) (s := (s.counted ch count).metered p) h
        · have hentry : ((((s.counted ch count).metered p).faultEntry (.meter p)).rcu = alarmed.rcu)
              ∧ alarmed.ccl = s.ccl := by
            by_cases hknown : s.lsl.faults.meter[p] = true
            · have hold : ((s.counted ch count).metered p).faultEntry (.meter p) = (s.counted ch count).metered p := if_pos hknown
              have halarmed : alarmed = s := if_pos hknown
              rw [hold, halarmed]
              exact ⟨rfl, rfl⟩
            · have hnew : ((s.counted ch count).metered p).faultEntry (.meter p) =
                  ((s.counted ch count).metered p).alarmEntry .equipment 34 p.val := if_neg hknown
              have halarmed : alarmed = s.log .alarm [3, 34, p.val, masked.toNat] := if_neg hknown
              rw [hnew, halarmed]
              exact ⟨rfl, rfl⟩
          refine log_congr ((faultReport_rcu ..).trans hentry.1) ?_ ..
          exact (faultReport_touch ..).ccl.trans hentry.2.symm
      case slow =>
        have hnot : ¬(y.state = .busy ∧ y.meter = false ∧ (last.map fun t => s.now - t) ≠ none
            ∧ (last.map fun t => s.now - t).getD 0 < s.cfg.pumps[p].minInterval) := by
          rintro ⟨hbusy, hmeter, hsome, hsoon⟩
          rcases last with _ | t
          · exact hsome rfl
          · exact hslow ⟨hbusy, hmeter, Option.some_ne_none t, hsoon⟩
        obtain ⟨hlsl, hrcu, hpva⟩ := pulse_slow (s := s.counted ch count) hnot
        rw [hlsl, hrcu, hpva, restartFlow_pump]
        refine ⟨rfl, rfl, (Vector.getElem_set_self ..).trans ?_⟩
        simp only [seconds, Nat.mul_comm]
        rfl

end Sys2Proof
end

section
/-! PROOFS. The entries that the work of the transfer queue writes behind those already written: no more than the steps it removes (R102, R173, R174). -/

namespace Sys2Proof.Machine

/- One proof at a time: side by side they take a thread each. -/
set_option Elab.async false

open State

/-! ### The entries since a number -/

/-- An entry of the log as its kind and its four parameters. -/
def entryOf (k : EntryKind) (ps : List Nat) : EntryKind × Vector Nat 4 := (k, Vector.ofFn fun i : Fin 4 => ps.getD i.val 0)

theorem entryOf_four (k : EntryKind) (a b c d : Nat) : entryOf k [a, b, c, d] = (k, #v[a, b, c, d]) := rfl

/-- The log's entries numbered from `n` on are `es`, the log being well formed and the next entry's number known (R173, R174). -/
structure Entered (n : Nat) (es : List (EntryKind × Vector Nat 4)) (r : Rcu) : Prop where
  next : r.nextSequence = some (n + es.length)
  length : r.log.length ≤ Config.logCapacity
  room : r.log.length < n + es.length
  numbered : r.log.map (·.sequence) = List.range' (n + es.length - r.log.length) r.log.length
  entries : r.entriesFrom n = es

namespace Entered

variable {n : Nat} {es : List (EntryKind × Vector Nat 4)}

/-- Of a well-formed log no entry bears the next number or a greater one. -/
theorem start {s : State} (hsafe : LogSafe s) (hnext : s.rcu.nextSequence = some n) : Entered n [] s.rcu := by
  obtain ⟨hlength, -, -, hroom, hnumbered, -, -⟩ := hsafe
  have hup : s.rcu.upcoming = n := by simp [Rcu.upcoming, hnext]
  rw [hup] at hroom hnumbered
  refine ⟨hnext, hlength, hroom, hnumbered, ?_⟩
  have hbelow : ∀ e ∈ s.rcu.log, e.sequence < n := by
    intro e he
    have hmem := List.mem_map_of_mem (f := (·.sequence)) he
    rw [hnumbered, List.mem_range'_1] at hmem
    omega
  simp only [Rcu.entriesFrom, List.map_eq_nil_iff, List.filter_eq_nil_iff, decide_eq_true_eq, not_le]
  exact hbelow

/-- One more entry. -/
theorem log {s : State} (h : Entered n es s.rcu) (hcount : es.length < 64) (hroom : n + 64 ≤ Config.maxU32) (k : EntryKind)
    (ps : List Nat) : Entered n (es ++ [entryOf k ps]) (s.log k ps).rcu := by
  obtain ⟨hnext, hlength, hfew, hnumbered, hentries⟩ := h
  have hcap : Config.logCapacity = 1024 := rfl
  have hseq : ∀ m : Nat, s.rcu.log.length = m + 1 → ∀ e ∈ s.rcu.log.head?, e.sequence = n + es.length - s.rcu.log.length := by
    intro m hm e he
    have hhead : (s.rcu.log.map (·.sequence)).head? = some e.sequence := by
      rw [List.head?_map, Option.mem_def.mp he]
      rfl
    rw [hnumbered, hm, List.range'_succ, List.head?_cons] at hhead
    rw [hm]
    exact (Option.some.inj hhead).symm
  rcases log_cases k ps s with ⟨hnone, -⟩ | ⟨q, e, hq, hnumber, -, -, -, hlog, -, hafter, -⟩
  · rw [hnext] at hnone
    cases hnone
  · obtain rfl : n + es.length = q := Option.some.inj (hnext.symm.trans hq)
    have hne : n + es.length ≠ Config.maxU32 := by omega
    rw [if_neg hne] at hafter
    refine ⟨hafter.trans (by simp [Nat.add_assoc]), ?_, ?_, ?_, ?_⟩
    · rw [hlog]
      split <;> simp <;> omega
    · rw [hlog]
      split <;> simp <;> omega
    · have hlast (a len : Nat) (ha : n + es.length = a + len) :
          List.range' a len ++ [n + es.length] = List.range' a (len + 1) := by rw [List.range'_1_concat, ha]
      rw [hlog, List.map_append, List.map_cons, List.map_nil, hnumber]
      split
      next hfull =>
        obtain ⟨m, hlen⟩ : ∃ m, s.rcu.log.length = m + 1 := ⟨1023, by omega⟩
        rw [List.map_drop, hnumbered, hlen, List.range'_succ, List.drop_one, List.tail_cons, hlast _ m (by omega)]
        congr 1 <;> simp [hlen]
        omega
      next hfree =>
        rw [hnumbered, hlast _ _ (by omega)]
        congr 1 <;> simp
        omega
    · refine (log_entriesFrom k ps hnext (Nat.le_add_right ..) fun hfull e he => ?_).trans (by rw [hentries]; rfl)
      have hlen : s.rcu.log.length = 1023 + 1 := by omega
      rw [hseq 1023 hlen e he]
      omega

end Entered

/-- The entries go by the log and the next number. -/
theorem Entered.congr {n : Nat} {es : List (EntryKind × Vector Nat 4)} {r r' : Rcu} (h : Entered n es r) (hlog : r'.log = r.log)
    (hnext : r'.nextSequence = r.nextSequence) : Entered n es r' := by
  obtain ⟨h₁, h₂, h₃, h₄, h₅⟩ := h
  refine ⟨hnext.trans h₁, ?_, ?_, ?_, ?_⟩
  · rw [hlog]; exact h₂
  · rw [hlog]; exact h₃
  · rw [hlog]; exact h₄
  · rw [← h₅, Rcu.entriesFrom, Rcu.entriesFrom, hlog]

/-! ### Work behind an entry: few entries more, and the ALARM notice left as it is -/

/-- How many steps the queue holds. -/
def Tsq.heldCount (q : Tsq) : Nat := q.slots.countP (·.isSome)

theorem heldCount_le (q : Tsq) : q.heldCount ≤ 32 := Vector.countP_le_size

/-- At most `m` entries and one for each step removed are written. -/
structure Adds (m : Nat) (s t : State) : Prop where
  more : ∀ n es, n + 64 ≤ Config.maxU32 → Entered n es s.rcu → es.length + m + s.tsq.heldCount ≤ 64 →
    ∃ more, more.length + t.tsq.heldCount ≤ m + s.tsq.heldCount ∧ Entered n (es ++ more) t.rcu

namespace Adds

variable {m m' : Nat} {s t u : State}

/-- Nothing is written, and no step is taken in. -/
theorem of_rcu (hrcu : t.rcu = s.rcu) (hheld : t.tsq.heldCount ≤ s.tsq.heldCount) : Adds 0 s t where
  more n es _ h _ := ⟨[], by simpa using hheld, by rw [hrcu]; simpa using h⟩

theorem of_touches {l : List Part} (h : Touches l s t) (hr : Part.rcu ∉ l := by decide) (hq : Part.tsq ∉ l := by decide) :
    Adds 0 s t := of_rcu (h.rcu hr) (by rw [h.tsq hq])

theorem trans (h : Adds m s t) (g : Adds m' t u) : Adds (m + m') s u where
  more n es hn he hfew := by
    obtain ⟨more, hcount, ht⟩ := h.more n es hn he (by omega)
    obtain ⟨more', hcount', hu⟩ := g.more n (es ++ more) hn ht (by rw [List.length_append]; omega)
    exact ⟨more ++ more', by rw [List.length_append]; omega, by rw [← List.append_assoc]; exact hu⟩

theorem mono (h : Adds m s t) (hm : m ≤ m') : Adds m' s t where
  more n es hn he hfew := by
    obtain ⟨more, hcount, ht⟩ := h.more n es hn he (by omega)
    exact ⟨more, by omega, ht⟩

end Adds

theorem log_adds (k : EntryKind) (ps : List Nat) (s : State) : Adds 1 s (s.log k ps) where
  more _ _ hn he hfew := ⟨[entryOf k ps], Nat.le_refl _, he.log (by omega) hn k ps⟩

/-- A fault report writes at most the entry of its alarm event (R81). -/
theorem faultReport_adds (e : Equipment) (s : State) : Adds 1 s (s.faultReport e) where
  more n es hn he hfew := by
    rw [faultReport_rcu, (faultReport_touch e s).tsq, faultEntry]
    split
    · exact ⟨[], by simp, by simpa using he⟩
    · exact ⟨[_], Nat.le_refl _, he.log (by omega) hn ..⟩

/-- Few entries are written, and the ALARM notice stands. -/
structure Behind (m : Nat) (s t : State) : Prop where
  adds : Adds m s t
  alarm : t.lnk.notices[Notice.alarm.place] = s.lnk.notices[Notice.alarm.place]

namespace Behind

variable {m m' : Nat} {s t u : State}

theorem refl (s : State) : Behind 0 s s := ⟨.of_rcu rfl (Nat.le_refl _), rfl⟩

theorem of_touches {l : List Part} (h : Touches l s t) (hr : Part.rcu ∉ l := by decide) (hq : Part.tsq ∉ l := by decide)
    (hl : Part.lnk ∉ l := by decide) : Behind 0 s t := ⟨.of_touches h hr hq, by rw [h.lnk hl]⟩

theorem trans (h : Behind m s t) (g : Behind m' t u) : Behind (m + m') s u := ⟨h.adds.trans g.adds, g.alarm.trans h.alarm⟩

theorem seq (h : Behind 0 s t) (g : Behind m t u) : Behind m s u := Nat.zero_add m ▸ h.trans g

theorem ite {c : Prop} [Decidable c] (h : Behind m s t) (g : Behind m s u) : Behind m s (if c then t else u) := by
  split <;> assumption

theorem foldl {α : Type} {f : State → α → State} (h : ∀ s a, Behind 0 s (f s a)) (as : List α) (s : State) :
    Behind 0 s (as.foldl f s) := by
  induction as generalizing s with
  | nil => exact refl s
  | cons a as ih => exact (h s a).seq (ih (f s a))

theorem mono (h : Behind 0 s t) : Behind m s t := ⟨h.adds.mono (Nat.zero_le m), h.alarm⟩

end Behind

theorem log_behind (k : EntryKind) (ps : List Nat) (s : State) : Behind 1 s (s.log k ps) := ⟨log_adds k ps s, rfl⟩

/-! ### The steps -/

section Steps
variable {k : SlotNo} {x y : StepRec} {s : State}

theorem heldCount_some (hy : s.tsq.slots[k] = some y) {q : Tsq} (hq : q.slots = s.tsq.slots.set k (some x)) :
    q.heldCount = s.tsq.heldCount := by
  have hpos : 0 < s.tsq.slots.countP (·.isSome) :=
    Vector.countP_pos_iff.mpr ⟨some y, hy ▸ Vector.getElem_mem k.isLt, rfl⟩
  have hy' : s.tsq.slots[k.val] = some y := hy
  rw [Tsq.heldCount, hq, Vector.countP_set, hy', Tsq.heldCount]
  simp only [Option.isSome_some, if_true]
  omega

theorem heldCount_none (hy : s.tsq.slots[k] = some y) {q : Tsq} (hq : q.slots = s.tsq.slots.set k none) :
    q.heldCount + 1 = s.tsq.heldCount := by
  have hpos : 0 < s.tsq.slots.countP (·.isSome) :=
    Vector.countP_pos_iff.mpr ⟨some y, hy ▸ Vector.getElem_mem k.isLt, rfl⟩
  have hy' : s.tsq.slots[k.val] = some y := hy
  rw [Tsq.heldCount, hq, Vector.countP_set, hy', Tsq.heldCount]
  simp only [Option.isSome_some, Option.isSome_none, if_true, Bool.false_eq_true, if_false]
  omega

theorem setStep_behind (hy : s.tsq.slots[k] = some y) (x : StepRec) : Behind 0 s (s.setStep k x) :=
  ⟨.of_rcu rfl (heldCount_some hy rfl).le, rfl⟩

/-- A STEP_STATE notice has a place of its own (R194). -/
theorem notify_step_behind (k : SlotNo) (c : List Byte) (s : State) : Behind 0 s (s.notify (.stepState k) c) := by
  have h := notify_touch (.stepState k) c s
  refine ⟨.of_rcu h.rcu (by rw [h.tsq]), ?_⟩
  unfold notify
  split
  · exact Vector.getElem_set_ne (Fin.isLt _) (Fin.isLt _) (by simp [Notice.place]; omega)
  · rfl

theorem enterState_behind (hy : s.tsq.slots[k] = some y) (x : StepRec) : Behind 0 s (s.enterState k x) :=
  (setStep_behind hy x).seq (notify_step_behind ..)

/-- The entry of a step's end (R102). -/
def endEntry (x : StepRec) (out : StepOutcome) (d : Disposition) : EntryKind × Vector Nat 4 :=
  entryOf .stepEnd [x.number, x.kind.code, out.code, d.code]

theorem removeStep_entered {n : Nat} {es : List (EntryKind × Vector Nat 4)} (hn : n + 64 ≤ Config.maxU32)
    (h : Entered n es s.rcu) (hfew : es.length < 64) (out : StepOutcome) (d : Disposition) :
    Entered n (es ++ [endEntry x out d]) (s.removeStep k x out d).rcu := by
  have hlog : Entered n (es ++ [endEntry x out d]) (s.log .stepEnd [x.number, x.kind.code, out.code, d.code]).rcu :=
    h.log hfew hn ..
  unfold removeStep
  rw [(notify_touch ..).rcu]
  exact hlog.congr rfl rfl

theorem removeStep_behind (hy : s.tsq.slots[k] = some y) (x : StepRec) (out : StepOutcome) (d : Disposition) :
    Behind 0 s (s.removeStep k x out d) where
  alarm := by
    unfold removeStep
    extract_lets _ s₁ s₂
    have h₂ : s₂.lnk = s.lnk := (stepEnd_touch x out d s₁).lnk
    rw [(notify_step_behind k _ s₂).alarm, h₂]
  adds := ⟨fun n es hn he hfew => by
    have hpos := heldCount_none (q := { s.tsq with slots := s.tsq.slots.set k none }) hy rfl
    have hheld : (s.removeStep k x out d).tsq.heldCount + 1 = s.tsq.heldCount := by
      unfold removeStep
      extract_lets _ s₁ s₂
      rw [(notify_touch ..).tsq, (stepEnd_touch ..).tsq]
      exact heldCount_none hy rfl
    exact ⟨[endEntry x out d], by rw [List.length_singleton]; omega, removeStep_entered hn he (by omega) out d⟩⟩

theorem dropStep_behind (hx : s.tsq.slots[k] = some x) (out : StepOutcome) : Behind 0 s (s.dropStep k x out) :=
  (removeStep_behind hx x out .cancelled).seq (.ite (.of_touches (leaveWaiting_touch ..)) (.refl _))

theorem checkClosed_behind (k : SlotNo) (s : State) : Behind 0 s (s.checkClosed k) := by
  unfold checkClosed
  split
  · exact .refl s
  next x hx =>
    refine .ite ?_ (.refl s)
    extract_lets out s₁
    have h₁ : Behind 0 s s₁ := (removeStep_behind hx ..).seq (.of_touches (releasePump_touch ..))
    exact .ite (h₁.seq (.of_touches (settleMode_touch _))) h₁

theorem closeLineup_behind (k : SlotNo) (s : State) : Behind 0 s (s.closeLineup k) := .of_touches (closeLineup_touch k s)

theorem plantWindDown_behind (k : SlotNo) (x : StepRec) (s : State) : Behind 0 s (s.plantWindDown k x) := by
  unfold plantWindDown
  split
  · exact .refl s
  · exact .ite (.of_touches (setPump_touch ..)) ((closeLineup_behind k s).seq (checkClosed_behind k _))

theorem windDown_behind (k : SlotNo) (out : StepOutcome) (s : State) : Behind 0 s (s.windDown k out) := by
  unfold windDown
  split
  · exact .refl s
  next x hx => exact .ite ((enterState_behind hx _).seq (plantWindDown_behind ..)) (.refl s)

theorem endStep_behind (k : SlotNo) (out : StepOutcome) (s : State) : Behind 0 s (s.endStep k out) := by
  unfold endStep
  split
  · exact .refl s
  next x hx => exact .ite (dropStep_behind hx out) (windDown_behind k out s)

theorem grant_behind (p : PumpNo) (k : SlotNo) (s : State) : Behind 0 s (s.grant p k) := by
  unfold grant
  split
  · exact .refl s
  next x hx =>
    extract_lets a serial _ y s₁ s₂ s₃
    have h₁ : Behind 0 s s₁ := .of_touches (touch_pva s _)
    have htouch : Touches [.pva] s₁ s₂ := openValves_touch ..
    have hx₂ : s₂.tsq.slots[k] = some x := by rw [htouch.tsq]; exact hx
    exact h₁.seq ((Behind.of_touches htouch).seq ((enterState_behind hx₂ _).seq (.of_touches (leaveWaiting_touch ..))))

theorem grantsBut_behind (passed : StepRec → Bool) (s : State) : Behind 0 s (s.grantsBut passed) :=
  grantsBut_keeps (P := Behind 0 s) (fun p k _ t h _ _ _ => h.seq (grant_behind p k t)) (.refl s)

theorem grants_behind (s : State) : Behind 0 s s.grants := grantsBut_behind _ s

theorem endSteps_behind (which : StepRec → Bool) (out : StepOutcome) (s : State) : Behind 0 s (s.endSteps which out) := by
  rw [endSteps_eq]
  exact .foldl (fun t k => atSlot_cases (Behind 0 t) (.refl t) ((endStep_behind k out t).seq (grantsBut_behind which _))) _ s

theorem lockTank_behind (t : TankNo) (why : Lock) (s : State) : Behind 1 s (s.lockTank t why) := by
  rw [lockTank_eq]
  have hlock : Behind 1 s (s.locked t why) := (Behind.of_touches (setTank_touch ..)).seq (log_behind ..)
  exact hlock.trans ((endSteps_behind ..).seq (.of_touches (requestRecompute_touch _)))

theorem failedToClose_behind (v : ValveNo) (s : State) : Behind 1 s (s.failedToClose v) := by
  unfold failedToClose
  split
  · exact (Behind.refl s).mono
  · exact .ite (Behind.refl s).mono (lockTank_behind ..)

theorem markStep_behind (k : SlotNo) (s : State) : Behind 0 s (s.markStep k) := by
  unfold markStep
  split
  next x hx => exact .ite (setStep_behind hx _) (.refl s)
  next => exact .refl s

theorem addCloseFailed_behind (v : ValveNo) (k : SlotNo) (s : State) : Behind 0 s (s.addCloseFailed v k) := by
  unfold addCloseFailed
  split
  next x hx => exact setStep_behind hx _
  next => exact .refl s

end Steps

/-! ### A fault taken by LSL and logged (R78, R81) -/

section Fault
variable {g : AlarmGroup} {source item : Nat} {e : Equipment} {s : State}

/-- The notice of an alarm event (R78). -/
theorem alarmEvent_notice (h : s.lnk.enables 3 = true) :
    ((s.alarmEvent g source item).lnk.notices[Notice.alarm.place]).map (·.content) =
      some (u8 g.code ++ u8 source ++ u8 item ++ flag s.cfg.alarm.masked[g.ix] ++ flag (!s.cfg.alarm.masked[g.ix])
        ++ flag s.lsl.groups[g.ix].causePresent
        ++ flag (s.lsl.groups[g.ix].unacknowledged || !s.cfg.alarm.masked[g.ix])) := by
  have hgroup := alarmEvent_group g source item s
  unfold alarmEvent at hgroup ⊢
  extract_lets masked s₁ s₂ s₃ s₄ at hgroup
  extract_lets
  have h₁ : Touches [.lsl] s s₁ := .ite (.refl _ s) (touch_lsl s _)
  have h₂ : s₂.lsl = s₁.lsl := (log_touch ..).lsl
  have h₃ : s₃.lsl = s₂.lsl := (notify_touch ..).lsl
  have h₄ : Touches [.lsl] s₃ s₄ := .ite (.refl _ _) (startPulse_touch _)
  have hgroups : s₄.evalAlarm.lsl.groups = s₂.lsl.groups := by
    rw [← h₃]
    refine Eq.trans (b := s₄.lsl.groups) rfl ?_
    unfold s₄ startPulse
    split
    · rfl
    · split <;> rfl
  rw [hgroups] at hgroup
  rw [(evalAlarm_touch s₄).lnk, h₄.lnk]
  have hen : s₂.lnk.enables Notice.alarm.code = true := by rw [(log_touch ..).lnk, h₁.lnk]; exact h
  rw [notify_enabled hen, hgroup]
  rfl

theorem put_known {x : FaultSet} (h : x.has e = true) : x.put true e = x := by
  cases e <;> simp only [FaultSet.has, FaultSet.put] at h ⊢ <;> rw [← h] <;> simp

theorem faultReport_faults (s : State) : (s.faultReport e).lsl.faults = s.lsl.faults.put true e := by
  cases h : s.lsl.faults.has e with
  | true => rw [faultReport_known e h, put_known h]
  | false =>
    rw [faultReport_new e h, alarmEvent_faults]
    rfl

theorem faultReport_notice (hnew : s.lsl.faults.has e = false) (h : s.lnk.enables 3 = true) :
    ((s.faultReport e).lnk.notices[Notice.alarm.place]).map (·.content) =
      some (u8 3 ++ u8 (30 + e.code) ++ u8 e.item ++ flag s.cfg.alarm.masked[AlarmGroup.equipment.ix]
        ++ flag (!s.cfg.alarm.masked[AlarmGroup.equipment.ix]) ++ flag true
        ++ flag (s.lsl.groups[AlarmGroup.equipment.ix].unacknowledged || !s.cfg.alarm.masked[AlarmGroup.equipment.ix])) := by
  have ht := withFault_touch e s
  rw [faultReport_new e hnew, alarmEvent_notice (by rw [ht.lnk]; exact h), ht.cfg, withFault, setCause_lsl]
  simp
  rfl

/-- A fault reported and logged at once, before any other entry, is taken (R81). -/
theorem faultTaken_of_behind {s₁ w : State} {k : EntryKind} {ps : List Nat} {m : Nat} (h₁ : Touches [.fcu, .pva] s s₁)
    (hw : Behind m ((s₁.faultReport e).log k ps) w) (hm : m ≤ 30) (hlsl : w.lsl = (s₁.faultReport e).lsl)
    (htx : w.lnk.tx = s.lnk.tx) : FaultTaken s w.transmit e (entryOf k ps) := by
  have hfaults : s₁.lsl.faults = s.lsl.faults := by rw [h₁.lsl]
  have hentries (front : List (EntryKind × Vector Nat 4)) (hfew : front.length ≤ 1)
      (hfront : ∀ n, n + 64 ≤ Config.maxU32 → Entered n [] s₁.rcu → Entered n front (s₁.faultReport e).rcu) :
      NewEntries s w.transmit ((front ++ [entryOf k ps]) <+: ·) := by
    intro hsafe n hnext hn
    have hfirst := (hfront n hn (by rw [h₁.rcu]; exact Entered.start hsafe hnext)).log (by omega) hn k ps
    have hheld := heldCount_le ((s₁.faultReport e).log k ps).tsq
    obtain ⟨more, -, hdone⟩ := hw.adds.more n _ hn hfirst (by rw [List.length_append, List.length_singleton]; omega)
    rw [(transmit_touch w).rcu, hdone.entries]
    exact List.prefix_append ..
  refine ⟨?_, ?_⟩
  · rw [(transmit_touch w).lsl, hlsl, faultReport_faults, hfaults]
  · cases hknown : s.lsl.faults.has e with
    | true =>
      have hsame : s₁.faultReport e = s₁ := faultReport_known e (by rw [hfaults]; exact hknown)
      rw [if_pos rfl, (transmit_touch w).lsl, hlsl, hsame]
      exact ⟨h₁.lsl, hentries [] (by decide) fun n _ h => by rw [hsame]; exact h⟩
    | false =>
      have hnew : s₁.lsl.faults.has e = false := by rw [hfaults]; exact hknown
      rw [if_neg Bool.false_ne_true]
      refine ⟨?_, ?_, fun hen hbusy => ?_⟩
      · rw [(transmit_touch w).lsl, hlsl, faultReport_group e hnew, h₁.lsl, h₁.cfg]
      · rw [← entryOf_four, ← List.singleton_append]
        refine hentries _ (Nat.le_refl 1) fun n hn h => ?_
        rw [faultReport_rcu, faultEntry, if_neg (by rw [hnew]; exact Bool.false_ne_true), alarmEntry, h₁.cfg]
        exact h.log (Nat.zero_lt_succ 63) hn ..
      · rw [transmit_busy (by rw [htx]; exact hbusy), hw.alarm]
        have hnotice := faultReport_notice hnew (by rw [h₁.lnk]; exact hen)
        rw [h₁.cfg, h₁.lsl] at hnotice
        exact hnotice

end Fault

end Sys2Proof.Machine
end

section
/-! PROOFS. What a grant takes and what it leaves: the active steps with their pumps and lineups stand (R96, R113 to R119), and a valve that is FAULTED and commanded CLOSED stands through every wind-down and grant (R119, R128). -/

namespace Sys2Proof.Machine

/- One proof at a time: side by side they take a thread each. -/
set_option Elab.async false

open State

/-! ### The active steps (R113, R115) -/

section Active
variable {q : Tsq} {k : SlotNo} {x : StepRec}

theorem mem_active : (k, x) ∈ q.active ↔ k ∈ q.order ∧ q.slots[k] = some x ∧ x.state.active = true := by
  simp only [Tsq.active, List.mem_filterMap]
  constructor
  · rintro ⟨j, hj, h⟩
    rcases hy : q.slots[j] with _ | y
    · rw [hy] at h
      cases h
    · rw [hy] at h
      simp only [Option.ite_none_right_eq_some, Option.some.injEq, Prod.mk.injEq] at h
      obtain ⟨hactive, rfl, rfl⟩ := h
      exact ⟨hj, hy, hactive⟩
  · rintro ⟨hj, hx, hactive⟩
    exact ⟨k, hj, by rw [hx]; exact if_pos hactive⟩

theorem active_pump_of_stepOn {p : PumpNo} (h : q.stepOn p = none) (hx : (k, x) ∈ q.active) : x.grantedPump ≠ some p := by
  simpa using List.find?_eq_none.mp h _ hx

theorem holder_active {v : ValveNo} (h : q.holder v = some (k, x)) : (k, x) ∈ q.active ∧ v ∈ x.valves :=
  ⟨List.mem_of_find?_eq_some h, by simpa using List.find?_some h⟩

end Active

/-! ### Lineups that share no tank and no pump (R115, R119) -/

/-- A granted step whose pump fits its kind (R115). -/
def StepRec.Placed (x : StepRec) : Prop := ∃ p, x.grantedPump = some p ∧ (x.kind == .strip) = (p == 2)

/-- A lineup is made of the valves of the step's tanks, of a main pump's sea valve and of its pump's overboard valve (R119). -/
theorem mem_lineup {x : StepRec} {p : PumpNo} {w : ValveNo} (h : w ∈ x.lineup p) (hfit : (x.kind == .strip) = (p == 2)) :
    (∃ t ∈ x.tanks, w = tankValve t) ∨ (w = seaValve p ∧ p ≠ 2) ∨ w = overboardValve p := by
  have hsource (hw : w ∈ (x.source.map tankValve).toList) : ∃ t ∈ x.tanks, w = tankValve t := by
    obtain ⟨t, ht, rfl⟩ := Option.map_eq_some_iff.mp (Option.mem_toList.mp hw)
    exact ⟨t, List.mem_append_left _ (Option.mem_toList.mpr ht), rfl⟩
  have hdest (hw : w ∈ (x.dest.map tankValve).toList) : ∃ t ∈ x.tanks, w = tankValve t := by
    obtain ⟨t, ht, rfl⟩ := Option.map_eq_some_iff.mp (Option.mem_toList.mp hw)
    exact ⟨t, List.mem_append_right _ (Option.mem_toList.mpr ht), rfl⟩
  unfold StepRec.lineup at h
  cases hkind : x.kind with
  | ballast =>
    have hp : p ≠ 2 := by rintro rfl; rw [hkind] at hfit; cases hfit
    rw [hkind] at h
    exact (List.mem_cons.mp h).elim (fun hw => .inr (.inl ⟨hw, hp⟩)) fun hw => .inl (hdest hw)
  | deballast =>
    rw [hkind] at h
    exact (List.mem_append.mp h).elim (fun hw => .inl (hsource hw)) fun hw => .inr (.inr (List.mem_singleton.mp hw))
  | shift =>
    rw [hkind] at h
    exact (List.mem_append.mp h).elim (fun hw => .inl (hsource hw)) fun hw => .inl (hdest hw)
  | strip =>
    have hp : p = 2 := by rw [hkind] at hfit; simpa using hfit.symm
    rw [hkind] at h
    exact (List.mem_append.mp h).elim (fun hw => .inl (hsource hw)) fun hw => .inr (.inr (hp ▸ List.mem_singleton.mp hw))

/-- A valve of a tank is no other tank's and no pump's (section 1.6). -/
theorem tankValve_alone (t : TankNo) :
    (∀ u, tankValve t = tankValve u → t = u) ∧ ∀ p, tankValve t ≠ seaValve p ∧ tankValve t ≠ overboardValve p := by
  revert t
  decide

/-- The sea valves of the main pumps and the overboard valves are each one pump's (section 1.6). -/
theorem pumpValves_alone {p q : PumpNo} (h : p ≠ q) :
    (p ≠ 2 → q ≠ 2 → seaValve p ≠ seaValve q) ∧ seaValve p ≠ overboardValve q ∧ overboardValve p ≠ overboardValve q := by
  revert p q
  decide

theorem seaValve_overboardValve (p q : PumpNo) : seaValve p ≠ overboardValve q := by
  revert p q
  decide

theorem fitsPump_kind {y : StepRec} {p : PumpNo} {m : MainMode} (h : y.fitsPump p m = true) : (y.kind == .strip) = (p == 2) := by
  simp only [StepRec.fitsPump, Bool.and_eq_true] at h
  obtain ⟨⟨hkind, -⟩, -⟩ := h
  by_cases hstrip : y.kind = .strip
  · rw [if_pos hstrip] at hkind
    rw [hkind, hstrip]
    rfl
  · rw [if_neg hstrip, bne_iff_ne] at hkind
    rw [beq_false_of_ne hstrip, beq_false_of_ne hkind]

/-- Lineups on two pumps for steps without a common tank share no valve. -/
theorem lineups_disjoint {x y : StepRec} {p q : PumpNo} (hx : (x.kind == .strip) = (q == 2)) (hy : (y.kind == .strip) = (p == 2))
    (hpq : p ≠ q) (htanks : ∀ t ∈ y.tanks, x.names t = false) {w : ValveNo} (hw : w ∈ x.lineup q) : w ∉ y.lineup p := by
  intro hw'
  obtain ⟨hsea, hcross, hboard⟩ := pumpValves_alone hpq
  rcases mem_lineup hw hx with ⟨t, ht, rfl⟩ | ⟨rfl, hq⟩ | rfl
  · obtain ⟨halone, hpumps⟩ := tankValve_alone t
    rcases mem_lineup hw' hy with ⟨u, hu, heq⟩ | ⟨heq, -⟩ | heq
    · have hnot := htanks u hu
      rw [← halone u heq] at hnot
      simp [StepRec.names, ht] at hnot
    · exact (hpumps p).1 heq
    · exact (hpumps p).2 heq
  · rcases mem_lineup hw' hy with ⟨u, -, heq⟩ | ⟨heq, hp⟩ | heq
    · exact ((tankValve_alone u).2 q).1 heq.symm
    · exact hsea hp hq heq.symm
    · exact seaValve_overboardValve q p heq
  · rcases mem_lineup hw' hy with ⟨u, -, heq⟩ | ⟨heq, -⟩ | heq
    · exact ((tankValve_alone u).2 q).2 heq.symm
    · exact hcross heq.symm
    · exact hboard heq.symm

/-! ### What a grant needs (R115) -/

/-- What a grant relies on: the step fits the pump, no active step has the pump or names the step's tanks, and the lineup valves are CLOSED and not FAULTED. -/
structure Usable (p : PumpNo) (y : StepRec) (s : State) : Prop where
  fits : (y.kind == .strip) = (p == 2)
  idle : ∀ a ∈ s.tsq.active, a.2.grantedPump ≠ some p
  tanks : ∀ t ∈ y.tanks, ∀ a ∈ s.tsq.active, a.2.names t = false
  valves : ∀ w ∈ y.lineup p, s.pva.valves[w].open_ = false ∧ s.pva.valves[w].faulted = false

theorem usable_of_canUse {p : PumpNo} {y : StepRec} {c : Candidate} {s : State} (h : s.canUse p y c = true) : Usable p y s := by
  simp only [canUse, Bool.and_eq_true, List.all_eq_true, Option.isNone_iff_eq_none, Bool.not_eq_true'] at h
  obtain ⟨⟨⟨⟨⟨⟨⟨hfits, -⟩, -⟩, hpump⟩, htanks⟩, hvalves⟩, -⟩, -⟩ := h
  exact ⟨fitsPump_kind hfits, fun a ha => active_pump_of_stepOn hpump ha, htanks,
    fun w hw => ⟨(hvalves w hw).1.2, (hvalves w hw).2⟩⟩

theorem candidateList_ordered {s : State} {e : SlotNo × StepRec × Candidate} (h : e ∈ s.candidateList) : e.1 ∈ s.tsq.order := by
  obtain ⟨k, hk, hek⟩ := List.mem_filterMap.mp h
  split at hek
  · cases hek
  · obtain ⟨c, -, rfl⟩ := Option.map_eq_some_iff.mp hek
    exact hk

/-- A property that each fit grant keeps is kept by the decisions on all pumps (R96, R115, R116). -/
theorem grantsBut_keeps_usable {P : State → Prop} {passed : StepRec → Bool}
    (hgrant : ∀ p k y t, P t → k ∈ t.tsq.order → t.tsq.slots[k] = some y → passed y = false → Usable p y t →
      (∃ c ∈ t.pva.candidates, c.step = y.number) → P (t.grant p k)) {s : State} (h : P s) : P (s.grantsBut passed) := by
  have hdecide (p : PumpNo) (t : State) (ht : P t) : P (t.decidePump passed p) := by
    unfold decidePump
    split
    · exact ht
    next k hk =>
      obtain ⟨⟨j, y, c⟩, he, rfl⟩ := winnerBut_usable hk
      obtain ⟨hlist, hcond⟩ := List.mem_filter.mp he
      obtain ⟨hnot, huse⟩ := Bool.and_eq_true_iff.mp hcond
      obtain ⟨hslot, hcand⟩ := mem_candidateList hlist
      exact hgrant p j y t ht (candidateList_ordered hlist) hslot (by simpa using hnot) (usable_of_canUse huse) hcand
  have hall (t : State) (ht : P t) : P (t.decideAll passed) := hdecide 2 _ (hdecide 1 _ (hdecide 0 t ht))
  exact hall _ (hall _ (hall s h))

/-- Where no decision has a winner, nothing is granted. -/
theorem grants_none {s : State} (h : ∀ p : PumpNo, s.winner p = none) : s.grants = s := by
  have hdecide (p : PumpNo) : s.decidePump (fun _ => false) p = s := by
    have hp : s.winnerBut (fun _ => false) p = none := h p
    unfold decidePump
    rw [hp]
  have hall : s.decideAll (fun _ => false) = s := by rw [decideAll, hdecide, hdecide, hdecide]
  rw [grants, grantsBut, hall, hall, hall]

/-! ### What a grant does (R96, R113, R117, R119) -/

theorem offer_plant (s : State) :
    s.offer.pva.pumps = s.pva.pumps ∧ s.offer.pva.valves = s.pva.valves ∧ s.offer.pva.mode = s.pva.mode := by
  unfold offer
  refine List.foldlRecOn s.tsq.order _
    (motive := fun t : State => t.pva.pumps = s.pva.pumps ∧ t.pva.valves = s.pva.valves ∧ t.pva.mode = s.pva.mode)
    ⟨rfl, rfl, rfl⟩ fun t ht k _ => ?_
  split
  · split <;> exact ht
  · exact ht

theorem leaveWaiting_plant (n : Nat) (s : State) :
    (s.leaveWaiting n).pva.pumps = s.pva.pumps ∧ (s.leaveWaiting n).pva.valves = s.pva.valves
      ∧ (s.leaveWaiting n).pva.mode = s.pva.mode := offer_plant _

/-- The arbiter at a grant: its pump BUSY for the step, the main line in its mode (R113, R114). -/
def State.granting (p : PumpNo) (x : StepRec) (s : State) : State :=
  { s with pva :=
    { s.pva.beforeGrant with
      pumps := s.pva.beforeGrant.pumps.set p
        { s.pva.beforeGrant.pumps[p] with
          state := .busy, granted := some x.number, fairness := some (x.cls, s.pva.beforeGrant.grants + 1) }
      mode := s.pva.beforeGrant.mode.afterGrant x.kind
      grants := s.pva.beforeGrant.grants + 1 } }

/-- The valves of a lineup commanded OPEN (R119). -/
def State.openValves (l : List ValveNo) (s : State) : State := l.foldl (fun s v => s.openValve v) s

/-- A step's record at its grant (R96). -/
def StepRec.grantedOn (p : PumpNo) (x : StepRec) : StepRec := { x with state := .lineup, grantedPump := some p, litres := 0 }

/-- A pump but for its fairness memory. -/
def Pump.unfair (y : Pump) : Pump := { y with fairness := none }

theorem beforeGrant_pump (a : Pva) (q : PumpNo) : a.beforeGrant.pumps[q].unfair = a.pumps[q].unfair := by
  unfold Pva.beforeGrant
  split
  · simp [Pump.unfair]
  · rfl

theorem beforeGrant_line (a : Pva) : a.beforeGrant.valves = a.valves ∧ a.beforeGrant.mode = a.mode := by
  unfold Pva.beforeGrant
  split <;> exact ⟨rfl, rfl⟩

theorem openValves_pva (l : List ValveNo) (s : State) :
    (s.openValves l).pva.pumps = s.pva.pumps ∧ (s.openValves l).pva.mode = s.pva.mode := by
  induction l generalizing s with
  | nil => exact ⟨rfl, rfl⟩
  | cons v l ih => exact ih (s.openValve v)

theorem openValves_valve {w : ValveNo} (l : List ValveNo) (h : w ∉ l) (s : State) :
    (s.openValves l).pva.valves[w] = s.pva.valves[w] := by
  induction l generalizing s with
  | nil => rfl
  | cons v l ih =>
    obtain ⟨hne, hl⟩ := not_or.mp (fun e => h (List.mem_cons.mpr e))
    exact (ih hl (s.openValve v)).trans (Vector.getElem_set_ne v.isLt w.isLt fun e => hne (Fin.ext e.symm))

section Grant
variable {p : PumpNo} {k : SlotNo} {x : StepRec} {s : State} (hx : s.tsq.slots[k] = some x)
include hx

theorem grant_eq : s.grant p k =
    (((s.granting p x).openValves (x.lineup p)).enterState k (x.grantedOn p)).leaveWaiting x.number := by
  unfold grant
  rw [hx]
  rfl

theorem grant_pva :
    (s.grant p k).pva.pumps = (s.granting p x).pva.pumps ∧ (s.grant p k).pva.mode = s.pva.mode.afterGrant x.kind
      ∧ (s.grant p k).pva.valves = ((s.granting p x).openValves (x.lineup p)).pva.valves := by
  rw [grant_eq hx]
  obtain ⟨hpumps, hvalves, hmode⟩ := leaveWaiting_plant x.number
    (((s.granting p x).openValves (x.lineup p)).enterState k (x.grantedOn p))
  have henter : (((s.granting p x).openValves (x.lineup p)).enterState k (x.grantedOn p)).pva =
      ((s.granting p x).openValves (x.lineup p)).pva := (enterState_touch ..).pva
  obtain ⟨hopen, hopenmode⟩ := openValves_pva (x.lineup p) (s.granting p x)
  rw [henter] at hpumps hvalves hmode
  refine ⟨hpumps.trans hopen, hmode.trans (hopenmode.trans ?_), hvalves⟩
  exact congrArg (MainMode.afterGrant x.kind) (beforeGrant_line s.pva).2

theorem grant_tsq : (s.grant p k).tsq = { s.tsq with slots := s.tsq.slots.set k (some (x.grantedOn p)) } := by
  have henter : (((s.granting p x).openValves (x.lineup p)).enterState k (x.grantedOn p)).tsq =
      (((s.granting p x).openValves (x.lineup p)).setStep k (x.grantedOn p)).tsq := (notify_touch ..).tsq
  have hopen : ((s.granting p x).openValves (x.lineup p)).tsq = s.tsq := (openValves_touch ..).tsq
  rw [grant_eq hx, (leaveWaiting_touch ..).tsq, henter, setStep_tsq, hopen]

/-- A valve outside the lineup stands. -/
theorem grant_valve {w : ValveNo} (hw : w ∉ x.lineup p) : (s.grant p k).pva.valves[w] = s.pva.valves[w] := by
  obtain ⟨-, -, hvalves⟩ := grant_pva (p := p) hx
  rw [hvalves, openValves_valve _ hw]
  exact congrArg (·[w]) (beforeGrant_line s.pva).1

/-- Another pump stands, but for its fairness memory. -/
theorem grant_pump {q : PumpNo} (hq : q ≠ p) : (s.grant p k).pva.pumps[q].unfair = s.pva.pumps[q].unfair := by
  obtain ⟨hpumps, -, -⟩ := grant_pva (p := p) hx
  have hset : (s.granting p x).pva.pumps[q] = s.pva.beforeGrant.pumps[q] :=
    Vector.getElem_set_ne p.isLt q.isLt fun e => hq (Fin.ext e.symm)
  rw [hpumps, hset, beforeGrant_pump]

theorem grant_granted : (s.grant p k).pva.pumps[p].granted = some x.number := by
  obtain ⟨hpumps, -, -⟩ := grant_pva (p := p) hx
  have hset : (s.granting p x).pva.pumps[p].granted = some x.number := by simp [State.granting]
  rw [hpumps, hset]

end Grant

/-! ### An active step through the grants (R115) -/

/-- A step held in its place, with its lineup and its pump as they stood but for the pump's fairness memory. -/
structure Holding (k : SlotNo) (z : StepRec) (s u : State) : Prop where
  aside : Aside k z.number (some z) u
  ordered : k ∈ u.tsq.order
  valves : ∀ w ∈ z.valves, u.pva.valves[w] = s.pva.valves[w]
  pump : ∀ p, z.grantedPump = some p → u.pva.pumps[p].unfair = s.pva.pumps[p].unfair

theorem ungranted_active {x : StepRec} (h : x.state.active = true) : Ungranted x.number (some x) := by
  rintro y ⟨⟩
  exact ⟨rfl, fun e => by rw [e] at h; cases h⟩

theorem Holding.start {k : SlotNo} {x : StepRec} {s : State} (hqueue : QueueSafe s) (hline : LineSafe s) (hx : (k, x) ∈ s.tsq.active) :
    Holding k x s s := by
  obtain ⟨hk, hslot, hactive⟩ := mem_active.mp hx
  exact ⟨aside_of_safe hqueue hline hslot (ungranted_active hactive x rfl).2, hk, fun _ _ => rfl, fun _ _ => rfl⟩

theorem placed_of_safe {k : SlotNo} {x : StepRec} {s : State} (hqueue : QueueSafe s) (hline : LineSafe s)
    (hx : (k, x) ∈ s.tsq.active) : x.Placed := by
  obtain ⟨-, -, -, -, -, hfit, -⟩ := hqueue
  obtain ⟨-, hslot, hactive⟩ := mem_active.mp hx
  have hpump := hfit k
  rw [hslot] at hpump
  simp only [Option.all_some, hactive, Bool.and_eq_true, beq_iff_eq] at hpump
  obtain ⟨p, hp⟩ := Option.isSome_iff_exists.mp hpump.2
  have hkind := (hline.2.1 _ hx).1
  rw [hp] at hkind
  exact ⟨p, hp, by simpa using hkind⟩

theorem Holding.grant {k j : SlotNo} {z y : StepRec} {p : PumpNo} {s u : State} (h : Holding k z s u) (hz : z.state.active = true)
    (hplaced : z.Placed) (hy : u.tsq.slots[j] = some y) (huse : Usable p y u)
    (hcand : ∃ c ∈ u.pva.candidates, c.step = y.number) : Holding k z s (u.grant p j) := by
  obtain ⟨q, hq, hkind⟩ := hplaced
  obtain ⟨c, hc, hstep⟩ := hcand
  have hr := ungranted_active hz
  have hactive : (k, z) ∈ u.tsq.active := mem_active.mpr ⟨h.ordered, h.aside.slot, hz⟩
  have hkj : k ≠ j := fun e => by
    subst e
    exact h.aside.unoffered c hc (hstep.trans (hr y (h.aside.slot.symm.trans hy)).1)
  have hpq : p ≠ q := fun e => huse.idle _ hactive (e ▸ hq)
  have hvalves : z.valves = z.lineup q := by rw [StepRec.valves, hq]
  refine ⟨h.aside.other hr (grant_actsOn p j u) hkj, (grant_actsOn p j u).order k hkj h.ordered, fun w hw => ?_, fun r hrp => ?_⟩
  · have hdisjoint : w ∉ y.lineup p :=
      lineups_disjoint hkind huse.fits hpq (fun t ht => huse.tanks t ht _ hactive) (hvalves ▸ hw)
    rw [grant_valve hy hdisjoint, h.valves w hw]
  · obtain rfl : q = r := Option.some.inj (hq.symm.trans hrp)
    rw [grant_pump hy hpq.symm, h.pump q hq]

/-- The decisions on the pumps pass an active step by, with its lineup and its pump (R115). -/
theorem Holding.grantsBut {k : SlotNo} {z : StepRec} {s u : State} (h : Holding k z s u) (hz : z.state.active = true)
    (hplaced : z.Placed) (passed : StepRec → Bool) : Holding k z s (u.grantsBut passed) :=
  grantsBut_keeps_usable (P := Holding k z s) (fun _ _ _ _ ht _ hy _ huse hcand => ht.grant hz hplaced hy huse hcand) h

theorem Holding.grants {k : SlotNo} {z : StepRec} {s u : State} (h : Holding k z s u) (hz : z.state.active = true)
    (hplaced : z.Placed) : Holding k z s u.grants := h.grantsBut hz hplaced _

/-! ### Valves that stand (R119, R128) -/

/-- No valve is commanded OPEN, none commanded CLOSED changes, and none is marked. -/
structure Closes (s t : State) : Prop where
  shut : ∀ v : ValveNo, s.pva.valves[v].open_ = false → t.pva.valves[v] = s.pva.valves[v]
  faulted : ∀ v : ValveNo, t.pva.valves[v].faulted = s.pva.valves[v].faulted

namespace Closes

variable {s t u : State}

theorem of_valves (h : t.pva.valves = s.pva.valves) : Closes s t := ⟨fun v _ => by rw [h], fun v => by rw [h]⟩

theorem of_touches {l : List Part} (h : Touches l s t) (hp : Part.pva ∉ l := by decide) : Closes s t :=
  of_valves (by rw [h.pva hp])

theorem refl (s : State) : Closes s s := of_valves rfl

theorem trans (h : Closes s t) (g : Closes t u) : Closes s u :=
  ⟨fun v hv => (g.shut v (by rw [h.shut v hv]; exact hv)).trans (h.shut v hv), fun v => (g.faulted v).trans (h.faulted v)⟩

theorem ite {c : Prop} [Decidable c] (h : Closes s t) (g : Closes s u) : Closes s (if c then t else u) := by
  split <;> assumption

end Closes

section Valve
variable {v : ValveNo} {y : Valve} {s : State}

theorem setValve_same : (s.setValve v y).pva.valves[v] = y := Vector.getElem_set_self ..

theorem setValve_other {w : ValveNo} (h : v ≠ w) : (s.setValve v y).pva.valves[w] = s.pva.valves[w] :=
  Vector.getElem_set_ne v.isLt w.isLt fun e => h (Fin.ext e)

end Valve

theorem shut_open (now travel : Nat) (y : Valve) : (y.shut now travel).open_ = false := by
  unfold Valve.shut
  cases h : y.open_ <;> simp [h]

theorem shut_faulted (now travel : Nat) (y : Valve) : (y.shut now travel).faulted = y.faulted := by
  unfold Valve.shut
  split <;> rfl

theorem shut_still {now travel : Nat} {y : Valve} (h : y.open_ = false) : y.shut now travel = y := by
  simp [Valve.shut, h]

theorem closeValve_closes (v : ValveNo) (s : State) : Closes s (s.closeValve v) := by
  constructor
  · intro w hw
    by_cases h : v = w
    · subst h
      rw [closeValve, setValve_same, shut_still hw]
    · exact setValve_other h
  · intro w
    by_cases h : v = w
    · subst h
      rw [closeValve, setValve_same, shut_faulted]
    · rw [closeValve, setValve_other h]

theorem closeValves_closes (l : List ValveNo) (s : State) : Closes s (s.closeValves l) := by
  induction l generalizing s with
  | nil => exact .refl s
  | cons v l ih => exact (closeValve_closes v s).trans (ih _)

/-- Valves commanded CLOSED are no longer commanded OPEN. -/
theorem closeValves_shut {l : List ValveNo} {w : ValveNo} (hw : w ∈ l) (s : State) :
    (s.closeValves l).pva.valves[w].open_ = false := by
  induction l generalizing s with
  | nil => cases hw
  | cons v l ih =>
    rcases List.mem_cons.mp hw with rfl | hl
    · have h : (s.closeValve w).pva.valves[w].open_ = false :=
        (congrArg Valve.open_ setValve_same).trans (shut_open ..)
      exact (congrArg Valve.open_ ((closeValves_closes l _).shut w h)).trans h
    · exact ih hl _

theorem closeLineup_held {k : SlotNo} {x : StepRec} {s : State} (hx : s.tsq.slots[k] = some x) :
    s.closeLineup k = s.closeValves x.valves := by
  unfold closeLineup
  rw [hx]

theorem closeLineup_closes (k : SlotNo) (s : State) : Closes s (s.closeLineup k) := by
  unfold closeLineup
  split
  · exact .refl s
  · exact closeValves_closes ..

theorem releasePump_valves (x : StepRec) (s : State) : (s.releasePump x).pva.valves = s.pva.valves := by
  unfold releasePump
  split
  · rfl
  · extract_lets
    split <;> rfl

theorem settleMode_valves (s : State) : s.settleMode.pva.valves = s.pva.valves := by
  unfold settleMode
  split <;> rfl

theorem removeStep_closes (k : SlotNo) (x : StepRec) (out : StepOutcome) (d : Disposition) (s : State) :
    Closes s (s.removeStep k x out d) := .of_touches (removeStep_touch ..)

theorem checkClosed_closes (k : SlotNo) (s : State) : Closes s (s.checkClosed k) := by
  unfold checkClosed
  split
  · exact .refl s
  next x _ =>
    refine .ite ?_ (.refl s)
    extract_lets out s₁
    have h₁ : Closes s s₁ := (removeStep_closes ..).trans (.of_valves (releasePump_valves ..))
    exact .ite (h₁.trans (.of_valves (settleMode_valves _))) h₁

theorem plantWindDown_closes (k : SlotNo) (x : StepRec) (s : State) : Closes s (s.plantWindDown k x) := by
  unfold plantWindDown
  split
  · exact .refl s
  · exact .ite (.of_valves rfl) ((closeLineup_closes k s).trans (checkClosed_closes k _))

theorem windDown_closes (k : SlotNo) (out : StepOutcome) (s : State) : Closes s (s.windDown k out) := by
  unfold windDown
  split
  · exact .refl s
  · exact .ite ((Closes.of_touches (enterState_touch ..)).trans (plantWindDown_closes ..)) (.refl s)

theorem dropStep_closes (k : SlotNo) (x : StepRec) (out : StepOutcome) (s : State) : Closes s (s.dropStep k x out) :=
  (removeStep_closes ..).trans (.ite (.of_valves (leaveWaiting_plant ..).2.1) (.refl _))

theorem endStep_closes (k : SlotNo) (out : StepOutcome) (s : State) : Closes s (s.endStep k out) := by
  unfold endStep
  split
  · exact .refl s
  · exact .ite (dropStep_closes ..) (windDown_closes ..)

/-- No valve is marked, and one that is FAULTED and commanded CLOSED stands. -/
structure KeepsShut (s t : State) : Prop where
  stands : ∀ v : ValveNo, s.pva.valves[v].faulted = true → s.pva.valves[v].open_ = false → t.pva.valves[v] = s.pva.valves[v]
  faulted : ∀ v : ValveNo, t.pva.valves[v].faulted = s.pva.valves[v].faulted

namespace KeepsShut

variable {s t u : State}

theorem of_closes (h : Closes s t) : KeepsShut s t := ⟨fun v _ => h.shut v, h.faulted⟩

theorem refl (s : State) : KeepsShut s s := of_closes (.refl s)

theorem trans (h : KeepsShut s t) (g : KeepsShut t u) : KeepsShut s u where
  stands v hf ho := by
    have hv := h.stands v hf ho
    rw [g.stands v (by rw [hv]; exact hf) (by rw [hv]; exact ho), hv]
  faulted v := (g.faulted v).trans (h.faulted v)

end KeepsShut

theorem openValve_faulted (v w : ValveNo) (s : State) : (s.openValve v).pva.valves[w].faulted = s.pva.valves[w].faulted := by
  by_cases h : v = w
  · subst h
    rw [openValve, setValve_same]
    rfl
  · rw [openValve, setValve_other h]

theorem openValves_faulted (l : List ValveNo) (w : ValveNo) (s : State) :
    (s.openValves l).pva.valves[w].faulted = s.pva.valves[w].faulted := by
  induction l generalizing s with
  | nil => rfl
  | cons v l ih => exact (ih _).trans (openValve_faulted v w s)

/-- No grant opens a FAULTED valve (R115). -/
theorem grant_keepsShut {p : PumpNo} {k : SlotNo} {y : StepRec} {s : State} (hy : s.tsq.slots[k] = some y) (huse : Usable p y s) :
    KeepsShut s (s.grant p k) where
  stands v hf _ := grant_valve hy fun hv => by rw [(huse.valves v hv).2] at hf; cases hf
  faulted v := by
    obtain ⟨-, -, hvalves⟩ := grant_pva (p := p) hy
    rw [hvalves, openValves_faulted]
    exact congrArg (fun l : Vector Valve 21 => l[v].faulted) (beforeGrant_line s.pva).1

theorem grantsBut_keepsShut (passed : StepRec → Bool) (s : State) : KeepsShut s (s.grantsBut passed) :=
  grantsBut_keeps_usable (P := KeepsShut s) (fun _ _ _ _ ht _ hy _ huse _ => ht.trans (grant_keepsShut hy huse)) (.refl s)

theorem endSteps_keepsShut (which : StepRec → Bool) (out : StepOutcome) (s : State) : KeepsShut s (s.endSteps which out) := by
  rw [endSteps_eq]
  exact atSlots_keep (P := KeepsShut s) (fun t k _ ht => atSlot_cases (KeepsShut s) ht
    (ht.trans ((KeepsShut.of_closes (endStep_closes k out t)).trans (grantsBut_keepsShut which _)))) (.refl s)

theorem lockTank_keepsShut (t : TankNo) (why : Lock) (s : State) : KeepsShut s (s.lockTank t why) := by
  have hbefore : Closes s (s.locked t why) := .of_touches (locked_touch ..)
  rw [lockTank_eq]
  exact (KeepsShut.of_closes hbefore).trans ((endSteps_keepsShut ..).trans (.of_closes (.of_touches (requestRecompute_touch _))))

theorem failedToClose_keepsShut (v : ValveNo) (s : State) : KeepsShut s (s.failedToClose v) := by
  unfold failedToClose
  split
  · exact .refl s
  · split
    · exact .refl s
    · exact lockTank_keepsShut ..

/-- A FAULTED valve stands through the grants, OPEN or CLOSED (R115). -/
theorem grants_faulted {v : ValveNo} {s : State} (h : s.pva.valves[v].faulted = true) :
    s.grants.pva.valves[v] = s.pva.valves[v] :=
  grantsBut_keeps_usable (P := fun t => t.pva.valves[v] = s.pva.valves[v])
    (fun p k y t ht _ hy _ huse _ => by
      refine (grant_valve hy fun hv => ?_).trans ht
      rw [← ht, (huse.valves v hv).2] at h
      cases h) rfl

end Sys2Proof.Machine
end

section
/-! PROOFS. How a wind-down completes (R102, R113, R128), and how a step in WIND_DOWN stands through the ends of others (R35, R104). -/

namespace Sys2Proof.Machine

/- One proof at a time: side by side they take a thread each. -/
set_option Elab.async false

open State

/-! ### What every grant leaves -/

section Grants
variable {s : State} {n : Nat}

/-- The grants leave the queue order as it is. -/
theorem grantsBut_sameOrder (passed : StepRec → Bool) (s : State) : (s.grantsBut passed).tsq.order = s.tsq.order :=
  grantsBut_keeps (P := fun t => t.tsq.order = s.tsq.order) (fun p k x t ht hx _ _ => by rw [grant_tsq hx]; exact ht) rfl

/-- Only the pump `z`, or none, is granted to the number `n`. -/
def GrantedTo (n : Nat) (z : Option PumpNo) (s : State) : Prop := ∀ p : PumpNo, s.pva.pumps[p].granted = some n → z = some p

theorem unfair_granted {y z : Pump} (h : y.unfair = z.unfair) : y.granted = z.granted := by
  have hsame : y.unfair.granted = z.unfair.granted := by rw [h]
  exact hsame

theorem grant_grantedTo {p : PumpNo} {k : SlotNo} {x : StepRec} {z : Option PumpNo} (hx : s.tsq.slots[k] = some x)
    (hne : x.number ≠ n) (h : GrantedTo n z s) : GrantedTo n z (s.grant p k) := by
  intro q hq
  by_cases hqp : q = p
  · subst hqp
    rw [grant_granted hx] at hq
    exact absurd (Option.some.inj hq) hne
  · have hsame : (s.grant p k).pva.pumps[q].granted = s.pva.pumps[q].granted := 
      unfair_granted (grant_pump hx hqp)
    exact h q (hsame.symm.trans hq)

/-- No grant goes to the number of a step left aside. -/
theorem grantsBut_grantedTo {j : SlotNo} {r : Option StepRec} {z : Option PumpNo} {passed : StepRec → Bool} (ha : Aside j n r s)
    (hr : Ungranted n r) (h : GrantedTo n z s) : GrantedTo n z (s.grantsBut passed) :=
  (grantsBut_keeps (P := fun t => Aside j n r t ∧ GrantedTo n z t) (passed := passed)
    (fun p k x t ⟨ht, hg⟩ hx _ ⟨c, hc, hstep⟩ => by
      have hne : x.number ≠ n := fun e => ht.unoffered c hc (hstep.trans e)
      have hjk : j ≠ k := fun e => by
        subst e
        exact hne (hr x (ht.slot.symm.trans hx)).1
      exact ⟨ht.other hr (grant_actsOn p k t) hjk, grant_grantedTo hx hne hg⟩) ⟨ha, h⟩).2

/-- Without candidates nothing is granted. -/
theorem grantsBut_idle {passed : StepRec → Bool} (h : s.pva.candidates = []) : s.grantsBut passed = s :=
  grantsBut_keeps (P := fun t => t = s) (fun p k x t ht _ _ ⟨c, hc, _⟩ => by
    subst ht
    rw [h] at hc
    cases hc) rfl

/-- A main step is active, or the main line is IDLE (R113). -/
def LineKept (s : State) : Prop := (∃ a ∈ s.tsq.active, a.2.kind.main = true) ∨ s.pva.mode = .idle

theorem grant_lineKept {p : PumpNo} {k : SlotNo} {y : StepRec} (hk : k ∈ s.tsq.order) (hy : s.tsq.slots[k] = some y)
    (h : LineKept s) : LineKept (s.grant p k) := by
  have htsq := grant_tsq (p := p) hy
  have hslot : (s.grant p k).tsq.slots[k] = some (y.grantedOn p) := by rw [htsq]; exact Vector.getElem_set_self ..
  have horder : (s.grant p k).tsq.order = s.tsq.order := by rw [htsq]
  have hgranted : (k, y.grantedOn p) ∈ (s.grant p k).tsq.active := mem_active.mpr ⟨horder ▸ hk, hslot, rfl⟩
  cases hmain : y.kind.main with
  | true => exact .inl ⟨_, hgranted, hmain⟩
  | false =>
    rcases h with ⟨⟨i, z⟩, hz, hzmain⟩ | hidle
    · obtain ⟨hi, hslotz, hactive⟩ := mem_active.mp hz
      have hik : i ≠ k := fun e => by
        subst e
        rw [Option.some.inj (hslotz.symm.trans hy), hmain] at hzmain
        cases hzmain
      have hsame : (s.grant p k).tsq.slots[i] = some z := ((grant_actsOn p k s).others i hik).trans hslotz
      exact .inl ⟨(i, z), mem_active.mpr ⟨horder ▸ hi, hsame, hactive⟩, hzmain⟩
    · obtain ⟨-, hmode, -⟩ := grant_pva (p := p) hy
      have hstrip : y.kind = .strip := by cases hkind : y.kind <;> simp [StepKind.main, hkind] at hmain ⊢
      exact .inr (by rw [hmode, hidle, hstrip]; rfl)

theorem grants_lineKept (h : LineKept s) : LineKept s.grants :=
  grantsBut_keeps_usable (P := LineKept) (fun _ _ _ _ ht hk hy _ _ _ => grant_lineKept hk hy ht) h

end Grants

/-! ### No step waits -/

/-- No step is WAITING and none is a candidate, and the pumps stand. -/
structure NoneWait (s u : State) : Prop where
  candidates : u.pva.candidates = []
  held : ∀ (j : SlotNo) (y : StepRec), u.tsq.slots[j] = some y → y.state ≠ .waiting
  pumps : u.pva.pumps = s.pva.pumps

/-- Without WAITING steps there are no candidates (R114). -/
theorem NoneWait.start {s : State} (hline : LineSafe s)
    (h : ∀ (j : SlotNo) (y : StepRec), s.tsq.slots[j] = some y → y.state ≠ .waiting) : NoneWait s s := by
  obtain ⟨-, -, -, hwaits, -⟩ := hline
  refine ⟨List.eq_nil_iff_forall_not_mem.mpr fun c hc => ?_, h, rfl⟩
  obtain ⟨i, -, hi⟩ := List.any_eq_true.mp (hwaits c hc)
  obtain ⟨y, hy, hwait⟩ := (Option.any_eq_true _ _).mp hi
  have hstate : y.state = .waiting := by simpa using (Bool.and_eq_true_iff.mp hwait).2
  exact h i y hy hstate

/-! ### A wind-down completes (R102, R113, R128) -/

section Complete
variable {k : SlotNo} {x : StepRec} {out : StepOutcome} {s u : State}

/-- The pump that was BUSY for a removed step is FREE, and the others stand (R128). -/
theorem releasePump_pump (hbusy : ∀ p : PumpNo, s.pva.pumps[p].granted = some x.number →
      x.grantedPump = some p ∧ s.pva.pumps[p].state = .busy) (p : PumpNo) :
    (s.releasePump x).pva.pumps[p] = if s.pva.pumps[p].granted = some x.number then
      { s.pva.pumps[p] with state := .free, granted := none } else s.pva.pumps[p] := by
  unfold releasePump
  rcases hq : x.grantedPump with _ | q
  · refine (if_neg fun h => ?_).symm
    rw [hq] at hbusy
    cases (hbusy p h).1
  · simp only
    by_cases hserves : s.pva.pumps[q].serves x = true
    · rw [if_pos hserves]
      have hgranted : s.pva.pumps[q].granted = some x.number := by
        simp only [Pump.serves, Bool.and_eq_true, beq_iff_eq] at hserves
        exact hserves.2
      by_cases hqp : q = p
      · subst hqp
        rw [if_pos hgranted]
        exact Vector.getElem_set_self ..
      · have hnot : s.pva.pumps[p].granted ≠ some x.number := fun h =>
          hqp (Option.some.inj (hq.symm.trans (hbusy p h).1))
        rw [if_neg hnot]
        exact Vector.getElem_set_ne q.isLt p.isLt fun e => hqp (Fin.ext e)
    · rw [if_neg hserves]
      refine (if_neg fun h => hserves ?_).symm
      obtain ⟨hpump, hstate⟩ := hbusy p h
      obtain rfl : q = p := Option.some.inj (hq.symm.trans hpump)
      exact Bool.and_eq_true_iff.mpr ⟨beq_iff_eq.mpr hstate, beq_iff_eq.mpr h⟩

/-- A step's removal and its pump's release at the end of its wind-down. -/
def State.completed (k : SlotNo) (x : StepRec) (out : StepOutcome) (s : State) : State :=
  (s.removeStep k x out (x.disposition out)).releasePump x

theorem checkClosed_complete (hx : s.tsq.slots[k] = some x) (hstate : x.state = .windDown) (hout : x.outcome = some out)
    (hclosed : s.lineupClosed x = true) :
    s.checkClosed k = if x.kind.main then (s.completed k x out).settleMode else s.completed k x out := by
  unfold checkClosed
  rw [hx]
  simp only [hstate, hclosed, hout, Option.getD_some, true_and, if_true]
  rfl

/-- A wind-down that is not complete goes on. -/
theorem checkClosed_open (hx : s.tsq.slots[k] = some x) (hopen : s.lineupClosed x = false) : s.checkClosed k = s := by
  unfold checkClosed
  rw [hx]
  simp [hopen]

theorem completed_tsq : (s.completed k x out).tsq =
    { s.tsq with slots := s.tsq.slots.set k none, order := s.tsq.order.filter fun j => j != k } := by
  unfold completed removeStep
  rw [(releasePump_touch ..).tsq, (notify_touch ..).tsq, (stepEnd_touch ..).tsq]

theorem settled_touch (b : Bool) (s : State) : Touches [.pva] s (if b then s.settleMode else s) :=
  .ite (settleMode_touch s) (.refl _ s)

theorem settled_plant (b : Bool) (s : State) : (if b then s.settleMode else s).pva.pumps = s.pva.pumps
    ∧ (if b then s.settleMode else s).pva.candidates = s.pva.candidates := by
  unfold settleMode
  cases b with
  | false => exact ⟨rfl, rfl⟩
  | true =>
    rw [if_pos rfl]
    split <;> exact ⟨rfl, rfl⟩

theorem completed_candidates : (s.completed k x out).pva.candidates = s.pva.candidates := by
  have hremove : (s.removeStep k x out (x.disposition out)).pva = s.pva := (removeStep_touch ..).pva
  rw [← hremove]
  unfold completed releasePump
  split
  · rfl
  · extract_lets
    split <;> rfl

theorem settleMode_lineKept (s : State) : LineKept s.settleMode := by
  unfold settleMode
  split
  next h =>
    obtain ⟨a, ha, hmain⟩ := List.any_eq_true.mp h
    exact .inl ⟨a, ha, hmain⟩
  next => exact .inr rfl

/-- The judgement of a wind-down that is complete ends the step (R102, R113, R128). -/
theorem stepEnded_of_complete {m : Nat} (haside : Aside k x.number (some x) u) (hstate : x.state = .windDown)
    (hout : x.outcome = some out) (hclosed : u.lineupClosed x = true)
    (hbusy : ∀ p : PumpNo, u.pva.pumps[p].granted = some x.number → x.grantedPump = some p ∧ u.pva.pumps[p].state = .busy)
    (hadds : Adds m s u) (hm : m ≤ 30)
    (hquiet : (∀ (j : SlotNo) (y : StepRec), s.tsq.slots[j] = some y → y.state ≠ .waiting) → NoneWait s u) :
    StepEnded s (u.checkClosed k).grants.transmit k x out (x.disposition out) := by
  have hcheck := checkClosed_complete haside.slot hstate hout hclosed
  have hsettled := settled_touch x.kind.main (u.completed k x out)
  obtain ⟨hpumps, hcandidates⟩ := settled_plant x.kind.main (u.completed k x out)
  rw [← hcheck] at hsettled hpumps hcandidates
  rw [completed_candidates] at hcandidates
  have htsq := hsettled.tsq.trans completed_tsq
  have hactive : x.state.active = true := by rw [hstate]; rfl
  have hgone : Aside k x.number none (u.checkClosed k) := by
    have hempty : (u.checkClosed k).tsq.slots[k] = none := by rw [htsq]; exact Vector.getElem_set_self ..
    exact hempty ▸ haside.after (ungranted_active hactive) (checkClosed_actsOn k u)
  have hungranted : Ungranted x.number none := fun y hy => by cases hy
  have hreleased (p : PumpNo) : (u.checkClosed k).pva.pumps[p] = if u.pva.pumps[p].granted = some x.number then
      { u.pva.pumps[p] with state := .free, granted := none } else u.pva.pumps[p] := by
    have hremove : (u.removeStep k x out (x.disposition out)).pva = u.pva := (removeStep_touch ..).pva
    rw [hpumps, completed, releasePump_pump (by rw [hremove]; exact hbusy), hremove]
  have hnone : GrantedTo x.number none (u.checkClosed k) := by
    intro p hp
    rw [hreleased] at hp
    split at hp
    · cases hp
    next h => exact absurd hp h
  have htransmit := transmit_touch (u.checkClosed k).grants
  refine ⟨?_, ?_, fun hsafe n hnext hn => ?_, fun p hp => ?_, fun hwait p hp => ?_, fun hmain hothers => ?_⟩
  · rw [htransmit.tsq]
    exact (hgone.grantsBut hungranted _).slot
  · rw [htransmit.tsq, grants, grantsBut_sameOrder, htsq]
    simp
  · have hheld := heldCount_le s.tsq
    have hpos := heldCount_none (q := { u.tsq with slots := u.tsq.slots.set k none }) haside.slot rfl
    obtain ⟨es, hcount, hes⟩ := hadds.more n [] hn (.start hsafe hnext) (by simp only [List.length_nil]; omega)
    have hlast := removeStep_entered (k := k) (x := x) hn hes (by simp only [List.nil_append]; omega) out (x.disposition out)
    have hrcu : (u.checkClosed k).grants.transmit.rcu = (u.removeStep k x out (x.disposition out)).rcu := by
      rw [htransmit.rcu, (grants_touch _).rcu, hsettled.rcu]
      exact (releasePump_touch ..).rcu
    rw [hrcu, hlast.entries]
    exact List.mem_append_right _ (List.mem_singleton.mpr rfl)
  · rw [htransmit.pva] at hp
    cases grantsBut_grantedTo hgone hungranted hnone p hp
  · obtain ⟨hcand, -, hsame⟩ := hquiet hwait
    rw [htransmit.pva, grants, grantsBut_idle (hcandidates.trans hcand), hreleased, hsame, if_pos hp]
  · have hkept : LineKept (u.checkClosed k) := by
      rw [hcheck, if_pos hmain]
      exact settleMode_lineKept _
    rw [htransmit.tsq] at hothers
    rw [htransmit.pva]
    refine (grants_lineKept hkept).resolve_left fun ⟨a, ha, h⟩ => ?_
    rw [hothers a ha] at h
    cases h

end Complete

/-! ### A step in WIND_DOWN through the ends of others (R35, R104) -/

/-- A step in its place as in `Holding`, no other pump granted to its number, and no grant where no step was WAITING. -/
structure StandsBy (k : SlotNo) (x : StepRec) (s u : State) : Prop where
  holding : Holding k x s u
  granted : GrantedTo x.number x.grantedPump u
  quiet : (∀ (j : SlotNo) (y : StepRec), s.tsq.slots[j] = some y → y.state ≠ .waiting) → NoneWait s u

/-- No step in LINEUP, RAMP or RUN names a tank. -/
def NoneRuns (t : TankNo) (s : State) : Prop :=
  ∀ (j : SlotNo) (y : StepRec), s.tsq.slots[j] = some y → y.names t = true → y.state.running = false

/-- Where no step that an event picks is in LINEUP, RAMP or RUN, the event removes WAITING and QUEUED steps and grants others. -/
theorem endSteps_dropping {P : State → Prop} {which : StepRec → Bool} {out : StepOutcome}
    (hstill : ∀ (u : State) (j : SlotNo) (y : StepRec), P u → u.tsq.slots[j] = some y → which y = true → y.state.running = false)
    (hdrop : ∀ (u : State) (j : SlotNo) (y : StepRec), P u → u.tsq.slots[j] = some y → y.state.waitingOrQueued = true → P (u.dropStep j y out))
    (hgrants : ∀ u, P u → P (u.grantsBut which)) {s : State} (h : P s) : P (s.endSteps which out) := by
  rw [endSteps_eq]
  refine atSlots_keep (fun u j _ hu => ?_) h
  rcases hy : u.tsq.slots[j] with _ | y
  · rw [atSlot_passed fun y hy' => by rw [hy] at hy'; cases hy']
    exact hu
  · cases hw : which y with
    | false =>
      rw [atSlot_passed fun z hz => by rw [← Option.some.inj (hy.symm.trans hz)]; exact hw]
      exact hu
    | true =>
      rw [atSlot_picked hy hw, State.endOne]
      refine hgrants _ ?_
      cases hstate : y.state.waitingOrQueued with
      | true =>
        rw [endStep_dropped out hy hstate]
        exact hdrop u j y hu hy hstate
      | false =>
        rw [endStep_wound out hy hstate, windDown_still out hy (hstill u j y hu hy hw)]
        exact hu

theorem dropStep_plant (k : SlotNo) (x : StepRec) (out : StepOutcome) (s : State) :
    (s.dropStep k x out).pva.pumps = s.pva.pumps ∧ (s.dropStep k x out).pva.valves = s.pva.valves := by
  have hremove : (s.removeStep k x out .cancelled).pva = s.pva := (removeStep_touch ..).pva
  obtain ⟨hpumps, hvalves, -⟩ := leaveWaiting_plant x.number (s.removeStep k x out .cancelled)
  unfold dropStep
  extract_lets s₁
  split
  · exact ⟨hpumps.trans (congrArg Pva.pumps hremove), hvalves.trans (congrArg Pva.valves hremove)⟩
  · exact ⟨congrArg Pva.pumps hremove, congrArg Pva.valves hremove⟩

theorem dropStep_queued {k : SlotNo} {x : StepRec} {s : State} (out : StepOutcome) (h : x.state ≠ .waiting) :
    s.dropStep k x out = s.removeStep k x out .cancelled := if_neg h

section Standing
variable {k : SlotNo} {x : StepRec} {s u : State}

theorem StandsBy.congr {w : State} (h : StandsBy k x s u) (htsq : w.tsq = u.tsq) (hpva : w.pva = u.pva) : StandsBy k x s w := by
  obtain ⟨⟨⟨hslot, halone, hunoffered⟩, horder, hvalves, hpump⟩, hgranted, hquiet⟩ := h
  refine ⟨⟨⟨?_, ?_, ?_⟩, ?_, ?_, ?_⟩, ?_, fun hwait => ?_⟩
  · rw [htsq]; exact hslot
  · rw [htsq]; exact halone
  · rw [hpva]; exact hunoffered
  · rw [htsq]; exact horder
  · rw [hpva]; exact hvalves
  · rw [hpva]; exact hpump
  · unfold GrantedTo
    rw [hpva]
    exact hgranted
  · obtain ⟨hcand, hheld, hpumps⟩ := hquiet hwait
    exact ⟨by rw [hpva]; exact hcand, by rw [htsq]; exact hheld, by rw [hpva]; exact hpumps⟩

theorem StandsBy.drop {j : SlotNo} {y : StepRec} {out : StepOutcome} (h : StandsBy k x s u) (hstate : x.state = .windDown)
    (hy : u.tsq.slots[j] = some y) (hleave : y.state.waitingOrQueued = true) : StandsBy k x s (u.dropStep j y out) := by
  have hactive : x.state.active = true := by rw [hstate]; rfl
  have hkj : k ≠ j := fun e => by
    subst e
    rw [Option.some.inj (hy.symm.trans h.holding.aside.slot), hstate] at hleave
    cases hleave
  have hacts : ActsOn j u (u.dropStep j y out) := dropStep_actsOn out
  obtain ⟨hpumps, hvalves⟩ := dropStep_plant j y out u
  refine ⟨⟨h.holding.aside.other (ungranted_active hactive) hacts hkj, hacts.order k hkj h.holding.ordered,
    fun w hw => by rw [hvalves]; exact h.holding.valves w hw, fun p hp => by rw [hpumps]; exact h.holding.pump p hp⟩,
    fun p hp => h.granted p (by rw [hpumps] at hp; exact hp), fun hwait => ?_⟩
  obtain ⟨hcand, hheld, hsame⟩ := h.quiet hwait
  refine ⟨?_, fun i z hz => ?_, hpumps.trans hsame⟩
  · rw [dropStep_queued out (hheld j y hy), (removeStep_touch ..).pva]
    exact hcand
  · by_cases hij : i = j
    · subst hij
      rw [dropStep_slot] at hz
      cases hz
    · exact hheld i z ((hacts.others i hij).symm.trans hz)

theorem StandsBy.grantsBut {passed : StepRec → Bool} (h : StandsBy k x s u) (hstate : x.state = .windDown) (hplaced : x.Placed) :
    StandsBy k x s (u.grantsBut passed) := by
  have hactive : x.state.active = true := by rw [hstate]; rfl
  refine ⟨h.holding.grantsBut hactive hplaced passed,
    grantsBut_grantedTo h.holding.aside (ungranted_active hactive) h.granted, fun hwait => ?_⟩
  have hidle := h.quiet hwait
  rw [grantsBut_idle hidle.candidates]
  exact hidle

theorem NoneRuns.drop {t : TankNo} {j : SlotNo} {y : StepRec} {out : StepOutcome} (h : NoneRuns t u) :
    NoneRuns t (u.dropStep j y out) := by
  intro i z hz
  by_cases hij : i = j
  · subst hij
    rw [dropStep_slot] at hz
    cases hz
  · exact h i z (((dropStep_actsOn out).others i hij).symm.trans hz)

/-- Grants that pass by the steps that name the tank set none of them going. -/
theorem NoneRuns.grantsBut {t : TankNo} (h : NoneRuns t u) : NoneRuns t (u.grantsBut (·.names t)) :=
  grantsBut_keeps (P := NoneRuns t) (fun p j y w hw hy hnot _ i z hz hnames => by
    by_cases hij : i = j
    · subst hij
      obtain ⟨x', hx', hplan⟩ := (grant_actsOn p i w).held hz
      have hyz : y.names t = z.names t := plan_names (by rwa [Option.some.inj (hx'.symm.trans hy)] at hplan) t
      rw [← hyz, hnot] at hnames
      cases hnames
    · exact hw i z (((grant_actsOn p j w).others i hij).symm.trans hz) hnames) h

/-- A step in WIND_DOWN stands by at the lock of a tank that no running step names (R35, R104). -/
theorem StandsBy.lockTank {t : TankNo} {why : Lock} (h : StandsBy k x s u) (hstate : x.state = .windDown) (hplaced : x.Placed)
    (hnone : NoneRuns t u) : StandsBy k x s (u.lockTank t why) := by
  have hlocked := locked_touch t why u
  have hends : StandsBy k x s ((u.locked t why).endSteps (·.names t) .locked)
      ∧ NoneRuns t ((u.locked t why).endSteps (·.names t) .locked) :=
    endSteps_dropping (P := fun w => StandsBy k x s w ∧ NoneRuns t w) (fun w j y hw hy hnames => hw.2 j y hy hnames)
      (fun w j y hw hy hleave => ⟨hw.1.drop hstate hy hleave, hw.2.drop⟩)
      (fun w hw => ⟨hw.1.grantsBut hstate hplaced, hw.2.grantsBut⟩)
      ⟨h.congr hlocked.tsq hlocked.pva, by unfold NoneRuns; rw [hlocked.tsq]; exact hnone⟩
  have hrequest := requestRecompute_touch ((u.locked t why).endSteps (·.names t) .locked)
  rw [lockTank_eq]
  exact hends.1.congr hrequest.tsq hrequest.pva

theorem StandsBy.failedToClose {v : ValveNo} (h : StandsBy k x s u) (hstate : x.state = .windDown) (hplaced : x.Placed)
    (hnone : ∀ t, tankOf v = some t → NoneRuns t u) : StandsBy k x s (u.failedToClose v) := by
  unfold State.failedToClose
  split
  · exact h
  next t ht =>
    split
    · exact h
    · exact h.lockTank hstate hplaced (hnone t ht)

end Standing

/-! ### What the invariants give of an active step -/

section Safe
variable {k : SlotNo} {x : StepRec} {s : State}

/-- Two steps name no tank together. -/
def NoneShared (a b : SlotNo × StepRec) : Prop := ∀ t : TankNo, a.2.names t = true → b.2.names t = false

/-- No two active steps name one tank (R115). -/
theorem active_apart (hline : LineSafe s) {a b : SlotNo × StepRec} (ha : a ∈ s.tsq.active) (hb : b ∈ s.tsq.active) (hab : a ≠ b)
    (t : TankNo) (hat : a.2.names t = true) : b.2.names t = false := by
  have hsymm : Std.Symm NoneShared := ⟨fun a b h t ht => by
    cases hat : a.2.names t with
    | false => rfl
    | true => rw [h t hat] at ht; cases ht⟩
  refine List.Pairwise.forall (R := NoneShared) (hline.1.imp fun {a b} h t ht => ?_) ha hb hab t hat
  simp only [StepRec.apart, Bool.and_eq_true, List.all_eq_true, Bool.not_eq_true'] at h
  obtain ⟨⟨⟨htanks, -⟩, -⟩, -⟩ := h
  exact htanks t (by simpa [StepRec.names] using ht)

/-- A tank whose valve stands in a lineup is a tank of the step. -/
theorem names_of_valve {t : TankNo} (hplaced : x.Placed) (h : tankValve t ∈ x.valves) : x.names t = true := by
  obtain ⟨p, hp, hkind⟩ := hplaced
  rw [StepRec.valves, hp] at h
  obtain ⟨halone, hpumps⟩ := tankValve_alone t
  rcases mem_lineup h hkind with ⟨u, hu, heq⟩ | ⟨heq, -⟩ | heq
  · simpa [StepRec.names, halone u heq] using hu
  · exact absurd heq (hpumps p).1
  · exact absurd heq (hpumps p).2

theorem active_of_running {st : StepState} (h : st.running = true) : st.active = true := by
  cases st with
  | lineup | ramp | run => rfl
  | checking | queued | waiting | windDown => cases h

/-- No running step names a tank of a step in WIND_DOWN. -/
theorem noneRuns_of_safe (hqueue : QueueSafe s) (hline : LineSafe s) (hx : (k, x) ∈ s.tsq.active) (hstate : x.state = .windDown)
    {t : TankNo} (ht : x.names t = true) : NoneRuns t s := by
  intro j y hy hnames
  by_contra hrun
  have hrunning : y.state.running = true := by simpa using hrun
  have hactive : y.state.active = true := active_of_running hrunning
  have hj : j ∈ s.tsq.order := safe_order hqueue hy fun e => by rw [e] at hrunning; cases hrunning
  have hne : (k, x) ≠ (j, y) := fun e => by
    obtain ⟨-, rfl⟩ := Prod.mk.inj e
    rw [hstate] at hrunning
    cases hrunning
  rw [active_apart hline hx (mem_active.mpr ⟨hj, hy, hactive⟩) hne t ht] at hnames
  cases hnames

/-- Only a step's own pump is granted to it, and it is BUSY (R96). -/
theorem granted_of_safe (hqueue : QueueSafe s) (hpump : PumpSafe s) (hx : s.tsq.slots[k] = some x) {p : PumpNo}
    (hp : s.pva.pumps[p].granted = some x.number) : x.grantedPump = some p ∧ s.pva.pumps[p].state = .busy := by
  obtain ⟨hbusy, hon, -⟩ := hpump.1 p
  rw [hp] at hon
  obtain ⟨⟨j, y⟩, hy, hnumber⟩ := (Option.any_eq_true _ _).mp hon
  have hslot := (mem_active.mp (List.mem_of_find?_eq_some hy)).2.1
  have hpy : y.grantedPump = some p := by simpa using List.find?_some hy
  have hjk : j = k := by
    by_contra hne
    exact safe_alone hqueue hx hne hslot (by simpa using hnumber)
  subst hjk
  rw [Option.some.inj (hx.symm.trans hslot)]
  exact ⟨hpy, hbusy.mpr (by rw [hp]; rfl)⟩

theorem StandsBy.start (hqueue : QueueSafe s) (hline : LineSafe s) (hpump : PumpSafe s) (hx : (k, x) ∈ s.tsq.active) :
    StandsBy k x s s :=
  ⟨.start hqueue hline hx, fun _ hp => (granted_of_safe hqueue hpump (mem_active.mp hx).2.1 hp).1, NoneWait.start hline⟩

end Safe

end Sys2Proof.Machine
end

section
/-! PROOFS. Valve faults and expiries (R37, R81, R97, R119 to R122, R129): what each does to the valve, its step, the tanks and the records. -/

namespace Sys2Proof.Machine

/- One proof at a time: side by side they take a thread each. -/
set_option Elab.async false

open State

/-! ### A valve fault reported (R81, R121, R122, R129) -/

section Report
variable {s s₁ w : State} {v : ValveNo} {why : ValveCause} {n m : Nat}

/-- A valve fault reported before anything else is written is taken, and stays present. -/
theorem faultTaken_reported (h₁ : Touches [.fcu, .pva] s s₁) (hw : Behind m (s₁.reportValve v why n) w) (hm : m ≤ 30)
    (hlsl : w.lsl = (s₁.reportValve v why n).lsl) (htx : w.lnk.tx = s.lnk.tx) :
    w.transmit.lsl.faults.valve[v] = true ∧ FaultTaken s w.transmit (.valve v) (.valveFault, #v[v.val, why.code, n, 0]) := by
  refine ⟨?_, faultTaken_of_behind h₁ hw hm (hlsl.trans (log_touch ..).lsl) htx⟩
  have hhas : (s₁.faultReport (.valve v)).lsl.faults.has (.valve v) = true := by rw [faultReport_has]; simp
  rw [(transmit_touch w).lsl, hlsl]
  exact hhas

/-- The entries of a valve fault: that of its alarm event where the fault is new, then its own. -/
theorem reportValve_rcu (h₁ : Touches [.fcu, .pva] s s₁) : (s₁.reportValve v why n).rcu =
    ((if s.lsl.faults.valve[v] then s
      else s.log .alarm [3, 33, v.val, s.cfg.alarm.masked[AlarmGroup.equipment.ix].toNat]).log .valveFault
        [v.val, why.code, n]).rcu := by
  have hfaults : s₁.lsl.faults = s.lsl.faults := by rw [h₁.lsl]
  have hentry : (s₁.faultEntry (.valve v)).rcu = (if s.lsl.faults.valve[v] then s
      else s.log .alarm [3, 33, v.val, s.cfg.alarm.masked[AlarmGroup.equipment.ix].toNat]).rcu := by
    by_cases hknown : s.lsl.faults.valve[v] = true
    · rw [if_pos hknown, faultEntry, if_pos (show s₁.lsl.faults.has (.valve v) = true by rw [hfaults]; exact hknown)]
      exact h₁.rcu
    · rw [if_neg hknown, faultEntry, if_neg (show ¬s₁.lsl.faults.has (.valve v) = true by rw [hfaults]; exact hknown),
        alarmEntry, h₁.cfg]
      exact log_congr h₁.rcu h₁.ccl ..
  have hccl : (s₁.faultReport (.valve v)).ccl = (if s.lsl.faults.valve[v] then s
      else s.log .alarm [3, 33, v.val, s.cfg.alarm.masked[AlarmGroup.equipment.ix].toNat]).ccl := by
    rw [(faultReport_touch ..).ccl, h₁.ccl]
    split <;> rfl
  exact log_congr ((faultReport_rcu ..).trans hentry) hccl ..

end Report

/-! ### A tank locked by its valve (R37) -/

section Lock
variable {v : ValveNo} {s : State}

theorem tankOf_eq_some {t : TankNo} : tankOf v = some t ↔ tankValve t = v := by
  revert v t
  decide

theorem failedToClose_tankValve {t : TankNo} (ht : tankOf v = some t) :
    s.failedToClose v = if s.tanks[t].lock = .valve then s else s.lockTank t .valve := by
  unfold failedToClose
  rw [ht]

theorem setTank_same {t : TankNo} {x : TankRun} (h : x = s.tanks[t]) : s.tanks.set t x = s.tanks := by
  rw [h]
  exact Vector.set_getElem_self _

/-- The tank of a tank valve is locked with reason VALVE, and no other tank changes. -/
theorem failedToClose_tanks (v : ValveNo) (s : State) (k : TankNo) :
    (s.failedToClose v).tanks[k] = if tankValve k = v then { s.tanks[k] with lock := .valve } else s.tanks[k] := by
  rcases ht : tankOf v with _ | t
  · have hsame : s.failedToClose v = s := by
      unfold failedToClose
      rw [ht]
    rw [hsame, if_neg fun h => by rw [tankOf_eq_some.mpr h] at ht; cases ht]
  · have hset : (s.failedToClose v).tanks = s.tanks.set t { s.tanks[t] with lock := .valve } := by
      rw [failedToClose_tankValve ht]
      by_cases hlock : s.tanks[t].lock = .valve
      · have hown : ({ s.tanks[t] with lock := .valve } : TankRun) = s.tanks[t] := by simp only [← hlock]
        rw [if_pos hlock, setTank_same hown]
      · rw [if_neg hlock, lockTank_tanks]
    rw [hset]
    by_cases htk : t = k
    · subst htk
      rw [if_pos (tankOf_eq_some.mp ht)]
      exact Vector.getElem_set_self ..
    · rw [if_neg fun h => htk (Option.some.inj (ht.symm.trans (tankOf_eq_some.mpr h)))]
      exact Vector.getElem_set_ne t.isLt k.isLt fun e => htk (Fin.ext e)

theorem failedToClose_pumpValve (h : ∀ k : TankNo, tankValve k ≠ v) : s.failedToClose v = s := by
  unfold failedToClose
  rcases ht : tankOf v with _ | t
  · rfl
  · exact absurd (tankOf_eq_some.mp ht) (h t)

end Lock

/-! ### A lineup that fails (R121, R122) -/

/-- The removal of a step empties its slot; else its wind-down is not judged complete. -/
theorem checkClosed_kept (k : SlotNo) (s : State) : (s.checkClosed k).tsq.slots[k] = none ∨ s.checkClosed k = s := by
  unfold checkClosed
  split
  · exact .inr rfl
  next x _ =>
    split
    · extract_lets out s₁
      have hgone : s₁.tsq.slots[k] = none := (releasePump_actsOn k x _).empty (removeStep_slot ..)
      exact .inl ((congrArg (fun q : Tsq => q.slots[k]) (settled_touch x.kind.main s₁).tsq).trans hgone)
    · exact .inr rfl

theorem plantWindDown_kept (k : SlotNo) (x : StepRec) (s : State) :
    (s.plantWindDown k x).tsq.slots[k] = none ∨ (s.plantWindDown k x).tsq = s.tsq := by
  unfold plantWindDown
  split
  · exact .inr rfl
  · extract_lets
    split
    · exact .inr rfl
    · exact (checkClosed_kept k (s.closeLineup k)).imp id fun h => by rw [h, (closeLineup_touch ..).tsq]

theorem windDown_kept {k : SlotNo} {x : StepRec} {s : State} {out : StepOutcome} (hx : s.tsq.slots[k] = some x)
    (hrun : x.state.running = true) :
    (s.windDown k out).tsq.slots[k] = none ∨
      (s.windDown k out).tsq.slots[k] = some (x.wound out) ∧ (s.windDown k out).tsq.order = s.tsq.order := by
  rw [windDown_running out hx hrun]
  refine (plantWindDown_kept k (x.wound out) (s.enterState k (x.wound out))).imp id fun h => ?_
  have hset : (s.enterState k (x.wound out)).tsq = (s.setStep k (x.wound out)).tsq := (notify_touch ..).tsq
  exact ⟨by rw [h]; exact enterState_slot, by rw [h, hset, setStep_tsq]⟩

/-- A failed lineup up to the report of its fault. -/
def State.lineupShut (k : SlotNo) (v : ValveNo) (s : State) : State := (s.markValve v).closeLineup k

theorem lineupFailed_eq (k : SlotNo) (v : ValveNo) (why : ValveCause) (n : Nat) (s : State) :
    s.lineupFailed k v why n = ((s.lineupShut k v).reportValve v why n).windDown k .valve := rfl

theorem lineupShut_touch (k : SlotNo) (v : ValveNo) (s : State) : Touches [.pva] s (s.lineupShut k v) :=
  (markValve_touch v s).trans (closeLineup_touch k _)

/-- The valve at which a lineup fails is FAULTED. -/
theorem lineupFailed_faulted (k : SlotNo) (v : ValveNo) (why : ValveCause) (n : Nat) (s : State) :
    (s.lineupFailed k v why n).pva.valves[v].faulted = true := by
  have hreport : Closes (s.lineupShut k v) ((s.lineupShut k v).reportValve v why n) := .of_touches (reportValve_touch ..)
  rw [lineupFailed_eq, (windDown_closes ..).faulted, hreport.faulted, lineupShut, (closeLineup_closes ..).faulted, markValve,
    setValve_same]

theorem lineupFailed_lsl (k : SlotNo) (v : ValveNo) (why : ValveCause) (n : Nat) (s : State) :
    (s.lineupFailed k v why n).lsl = ((s.lineupShut k v).reportValve v why n).lsl := (windDown_touch ..).lsl

/-- The step of a lineup that fails is gone, or in WIND_DOWN with its lineup commanded CLOSED (R121). -/
theorem lineupFailed_step {k : SlotNo} {x : StepRec} {v : ValveNo} {s : State} (hqueue : QueueSafe s) (hline : LineSafe s)
    (hx : (k, x) ∈ s.tsq.active) (hlineup : x.state = .lineup) (why : ValveCause) (n : Nat) :
    (s.lineupFailed k v why n).grants.tsq.slots[k] = none ∨
      (s.lineupFailed k v why n).grants.tsq.slots[k] = some (x.wound .valve)
        ∧ ∀ w ∈ x.valves, (s.lineupFailed k v why n).grants.pva.valves[w].open_ = false := by
  obtain ⟨hk, hslot, hactive⟩ := mem_active.mp hx
  have hrun : x.state.running = true := by rw [hlineup]; rfl
  have hr := ungranted_active hactive
  have hplaced : x.Placed := placed_of_safe hqueue hline hx
  have hmark : ActsOn k s (s.markValve v) := .of_same rfl rfl
  have hbefore : ActsOn k s ((s.lineupShut k v).reportValve v why n) :=
    hmark.trans ((closeLineup_actsOn k _).trans (.of_touches (reportValve_touch ..)))
  have htsq : ((s.lineupShut k v).reportValve v why n).tsq = s.tsq :=
    (reportValve_touch ..).tsq.trans (lineupShut_touch ..).tsq
  have hreported : ((s.lineupShut k v).reportValve v why n).tsq.slots[k] = some x := by rw [htsq]; exact hslot
  have hacts := hbefore.trans (windDown_actsOn k .valve _)
  have haside := (Holding.start hqueue hline hx).aside.after hr hacts
  rw [← lineupFailed_eq] at haside
  rcases windDown_kept (out := .valve) hreported hrun with hgone | ⟨hwound, horder⟩
  · exact .inl (grantsBut_empty _ hgone)
  · rw [← lineupFailed_eq] at hwound horder
    rw [hwound] at haside
    have hholding : Holding k (x.wound .valve) (s.lineupFailed k v why n) (s.lineupFailed k v why n) :=
      ⟨haside, by rw [horder, htsq]; exact hk, fun _ _ => rfl, fun _ _ => rfl⟩
    have hafter := hholding.grants rfl (z := x.wound .valve) hplaced
    refine .inr ⟨hafter.aside.slot, fun w hw => ?_⟩
    have hshut : (s.lineupShut k v).pva.valves[w].open_ = false := by
      rw [lineupShut, closeLineup_held (s := s.markValve v) hslot]
      exact closeValves_shut hw _
    have hreport : ((s.lineupShut k v).reportValve v why n).pva = (s.lineupShut k v).pva := (reportValve_touch ..).pva
    rw [hafter.valves w hw, lineupFailed_eq, (windDown_closes ..).shut w (by rw [hreport]; exact hshut), hreport]
    exact hshut

/-! ### The expiries of the travel watches (R121, R129) -/

section Expiry
variable {v : ValveNo} {u : Nat} {s : State}

theorem openTimeout_unwatched (h : ∀ u, s.pva.valves[v].watch ≠ .opening u) : s.openTimeout v = s := by
  unfold openTimeout
  split
  next u _ _ hw _ => exact absurd hw (h u)
  next => rfl

theorem openTimeout_watched {k : SlotNo} {x : StepRec} (h : s.pva.valves[v].watch = .opening u)
    (hx : s.tsq.holder v = some (k, x)) : s.openTimeout v = s.lineupFailed k v .open_ x.number := by
  unfold openTimeout
  rw [h, hx]

/-- A valve whose CLOSING watch has expired (R129). -/
def State.timedOut (v : ValveNo) (s : State) : State := s.setValve v { s.pva.valves[v] with watch := .absent, faulted := true }

/-- The fault of a CLOSING watch's expiry reported, and its tank locked (R37, R129). -/
def State.leftOpen (v : ValveNo) (s : State) : State :=
  ((s.timedOut v).reportValve v .close (s.tsq.holderNumber v)).failedToClose v

theorem closeTimeout_held {k : SlotNo} {x : StepRec} (h : s.pva.valves[v].watch = .closing u)
    (hx : s.tsq.holder v = some (k, x)) : s.closeTimeout v = ((s.leftOpen v).addCloseFailed v k).checkClosed k := by
  unfold closeTimeout
  rw [h]
  simp only [hx]
  rfl

theorem closeTimeout_loose (h : s.pva.valves[v].watch = .closing u) (hx : s.tsq.holder v = none) :
    s.closeTimeout v = s.leftOpen v := by
  unfold closeTimeout
  rw [h]
  simp only [hx]
  rfl

/-- A property of the reported fault that the judgement of the held step keeps. -/
theorem closeTimeout_from {P : State → Prop} (h : s.pva.valves[v].watch = .closing u) (hleft : P (s.leftOpen v))
    (hjudge : ∀ k, P (s.leftOpen v) → P (((s.leftOpen v).addCloseFailed v k).checkClosed k)) : P (s.closeTimeout v) := by
  rcases hx : s.tsq.holder v with _ | ⟨k, x⟩
  · rw [closeTimeout_loose h hx]
    exact hleft
  · rw [closeTimeout_held h hx]
    exact hjudge k hleft

theorem leftOpen_touch (v : ValveNo) (s : State) : Touches [.tanks, .tsq, .rcu, .lnk, .pva, .cen, .lsl] s (s.leftOpen v) :=
  ((setValve_touch ..).seq ((reportValve_touch ..).seq (failedToClose_touch ..))).mono

theorem judge_touch (v : ValveNo) (k : SlotNo) (w : State) :
    Touches [.tsq, .rcu, .lnk, .pva] w ((w.addCloseFailed v k).checkClosed k) :=
  ((addCloseFailed_touch v k w).seq (checkClosed_touch ..)).mono

theorem closeTimeout_touch (h : s.pva.valves[v].watch = .closing u) :
    Touches [.tanks, .tsq, .rcu, .lnk, .pva, .cen, .lsl] s (s.closeTimeout v) :=
  closeTimeout_from (P := Touches [.tanks, .tsq, .rcu, .lnk, .pva, .cen, .lsl] s) h (leftOpen_touch v s)
    fun k hleft => hleft.trans (judge_touch v k _).mono

/-- The valve is FAULTED without a watch, and stands so (R129). -/
theorem closeTimeout_valve (h : s.pva.valves[v].watch = .closing u) (hopen : s.pva.valves[v].open_ = false) :
    (s.closeTimeout v).grants.pva.valves[v] = { s.pva.valves[v] with watch := .absent, faulted := true } := by
  have hout : (s.timedOut v).pva.valves[v] = { s.pva.valves[v] with watch := .absent, faulted := true } := setValve_same
  have hkeeps : KeepsShut (s.timedOut v) (s.closeTimeout v) :=
    closeTimeout_from (P := KeepsShut (s.timedOut v)) h
      ((KeepsShut.of_closes (.of_touches (reportValve_touch ..))).trans (failedToClose_keepsShut ..))
      fun k hleft => hleft.trans (.of_closes ((Closes.of_touches (addCloseFailed_touch v k _)).trans (checkClosed_closes k _)))
  rw [grants, (hkeeps.trans (grantsBut_keepsShut ..)).stands v (by rw [hout]) (by rw [hout]; exact hopen), hout]

theorem closeTimeout_tank (h : s.pva.valves[v].watch = .closing u) (k : TankNo) :
    (s.closeTimeout v).tanks[k] = if tankValve k = v then { s.tanks[k] with lock := .valve } else s.tanks[k] := by
  refine closeTimeout_from (P := fun t => t.tanks[k] = if tankValve k = v then { s.tanks[k] with lock := .valve } else s.tanks[k])
    h ?_ fun j hleft => by rw [(judge_touch v j _).tanks]; exact hleft
  have hreport : ((s.timedOut v).reportValve v .close (s.tsq.holderNumber v)).tanks = s.tanks := (reportValve_touch ..).tanks
  rw [leftOpen, failedToClose_tanks, hreport]

theorem closeTimeout_behind (h : s.pva.valves[v].watch = .closing u) :
    Behind 1 ((s.timedOut v).reportValve v .close (s.tsq.holderNumber v)) (s.closeTimeout v) :=
  closeTimeout_from (P := Behind 1 ((s.timedOut v).reportValve v .close (s.tsq.holderNumber v))) h (failedToClose_behind ..)
    fun k hleft => hleft.trans ((addCloseFailed_behind v k _).seq (checkClosed_behind k _))

theorem closeTimeout_steady (h : s.pva.valves[v].watch = .closing u) : Steady s (s.closeTimeout v) := by
  have hout : Steady s (s.timedOut v) := setValve_steady rfl
  exact closeTimeout_from (P := Steady s) h (hout.trans ((reportValve_steady ..).trans (failedToClose_steady v _)))
    fun k hleft => hleft.trans ((Steady.of_touches (addCloseFailed_touch v k _)).trans (checkClosed_steady k _))

theorem closeTimeout_lsl (h : s.pva.valves[v].watch = .closing u) :
    (s.closeTimeout v).lsl = ((s.timedOut v).reportValve v .close (s.tsq.holderNumber v)).lsl :=
  closeTimeout_from (P := fun t => t.lsl = ((s.timedOut v).reportValve v .close (s.tsq.holderNumber v)).lsl) h
    (failedToClose_touch ..).lsl fun k hleft => (judge_touch v k _).lsl.trans hleft

end Expiry

/-! ### A lineup valve that failed to close, or has closed, in WIND_DOWN (R128, R129) -/

section Winding
variable {k : SlotNo} {x : StepRec} {v : ValveNo} {out : StepOutcome} {s : State}

/-- Whether every other valve of a lineup is commanded CLOSED without a watch. -/
def State.shutBut (x : StepRec) (v : ValveNo) (s : State) : Bool :=
  x.valves.all fun w => w == v || (!s.pva.valves[w].open_ && s.pva.valves[w].watch == .absent)

theorem lineupClosed_setValve {y : Valve} (hopen : y.open_ = false) (hwatch : y.watch = .absent) :
    (s.setValve v y).lineupClosed x = s.shutBut x v := by
  unfold lineupClosed shutBut
  congr 1
  funext w
  by_cases hwv : v = w
  · subst hwv
    rw [setValve_same, hopen, hwatch]
    simp
  · rw [setValve_other hwv, beq_false_of_ne (Ne.symm hwv), Bool.false_or]

theorem lineupClosed_congr {u w : State} (h : ∀ v ∈ x.valves, u.pva.valves[v] = w.pva.valves[v]) :
    u.lineupClosed x = w.lineupClosed x := by
  unfold lineupClosed
  rw [Bool.eq_iff_iff, List.all_eq_true, List.all_eq_true]
  exact forall₂_congr fun v hv => by rw [h v hv]

/-- The step's record with one more valve that failed to close. -/
def StepRec.failedAt (v : ValveNo) (x : StepRec) : StepRec := { x with closeFailed := x.closeFailed ++ [v] }

theorem addCloseFailed_held {u : State} (hx : u.tsq.slots[k] = some x) : u.addCloseFailed v k = u.setStep k (x.failedAt v) := by
  unfold addCloseFailed
  rw [hx]
  rfl

theorem Aside.setStep {x y : StepRec} {n : Nat} {u : State} (h : Aside k n (some x) u) : Aside k n (some y) (u.setStep k y) where
  slot := Vector.getElem_set_self ..
  alone i z hi hz := by
    have hsame : (u.setStep k y).tsq.slots[i] = u.tsq.slots[i] :=
      Vector.getElem_set_ne k.isLt i.isLt fun e => hi (Fin.ext e.symm)
    exact h.alone i z hi (hsame.symm.trans hz)
  unoffered := h.unoffered

/-- The step whose valve failed to close ends as FAULTED where the others are closed, and else has it in its list (R102, R129). -/
theorem closeTimeout_step {u : Nat} (hqueue : QueueSafe s) (hline : LineSafe s) (hpump : PumpSafe s)
    (hwatch : s.pva.valves[v].watch = .closing u) (hopen : s.pva.valves[v].open_ = false) (hx : s.tsq.holder v = some (k, x))
    (hstate : x.state = .windDown) (hout : x.outcome = some out) :
    if s.shutBut x v then StepEnded s (s.closeTimeout v).grants.transmit k x out .faulted
    else (s.closeTimeout v).grants.transmit.tsq.slots[k] = some (x.failedAt v) := by
  obtain ⟨hactive, hv⟩ := holder_active hx
  have hplaced := placed_of_safe hqueue hline hactive
  have hstart : StandsBy k x (s.timedOut v) (s.timedOut v) := .start (s := s.timedOut v) hqueue hline hpump hactive
  have hreport := reportValve_touch v .close (s.tsq.holderNumber v) (s.timedOut v)
  have hstands : StandsBy k x (s.timedOut v) (s.leftOpen v) :=
    (hstart.congr hreport.tsq hreport.pva).failedToClose hstate hplaced fun t ht => by
      have hnames : x.names t = true := names_of_valve hplaced (by rw [tankOf_eq_some.mp ht]; exact hv)
      unfold NoneRuns
      rw [hreport.tsq]
      exact noneRuns_of_safe hqueue hline hactive hstate hnames
  have haside : Aside k x.number (some (x.failedAt v)) ((s.leftOpen v).setStep k (x.failedAt v)) := hstands.holding.aside.setStep
  have hungranted : Ungranted x.number (some (x.failedAt v)) := by
    rintro y ⟨⟩
    exact ⟨rfl, fun e => by rw [show (x.failedAt v).state = .windDown from hstate] at e; cases e⟩
  have hclosed : ((s.leftOpen v).setStep k (x.failedAt v)).lineupClosed (x.failedAt v) = s.shutBut x v :=
    (lineupClosed_congr (x := x) hstands.holding.valves).trans (lineupClosed_setValve hopen rfl)
  rw [closeTimeout_held hwatch hx, addCloseFailed_held hstands.holding.aside.slot]
  cases hshut : s.shutBut x v with
  | false =>
    rw [if_neg Bool.false_ne_true, checkClosed_open haside.slot (by rw [hclosed, hshut]), (transmit_touch _).tsq]
    exact (haside.grantsBut hungranted _).slot
  | true =>
    rw [if_pos rfl]
    have hadds : Adds 3 s ((s.leftOpen v).setStep k (x.failedAt v)) :=
      ((Adds.of_touches (setValve_touch v { s.pva.valves[v] with watch := .absent, faulted := true } s)).trans
        (((faultReport_adds ..).trans (log_adds ..)).trans
          ((failedToClose_behind v _).adds.trans (setStep_behind hstands.holding.aside.slot _).adds))).mono (by decide)
    have hended := stepEnded_of_complete (x := x.failedAt v) (out := out) haside hstate hout (hclosed.trans hshut)
      (fun p hp => ?_) hadds (by decide) fun hwait => ?_
    · rw [show (x.failedAt v).disposition out = .faulted from if_pos (by simp [StepRec.failedAt])] at hended
      exact hended
    · have hown := hstands.granted p hp
      have hsame : (s.leftOpen v).pva.pumps[p].unfair = s.pva.pumps[p].unfair := hstands.holding.pump p hown
      have hstill : (s.leftOpen v).pva.pumps[p].unfair.state = s.pva.pumps[p].unfair.state := by rw [hsame]
      exact ⟨hown, Eq.trans (b := s.pva.pumps[p].state) hstill
        (granted_of_safe hqueue hpump (mem_active.mp hactive).2.1 ((unfair_granted hsame).symm.trans hp)).2⟩
    · obtain ⟨hcand, hheld, hpumps⟩ := hstands.quiet hwait
      refine ⟨hcand, fun j y hy => ?_, hpumps⟩
      by_cases hjk : j = k
      · subst hjk
        exact (hungranted y (haside.slot.symm.trans hy)).2
      · have hsame : ((s.leftOpen v).setStep k (x.failedAt v)).tsq.slots[j] = (s.leftOpen v).tsq.slots[j] :=
          Vector.getElem_set_ne k.isLt j.isLt fun e => hjk (Fin.ext e.symm)
        exact hheld j y (hsame.symm.trans hy)

end Winding

end Sys2Proof.Machine
end

section
/-! PROOFS. A debounced state delivered to one valve (R120, R122, R128), and the obligation. -/

namespace Sys2Proof.Machine

/- One proof at a time: side by side they take a thread each. -/
set_option Elab.async false

open State

/-! ### Feedback by the valve's watch (R112) -/

section Feedback
variable {v : ValveNo} {a : Bool} {u : Nat} {k : SlotNo} {x : StepRec} {s : State}

/-- A valve as a delivered state shows it, under a watch. -/
def State.shown (v : ValveNo) (a : Bool) (w : TravelWatch) (s : State) : State :=
  s.setValve v { s.pva.valves[v] with proved := .of a, watch := w }

theorem shown_valve {w : TravelWatch} : (s.shown v a w).pva.valves[v] = { s.pva.valves[v] with proved := .of a, watch := w } :=
  setValve_same

theorem shown_other {w : TravelWatch} {i : ValveNo} (h : v ≠ i) : (s.shown v a w).pva.valves[i] = s.pva.valves[i] :=
  setValve_other h

theorem setValve_setValve (v : ValveNo) (y z : Valve) (s : State) : (s.setValve v y).setValve v z = s.setValve v z := by
  have hset : (s.pva.valves.set v y).set v z = s.pva.valves.set v z := Vector.set_set ..
  exact congrArg (fun l => { s with pva := { s.pva with valves := l } }) hset

/-- An OPENING watch ends with the open proof, and the lineup is judged (R120). -/
theorem valveFeedback_opening (h : s.pva.valves[v].watch = .opening u) (hx : s.tsq.holder v = some (k, x)) :
    s.valveFeedback v true = (s.shown v true .absent).checkLineup k := by
  unfold valveFeedback
  simp only [h, setValve_tsq, hx, if_true]
  rw [setValve_setValve]
  rfl

/-- A CLOSING watch ends with the closed proof, and the wind-down is judged (R128). -/
theorem valveFeedback_closing (h : s.pva.valves[v].watch = .closing u) (hx : s.tsq.holder v = some (k, x)) :
    s.valveFeedback v false = (s.shown v false .absent).checkClosed k := by
  unfold valveFeedback
  simp only [h, setValve_tsq, hx, Bool.false_eq_true, if_false]
  rw [setValve_setValve]
  rfl

/-- A valve at rest and not FAULTED is judged as it stands (R122). -/
theorem valveFeedback_rest (h : s.pva.valves[v].watch = .absent) (hf : s.pva.valves[v].faulted = false) :
    s.valveFeedback v a = (s.shown v a .absent).judgeAtRest v s.pva.valves[v].proved := by
  unfold valveFeedback
  simp only [h, hf, shown, Bool.false_eq_true, if_false]

/-- A valve commanded OPEN loses its open proof (R122). -/
theorem judgeAtRest_lost (hopen : s.pva.valves[v].open_ = true) (hproved : s.pva.valves[v].proved = .closed)
    (hx : s.tsq.holder v = some (k, x)) :
    s.judgeAtRest v .opened =
      if x.state = .lineup then s.lineupFailed k v .lost x.number
      else if x.state = .windDown then ((s.markValve v).reportValve v .lost x.number).markStep k
      else (s.markValve v).reportValve v .lost x.number := by
  unfold judgeAtRest
  simp only [hopen, hproved, hx, and_self, if_true]
  cases hstate : x.state <;> rfl

/-- A valve commanded CLOSED proves open (R122, log entry 38). -/
theorem judgeAtRest_uncommanded {was : Proved} (hopen : s.pva.valves[v].open_ = false) (hproved : s.pva.valves[v].proved = .opened)
    (hwas : was ≠ .opened) :
    s.judgeAtRest v was = ((s.markValve v).reportValve v .uncommanded (s.tsq.holderNumber v)).failedToClose v := by
  unfold judgeAtRest
  simp only [hopen, hproved, hwas, Bool.false_eq_true, if_false, ne_eq, not_false_eq_true, and_self, if_true]

/-- A channel that one valve field names hands its state to that valve (R19). -/
theorem debounced_valveFeedback {ch : ChannelNo} {debounce since : Nat} {notify : Bool} {was : Option Bool} {changed : Option Nat}
    (hc : s.cfg.channels[ch] = .switch debounce notify) (hr : s.fcu.channels[ch] = .switch was since changed)
    (hwas : was ≠ some s.pins.contacts[ch]) (hpumps : s.cfg.runPumps ch = []) (hvalves : s.cfg.boundValves ch = [v]) :
    s.debounced ch = ((s.debouncedTo ch since changed).valveFeedback v s.pins.contacts[ch]).grants := by
  have hbound : s.cfg.plantBound ch = true := plantBound_of_valve (v := v) (mem_boundValves.mp (by rw [hvalves]; simp))
  rw [debounced_eq hc hr hwas, if_pos hbound]
  unfold deliverSwitch
  simp only [show (s.debouncedTo ch since changed).cfg = s.cfg from rfl, hpumps, hvalves, List.foldl_nil, List.foldl_cons]

end Feedback

/-! ### A lineup that proves open (R97, R120, R123) -/

section Lineup
variable {k : SlotNo} {x : StepRec} {p : PumpNo} {v : ValveNo} {s : State}

/-- Whether every lineup valve has proved open. -/
def State.lineupOpen (x : StepRec) (s : State) : Bool :=
  x.valves.all fun w => s.pva.valves[w].open_ && s.pva.valves[w].watch == .absent

/-- Every lineup valve but one has proved open. -/
def State.OthersOpen (x : StepRec) (v : ValveNo) (s : State) : Prop :=
  ∀ w ∈ x.valves, w ≠ v → s.pva.valves[w].open_ = true ∧ s.pva.valves[w].watch = .absent

theorem unfair_eq {y z : Pump} (h : y.unfair = z.unfair) :
    y.run = z.run ∧ y.gear = z.gear ∧ y.gearUntil = z.gearUntil ∧ y.watch = z.watch := by
  have hrun : y.unfair.run = z.unfair.run := by rw [h]
  have hgear : y.unfair.gear = z.unfair.gear := by rw [h]
  have huntil : y.unfair.gearUntil = z.unfair.gearUntil := by rw [h]
  have hwatch : y.unfair.watch = z.unfair.watch := by rw [h]
  exact ⟨hrun, hgear, huntil, hwatch⟩

/-- A pump at the start of its ramp (R123). -/
def State.ramping (p : PumpNo) (s : State) : Pump :=
  { s.pva.pumps[p] with
    run := true, gear := .g25
    gearUntil := some (s.now + seconds s.cfg.pumps[p].gearInterval)
    watch := if s.pva.pumps[p].proof = .running then .absent else .starting (s.now + seconds s.cfg.pumps[p].startTime) }

/-- A step's record in RAMP (R97). -/
def StepRec.ramped (x : StepRec) : StepRec := { x with state := .ramp }

theorem checkLineup_eq (hx : s.tsq.slots[k] = some x) (hlineup : x.state = .lineup) (hp : x.grantedPump = some p) :
    s.checkLineup k = if s.lineupOpen x then (s.enterState k x.ramped).setPump p (s.ramping p) else s := by
  have henter : (s.enterState k x.ramped).pva = s.pva := (enterState_touch ..).pva
  have hnow : (s.enterState k x.ramped).now = s.now := (enterState_touch ..).now
  have hcfg : (s.enterState k x.ramped).cfg = s.cfg := (enterState_touch ..).cfg
  have hramp : s.ramping p = (s.enterState k x.ramped).ramping p := by unfold State.ramping; rw [henter, hnow, hcfg]
  unfold checkLineup
  rw [hx]
  simp only
  split
  next h => rw [hp] at h; cases h
  next q hq =>
    obtain rfl : p = q := Option.some.inj (hp.symm.trans hq)
    simp only [hlineup, true_and]
    rw [hramp]
    rfl

/-- A lineup wholly open takes its step to RAMP and its pump to gear 25, and the grants leave both. -/
theorem checkLineup_ramps (hqueue : QueueSafe s) (hline : LineSafe s) (hx : (k, x) ∈ s.tsq.active) (hlineup : x.state = .lineup)
    (hp : x.grantedPump = some p) (hopen : s.lineupOpen x = true) :
    (s.checkLineup k).grants.tsq.slots[k] = some x.ramped
      ∧ (s.checkLineup k).grants.pva.pumps[p].unfair = (s.ramping p).unfair
      ∧ ∀ w ∈ x.valves, (s.checkLineup k).grants.pva.valves[w] = s.pva.valves[w] := by
  obtain ⟨hk, hslot, hactive⟩ := mem_active.mp hx
  have hplaced : x.ramped.Placed := placed_of_safe (x := x) hqueue hline hx
  rw [checkLineup_eq hslot hlineup hp, if_pos hopen]
  have hpump : ActsOn k (s.enterState k x.ramped) ((s.enterState k x.ramped).setPump p (s.ramping p)) := .of_same rfl rfl
  have hacts := (enterState_actsOn (x := x.ramped) hslot rfl).trans hpump
  have haside := (Holding.start hqueue hline hx).aside.after (ungranted_active hactive) hacts
  have hset : ((s.enterState k x.ramped).setPump p (s.ramping p)).tsq = (s.setStep k x.ramped).tsq := (notify_touch ..).tsq
  have hentered : ((s.enterState k x.ramped).setPump p (s.ramping p)).tsq.slots[k] = some x.ramped := enterState_slot
  rw [hentered] at haside
  have hholding : Holding k x.ramped ((s.enterState k x.ramped).setPump p (s.ramping p))
      ((s.enterState k x.ramped).setPump p (s.ramping p)) :=
    ⟨haside, by rw [hset]; exact hk, fun _ _ => rfl, fun _ _ => rfl⟩
  have hafter := hholding.grants rfl hplaced
  have henter : (s.enterState k x.ramped).pva = s.pva := (enterState_touch k x.ramped s).pva
  have hvalves : ((s.enterState k x.ramped).setPump p (s.ramping p)).pva.valves = s.pva.valves := by
    rw [setPump_pva, henter]
  refine ⟨hafter.aside.slot, (hafter.pump p hp).trans ?_, fun w hw => (hafter.valves w hw).trans (by rw [hvalves])⟩
  exact congrArg Pump.unfair (Vector.getElem_set_self ..)

/-- A step in an active state stands through the grants, with its lineup. -/
theorem grants_held (hqueue : QueueSafe s) (hline : LineSafe s) (hx : (k, x) ∈ s.tsq.active) :
    s.grants.tsq.slots[k] = some x ∧ ∀ w ∈ x.valves, s.grants.pva.valves[w] = s.pva.valves[w] := by
  have hafter := (Holding.start hqueue hline hx).grants (mem_active.mp hx).2.2 (placed_of_safe hqueue hline hx)
  exact ⟨hafter.aside.slot, hafter.valves⟩

theorem lineupOpen_shown (hopen : s.pva.valves[v].open_ = true) :
    (s.shown v true .absent).lineupOpen x = true ↔ s.OthersOpen x v := by
  rw [lineupOpen, List.all_eq_true]
  refine forall₂_congr fun w _ => ?_
  by_cases hwv : v = w
  · subst hwv
    rw [shown_valve, hopen]
    simp
  · rw [shown_other hwv]
    simp [Ne.symm hwv]

end Lineup

/-! ### A valve at rest judged (R122) -/

section Rest
variable {k : SlotNo} {x : StepRec} {v : ValveNo} {s s₁ w : State}

theorem markValve_valve : (s.markValve v).pva.valves[v] = { s.pva.valves[v] with faulted := true } := setValve_same

/-- A step in WIND_DOWN takes the fault mark (R101). -/
theorem markStep_held (hx : s.tsq.slots[k] = some x) (hstate : x.state = .windDown) :
    s.markStep k = s.setStep k { x with faultMark := true } := by
  unfold markStep
  rw [hx]
  exact if_pos hstate

/-- The loss of the open proof, at the valve and in what LSL and the records take. -/
theorem lost_fault (hopen : s.pva.valves[v].open_ = true) (hproved : s.pva.valves[v].proved = .closed)
    (hx : s.tsq.holder v = some (k, x)) (h₁ : Touches [.fcu, .pva] s₁ s) (htx : s.lnk.tx = s₁.lnk.tx) :
    (s.judgeAtRest v .opened).pva.valves[v].faulted = true
      ∧ (s.judgeAtRest v .opened).grants.transmit.lsl.faults.valve[v] = true
      ∧ FaultTaken s₁ (s.judgeAtRest v .opened).grants.transmit (.valve v) (.valveFault, #v[v.val, 1, x.number, 0]) := by
  have hsteady : (s.judgeAtRest v .opened).grants.lnk.tx = s₁.lnk.tx :=
    ((grants_steady _).tx.trans (judgeAtRest_steady v .opened s).tx).trans htx
  have hgrants := grants_touch (s.judgeAtRest v .opened)
  have hmarked : Touches [.fcu, .pva] s₁ (s.markValve v) := h₁.trans (markValve_touch v s).mono
  have hreported : ((s.markValve v).reportValve v .lost x.number).pva = (s.markValve v).pva := (reportValve_touch ..).pva
  rw [judgeAtRest_lost hopen hproved hx] at hsteady hgrants ⊢
  split at hsteady
  next hlineup =>
    rw [if_pos hlineup] at hgrants ⊢
    refine ⟨lineupFailed_faulted .., faultTaken_reported (h₁.trans (lineupShut_touch k v s).mono)
      ((windDown_behind k .valve _).seq (grants_behind _)) (Nat.zero_le _) (hgrants.lsl.trans (lineupFailed_lsl ..)) hsteady⟩
  next hlineup =>
    rw [if_neg hlineup] at hgrants ⊢
    split at hsteady
    next hwind =>
      rw [if_pos hwind] at hgrants ⊢
      have hmark := markStep_touch k ((s.markValve v).reportValve v .lost x.number)
      refine ⟨?_, faultTaken_reported hmarked ((markStep_behind k _).seq (grants_behind _)) (Nat.zero_le _)
        (hgrants.lsl.trans hmark.lsl) hsteady⟩
      rw [hmark.pva, hreported, markValve_valve]
    next hwind =>
      rw [if_neg hwind] at hgrants ⊢
      refine ⟨?_, faultTaken_reported hmarked (grants_behind _) (Nat.zero_le _) hgrants.lsl hsteady⟩
      rw [hreported, markValve_valve]

/-- What the loss of the open proof leaves of a step past LINEUP, and of the records. -/
theorem lost_step (hqueue : QueueSafe s) (hline : LineSafe s) (hopen : s.pva.valves[v].open_ = true)
    (hproved : s.pva.valves[v].proved = .closed) (hx : s.tsq.holder v = some (k, x)) (hlineup : x.state ≠ .lineup) :
    (s.judgeAtRest v .opened).grants.tsq.slots[k]
        = some (if x.state = .windDown then { x with faultMark := true } else x)
      ∧ (s.judgeAtRest v .opened).grants.rcu = ((s.markValve v).reportValve v .lost x.number).rcu := by
  obtain ⟨hactive, -⟩ := holder_active hx
  obtain ⟨-, hslot, hstate⟩ := mem_active.mp hactive
  have hr := ungranted_active hstate
  have hmark : ActsOn k s (s.markValve v) := .of_same rfl rfl
  have htsq : ((s.markValve v).reportValve v .lost x.number).tsq = s.tsq := (reportValve_touch ..).tsq
  have hheld : ((s.markValve v).reportValve v .lost x.number).tsq.slots[k] = some x := by rw [htsq]; exact hslot
  have haside : Aside k x.number (some x) ((s.markValve v).reportValve v .lost x.number) :=
    hheld ▸ (Holding.start hqueue hline hactive).aside.after hr (hmark.trans (.of_touches (reportValve_touch ..)))
  rw [judgeAtRest_lost hopen hproved hx, if_neg hlineup]
  by_cases hwind : x.state = .windDown
  · rw [if_pos hwind, if_pos hwind, markStep_held haside.slot hwind]
    have hmarked : Ungranted x.number (some { x with faultMark := true }) := by
      rintro y ⟨⟩
      exact ⟨rfl, (hr x rfl).2⟩
    exact ⟨(haside.setStep.grantsBut hmarked _).slot, (grants_touch _).rcu⟩
  · rw [if_neg hwind, if_neg hwind]
    exact ⟨(haside.grantsBut hr _).slot, (grants_touch _).rcu⟩

/-- A valve that proves open unasked, FAULTED and its tank locked (R122). -/
theorem uncommanded_fault {was : Proved} {n : Nat} (hopen : s.pva.valves[v].open_ = false) (hproved : s.pva.valves[v].proved = .opened)
    (hwas : was ≠ .opened) (hn : s.tsq.holderNumber v = n) (h₁ : Touches [.fcu, .pva] s₁ s) (htx : s.lnk.tx = s₁.lnk.tx) :
    (s.judgeAtRest v was).grants.pva.valves[v] = { s.pva.valves[v] with faulted := true }
      ∧ (s.judgeAtRest v was).grants.transmit.lsl.faults.valve[v] = true
      ∧ FaultTaken s₁ (s.judgeAtRest v was).grants.transmit (.valve v) (.valveFault, #v[v.val, 3, n, 0])
      ∧ (∀ k : TankNo, (s.judgeAtRest v was).tanks[k] =
          if tankValve k = v then { s.tanks[k] with lock := .valve } else s.tanks[k])
      ∧ ((∀ k : TankNo, tankValve k ≠ v) →
          (s.judgeAtRest v was).grants.rcu = ((s.markValve v).reportValve v .uncommanded n).rcu) := by
  have hsteady : (s.judgeAtRest v was).grants.lnk.tx = s₁.lnk.tx :=
    ((grants_steady _).tx.trans (judgeAtRest_steady v was s).tx).trans htx
  have hgrants := grants_touch (s.judgeAtRest v was)
  have hmarked : Touches [.fcu, .pva] s₁ (s.markValve v) := h₁.trans (markValve_touch v s).mono
  have hreport := reportValve_touch v .uncommanded n (s.markValve v)
  rw [judgeAtRest_uncommanded hopen hproved hwas, hn] at hsteady hgrants ⊢
  have hkeeps : KeepsShut (s.markValve v) (((s.markValve v).reportValve v .uncommanded n).failedToClose v).grants :=
    ((KeepsShut.of_closes (.of_touches hreport)).trans (failedToClose_keepsShut ..)).trans (grantsBut_keepsShut ..)
  have hlsl := hgrants.lsl.trans (failedToClose_touch v ((s.markValve v).reportValve v .uncommanded n)).lsl
  obtain ⟨hpresent, htaken⟩ := faultTaken_reported hmarked ((failedToClose_behind v _).trans (grants_behind _)) (by decide) hlsl hsteady
  refine ⟨?_, hpresent, htaken, fun k => ?_, fun hpump => ?_⟩
  · rw [hkeeps.stands v (by rw [markValve_valve]) (by rw [markValve_valve]; exact hopen), markValve_valve]
  · rw [failedToClose_tanks, hreport.tanks]
    rfl
  · rw [hgrants.rcu, failedToClose_pumpValve hpump]

end Rest

/-! ### A debounced state by the watch and the step it meets -/

section Judged
variable {k : SlotNo} {x : StepRec} {p : PumpNo} {v : ValveNo} {u : Nat} {out : StepOutcome} {s : State}

theorem lineupClosed_shown {a : Bool} (hopen : s.pva.valves[v].open_ = false) :
    (s.shown v a .absent).lineupClosed x = s.shutBut x v :=
  lineupClosed_setValve (y := { s.pva.valves[v] with proved := .of a, watch := .absent }) hopen rfl

/-- An open proof in the OPENING watch: RAMP once the whole lineup has it, else LINEUP (R97, R120, R123). -/
theorem opening_judged (hqueue : QueueSafe s) (hline : LineSafe s) (hwatch : s.pva.valves[v].watch = .opening u)
    (hopen : s.pva.valves[v].open_ = true) (hx : s.tsq.holder v = some (k, x)) (hlineup : x.state = .lineup)
    (hp : x.grantedPump = some p) :
    (s.valveFeedback v true).grants.pva.valves[v] = { s.pva.valves[v] with proved := .opened, watch := .absent }
      ∧ (s.OthersOpen x v → (s.valveFeedback v true).grants.tsq.slots[k] = some x.ramped
          ∧ (s.valveFeedback v true).grants.pva.pumps[p].unfair = (s.ramping p).unfair)
      ∧ (¬s.OthersOpen x v → (s.valveFeedback v true).grants.tsq.slots[k] = some x) := by
  obtain ⟨hactive, hv⟩ := holder_active hx
  rw [valveFeedback_opening hwatch hx]
  by_cases hall : (s.shown v true .absent).lineupOpen x = true
  · obtain ⟨hslot, hpump, hvalves⟩ :=
      checkLineup_ramps (s := s.shown v true .absent) hqueue hline hactive hlineup hp hall
    rw [hvalves v hv]
    exact ⟨shown_valve, fun _ => ⟨hslot, hpump⟩, fun h => absurd ((lineupOpen_shown hopen).mp hall) h⟩
  · obtain ⟨hslot, hvalves⟩ := grants_held (s := s.shown v true .absent) hqueue hline hactive
    have hcheck : (s.shown v true .absent).checkLineup k = s.shown v true .absent := by
      rw [checkLineup_eq (s := s.shown v true .absent) (mem_active.mp hactive).2.1 hlineup hp, if_neg hall]
    rw [hcheck, hvalves v hv]
    exact ⟨shown_valve, fun h => absurd ((lineupOpen_shown hopen).mpr h) hall, fun _ => hslot⟩

/-- A closed proof in the CLOSING watch where another lineup valve is still to close (R128). -/
theorem closing_judged_open (hqueue : QueueSafe s) (hline : LineSafe s) (hwatch : s.pva.valves[v].watch = .closing u)
    (hopen : s.pva.valves[v].open_ = false) (hx : s.tsq.holder v = some (k, x)) (hshut : s.shutBut x v = false) :
    (s.valveFeedback v false).grants.tsq.slots[k] = some x
      ∧ (s.valveFeedback v false).grants.pva.valves[v] = { s.pva.valves[v] with proved := .closed, watch := .absent } := by
  obtain ⟨hactive, hv⟩ := holder_active hx
  have hclosed : (s.shown v false .absent).lineupClosed x = false := (lineupClosed_shown hopen).trans hshut
  obtain ⟨hslot, hvalves⟩ := grants_held (s := s.shown v false .absent) hqueue hline hactive
  rw [valveFeedback_closing hwatch hx, checkClosed_open (s := s.shown v false .absent) (mem_active.mp hactive).2.1 hclosed,
    hvalves v hv]
  exact ⟨hslot, shown_valve⟩

/-- The closed proof of the last lineup valve ends the step by its outcome, its fault mark and its failed valves (R102, R128). -/
theorem closing_judged_shut {s₀ : State} (hqueue : QueueSafe s) (hline : LineSafe s) (hpump : PumpSafe s)
    (hwatch : s.pva.valves[v].watch = .closing u) (hopen : s.pva.valves[v].open_ = false) (hx : s.tsq.holder v = some (k, x))
    (hstate : x.state = .windDown) (hout : x.outcome = some out) (hshut : s.shutBut x v = true) (h₀ : Touches [.fcu] s₀ s) :
    StepEnded s₀ (s.valveFeedback v false).grants.transmit k x out (x.disposition out) := by
  obtain ⟨hactive, -⟩ := holder_active hx
  have hslot := (mem_active.mp hactive).2.1
  rw [valveFeedback_closing hwatch hx]
  refine stepEnded_of_complete (m := 0) (Holding.start (s := s.shown v false .absent) hqueue hline hactive).aside hstate hout
    ((lineupClosed_shown hopen).trans hshut) (fun p hp => granted_of_safe (s := s) hqueue hpump hslot hp)
    (.of_touches (h₀.seq (setValve_touch ..))) (by decide) fun hwait => ?_
  obtain ⟨hcand, hheld, -⟩ := NoneWait.start hline fun j y hy => hwait j y (by rw [← h₀.tsq]; exact hy)
  have hpumps : s.pva.pumps = s₀.pva.pumps := by rw [h₀.pva]
  exact ⟨hcand, hheld, hpumps⟩

/-- A LOST valve, in what LSL takes and in the step that holds it (R101, R122). -/
theorem lost_judged {s₀ : State} (hqueue : QueueSafe s) (hline : LineSafe s) (hwatch : s.pva.valves[v].watch = .absent)
    (hf : s.pva.valves[v].faulted = false) (hopen : s.pva.valves[v].open_ = true) (hproved : s.pva.valves[v].proved = .opened)
    (hx : s.tsq.holder v = some (k, x)) (h₀ : Touches [.fcu] s₀ s) :
    (s.valveFeedback v false).grants.pva.valves[v].faulted = true
      ∧ (s.valveFeedback v false).grants.transmit.lsl.faults.valve[v] = true
      ∧ FaultTaken s₀ (s.valveFeedback v false).grants.transmit (.valve v) (.valveFault, #v[v.val, 1, x.number, 0])
      ∧ (x.state = .lineup → (s.valveFeedback v false).grants.tsq.slots[k] = none
          ∨ (s.valveFeedback v false).grants.tsq.slots[k] = some (x.wound .valve))
      ∧ (x.state ≠ .lineup → (s.valveFeedback v false).grants.tsq.slots[k]
            = some (if x.state = .windDown then { x with faultMark := true } else x)
          ∧ (s.valveFeedback v false).grants.rcu = ((if s₀.lsl.faults.valve[v] then s₀
              else s₀.log .alarm [3, 33, v.val, s₀.cfg.alarm.masked[AlarmGroup.equipment.ix].toNat]).log .valveFault
                [v.val, 1, x.number]).rcu) := by
  obtain ⟨hactive, -⟩ := holder_active hx
  have hshown : Touches [.fcu, .pva] s₀ (s.shown v false .absent) := h₀.seq (setValve_touch ..)
  have hsopen : (s.shown v false .absent).pva.valves[v].open_ = true := by rw [shown_valve]; exact hopen
  have hsproved : (s.shown v false .absent).pva.valves[v].proved = .closed := by rw [shown_valve]; rfl
  obtain ⟨hfault, hpresent, htaken⟩ := lost_fault hsopen hsproved hx hshown (by rw [hshown.lnk])
  rw [valveFeedback_rest hwatch hf, hproved]
  refine ⟨by rw [grants_faulted hfault]; exact hfault, hpresent, htaken, fun hlineup => ?_, fun hlineup => ?_⟩
  · rw [judgeAtRest_lost hsopen hsproved hx, if_pos hlineup]
    exact (lineupFailed_step (s := s.shown v false .absent) hqueue hline hactive hlineup .lost x.number).imp id And.left
  · obtain ⟨hslot, hrcu⟩ := lost_step (s := s.shown v false .absent) hqueue hline hsopen hsproved hx hlineup
    exact ⟨hslot, hrcu.trans (reportValve_rcu (hshown.trans (markValve_touch ..).mono))⟩

/-- An UNCOMMANDED valve, in what LSL takes, its tank and the records (R37, R122). -/
theorem uncommanded_judged {s₀ : State} (hwatch : s.pva.valves[v].watch = .absent) (hf : s.pva.valves[v].faulted = false)
    (hopen : s.pva.valves[v].open_ = false) (hproved : s.pva.valves[v].proved ≠ .opened) (h₀ : Touches [.fcu] s₀ s) :
    (s.valveFeedback v true).grants.pva.valves[v].faulted = true
      ∧ (s.valveFeedback v true).grants.pva.valves[v].proved = .opened
      ∧ (s.valveFeedback v true).grants.transmit.lsl.faults.valve[v] = true
      ∧ FaultTaken s₀ (s.valveFeedback v true).grants.transmit (.valve v) (.valveFault, #v[v.val, 3, s.tsq.holderNumber v, 0])
      ∧ (∀ k : TankNo, (s.valveFeedback v true).grants.tanks[k] =
          if tankValve k = v then { s.tanks[k] with lock := .valve } else s.tanks[k])
      ∧ ((∀ k : TankNo, tankValve k ≠ v) → (s.valveFeedback v true).grants.rcu = ((if s₀.lsl.faults.valve[v] then s₀
          else s₀.log .alarm [3, 33, v.val, s₀.cfg.alarm.masked[AlarmGroup.equipment.ix].toNat]).log .valveFault
            [v.val, 3, s.tsq.holderNumber v]).rcu) := by
  have hshown : Touches [.fcu, .pva] s₀ (s.shown v true .absent) := h₀.seq (setValve_touch ..)
  obtain ⟨hvalve, hpresent, htaken, htanks, hrcu⟩ := uncommanded_fault (s := s.shown v true .absent) (n := s.tsq.holderNumber v)
    (by rw [shown_valve]; exact hopen) (by rw [shown_valve]; rfl) hproved rfl hshown (by rw [hshown.lnk])
  rw [valveFeedback_rest hwatch hf, hvalve, shown_valve]
  refine ⟨rfl, rfl, hpresent, htaken, fun k => ?_, fun hpump => ?_⟩
  · rw [(grants_touch _).tanks, htanks]
    rfl
  · exact (hrcu hpump).trans (reportValve_rcu (hshown.trans (markValve_touch ..).mono))

end Judged

end Sys2Proof.Machine
end

namespace Sys2Proof
open Machine

/-- Settles O44: the two expiries by what each leaves of the valve and its step, a debounced state by the valve's watch. -/
theorem valvesJudged : Obligations.ValvesJudged := by
  refine ⟨fun s v hp hqueue hplant => ⟨fun hnone => ?unwatched, fun u k x hwatch hx hlineup => ?opening⟩,
    fun s v u hp hwatch hopen => ?closing,
    fun s ch v debounce since notify was changed hp hqueue hplant hc hr hwas hpumps hvalves => ?feedback⟩
  case unwatched =>
    have hsame := openTimeout_unwatched hnone
    refine ⟨_, congrArg Host.Outcome.next (event_powered hp), ?_, fun hwin hset => ?_⟩
    · rw [hsame]
      exact ((grants_touch s).seq (transmit_touch _)).mono
    · rw [hsame, grants_none hwin, transmit_settled hset]
  case opening =>
    obtain ⟨hactive, -⟩ := holder_active hx
    have hfailed := openTimeout_watched hwatch hx
    have hfault := lineupFailed_faulted k v .open_ x.number s
    have hgrants := grants_touch (s.lineupFailed k v .open_ x.number)
    have htransmit := transmit_touch (s.lineupFailed k v .open_ x.number).grants
    obtain ⟨hpresent, htaken⟩ := faultTaken_reported (s := s) (w := (s.lineupFailed k v .open_ x.number).grants)
      (lineupShut_touch k v s).mono ((windDown_behind k .valve _).seq (grants_behind _)) (Nat.zero_le _)
      (hgrants.lsl.trans (lineupFailed_lsl ..)) ((lineupFailed_steady ..).trans (grants_steady _)).tx
    refine ⟨_, congrArg Host.Outcome.next (event_powered hp), ?_⟩
    rw [hfailed, htransmit.pva, htransmit.tsq]
    refine ⟨by rw [grants_faulted hfault]; exact hfault, hpresent, htaken,
      lineupFailed_step hqueue hplant.1 hactive hlineup .open_ x.number,
      ((lineupFailed_touch ..).seq (hgrants.seq htransmit)).mono⟩
  case closing =>
    have htouch := closeTimeout_touch hwatch
    have hgrants := grants_touch (s.closeTimeout v)
    have htransmit := transmit_touch (s.closeTimeout v).grants
    have hvalve := closeTimeout_valve hwatch hopen
    have htanks := closeTimeout_tank hwatch
    obtain ⟨hpresent, htaken⟩ := faultTaken_reported (s := s) (w := (s.closeTimeout v).grants) (setValve_touch ..).mono
      ((closeTimeout_behind hwatch).trans (grants_behind _)) (by decide) (hgrants.lsl.trans (closeTimeout_lsl hwatch))
      ((closeTimeout_steady hwatch).trans (grants_steady _)).tx
    refine ⟨_, congrArg Host.Outcome.next (event_powered hp), ?_⟩
    rw [htransmit.pva, htransmit.tanks, hgrants.tanks, hvalve]
    refine ⟨rfl, rfl, hopen, hpresent, htaken, fun hqueue hplant k x out hx hstate hout => ?_, fun k hk => ?_, fun k hk => ?_,
      (htouch.seq (hgrants.seq htransmit)).mono⟩
    · exact closeTimeout_step hqueue hplant.1 hplant.2.1 hwatch hopen hx hstate hout
    · rw [htanks, if_pos hk]
    · rw [htanks, if_neg hk]
  case feedback =>
    have h₀ : Touches [.fcu] s (s.debouncedTo ch since changed) := setChannel_touch ..
    have hexec := exec_switchDebounceExpiry hp ch
    rw [debounced_valveFeedback hc hr hwas hpumps hvalves] at hexec
    have htransmit := transmit_touch ((s.debouncedTo ch since changed).valveFeedback v s.pins.contacts[ch]).grants
    intro y masked alarmed
    refine ⟨_, hexec, ?_⟩
    rw [htransmit.pva, htransmit.tsq, htransmit.tanks, htransmit.rcu]
    refine ⟨fun u k x p hcontact hwatch hopen hx hlineup hpump => ?opened, fun k x hcontact hwatch hf hopen hproved hx => ?lost,
      fun u k x out hcontact hwatch hopen hx hstate hout => ?closed, fun hcontact hwatch hf hopen hproved => ?uncommanded⟩
    case opened =>
      rw [hcontact]
      obtain ⟨hvalve, hramps, hstays⟩ :=
        opening_judged (s := s.debouncedTo ch since changed) hqueue hplant.1 hwatch hopen hx hlineup hpump
      rw [hvalve]
      refine ⟨rfl, rfl, ?_⟩
      split
      next hall =>
        obtain ⟨hslot, hramping⟩ := hramps hall
        obtain ⟨hrun, hgear, huntil, hpwatch⟩ := unfair_eq hramping
        refine ⟨hslot, hrun, hgear, huntil.trans ?_, hpwatch.trans ?_⟩
        · simp only [State.ramping, seconds, Nat.mul_comm]
          rfl
        · simp only [State.ramping, seconds, Nat.mul_comm]
          rfl
      next hall =>
        exact hstays hall
    case lost =>
      rw [hcontact]
      have hproof : ((s.debouncedTo ch since changed).valveFeedback v false).grants.pva.valves[v].proved = .closed := by
        rw [valveFeedback_proved, if_pos rfl]
        rfl
      obtain ⟨hfault, hpresent, htaken, hlineup, hpast⟩ :=
        lost_judged (s := s.debouncedTo ch since changed) hqueue hplant.1 hwatch hf hopen hproved hx h₀
      refine ⟨hfault, hproof, hpresent, htaken, hlineup, fun hrun => ?_, fun hwind => ?_, fun hstate => (hpast hstate).2⟩
      · have hslot := (hpast (by rcases hrun with h | h <;> rw [h] <;> exact StepState.noConfusion)).1
        rwa [if_neg (by rcases hrun with h | h <;> rw [h] <;> exact StepState.noConfusion)] at hslot
      · have hslot := (hpast (by rw [hwind]; exact StepState.noConfusion)).1
        rwa [if_pos hwind] at hslot
    case closed =>
      rw [hcontact]
      split
      next hshut =>
        exact closing_judged_shut (s := s.debouncedTo ch since changed) hqueue hplant.1 hplant.2.1 hwatch hopen hx hstate hout
          hshut h₀
      next hshut =>
        exact closing_judged_open (s := s.debouncedTo ch since changed) hqueue hplant.1 hwatch hopen hx (Bool.eq_false_iff.mpr hshut)
    case uncommanded =>
      rw [hcontact]
      obtain ⟨hfault, hproof, hpresent, htaken, htanks, hrcu⟩ :=
        uncommanded_judged (s := s.debouncedTo ch since changed) hwatch hf hopen hproved h₀
      exact ⟨hfault, hproof, hpresent, htaken, htanks, hrcu⟩

end Sys2Proof

section
/-! PROOFS. The frames of the judgements that leave the engine alone, and of the completions. -/

namespace Sys2Proof.Machine

/- One proof at a time: side by side they take a thread each. -/
set_option Elab.async false

open State

theorem judgeStopAck_touch (s : State) : Touches [.lsl, .rcu, .lnk, .pmu] s (judgeStopAck s).1 := by
  unfold judgeStopAck
  split
  · exact .refl _ s
  · split
    · exact .refl _ s
    · exact stopChange_touch ..

theorem judgeConditionGet_touch (part : ConditionPart) (s : State) : Touches [] s (judgeConditionGet part s).1 := by
  unfold judgeConditionGet
  split <;> exact .refl _ s

theorem judgeStepCancel_touch (n : Nat) (s : State) : Touches [.tsq, .rcu, .lnk, .pva] s (judgeStepCancel n s).1 := by
  unfold judgeStepCancel
  split
  · exact .refl _ s
  · split
    · exact .refl _ s
    · split
      · exact (setStep_touch ..).mono
      · exact .refl _ s
      · exact (endStep_touch ..).trans (grants_touch _).mono

theorem judgeStepPin_touch (n : Nat) (s : State) : Touches [.pva, .tsq, .lnk] s (judgeStepPin n s).1 := by
  have h (pin : Option Nat) : Touches [.pva, .tsq, .lnk] s (State.grants { s with pva := { s.pva with pin := pin } }) :=
    (touch_pva s _).mono.trans (grants_touch _)
  unfold judgeStepPin
  split
  · exact h none
  · split
    · exact .refl _ s
    · split
      · exact h (some n)
      · exact .refl _ s

theorem clearFault_touch {item : ClearItem} {s t : State} (h : s.clearFault item = some t) : Touches [.pva, .lsl] s t := by
  cases item <;> simp only [clearFault] at h <;> split at h
  all_goals cases h
  · exact (setPump_touch ..).seq (faultWithdraw_touch ..)
  · exact (setPump_touch ..).seq (faultWithdraw_touch ..)
  · exact (setValve_touch ..).seq (faultWithdraw_touch ..)
  · exact (touch_pva s _).mono

theorem judgeFaultClear_touch (item : ClearItem) (s : State) :
    Touches [.pva, .lsl, .tsq, .lnk] s (judgeFaultClear item s).1 := by
  unfold judgeFaultClear
  split
  · exact .refl _ s
  · exact (clearFault_touch ‹_›).mono.trans (grants_touch _).mono

theorem judgePermitSet_touch (c : PermitConfig) (s : State) :
    Touches [.cfg, .pmu, .lsl, .rcu, .lnk] s (judgePermitSet c s).1 := by
  have hcfg : Touches [.cfg] s (s.setPermitConfig c) := touch_cfg s _
  unfold judgePermitSet
  extract_lets held
  split
  · exact (hcfg.seq ((reportConditions_touch _).seq (stopTaken_touch ..))).mono
  · split
    · exact .refl _ s
    · split
      · exact .refl _ s
      · exact (hcfg.seq ((retime_touch _).seq (permitEvent_touch ..))).mono

theorem judgeReportCompose_touch (interim : Bool) (s : State) : Touches [.rcu] s (judgeReportCompose interim s).1 := by
  unfold judgeReportCompose
  split
  · exact .refl _ s
  · split
    · exact .refl _ s
    · split
      · exact .refl _ s
      · exact touch_rcu s _

theorem judgeStoreWrite_touch (item : StoreItem) (s : State) : Touches [.sst] s (judgeStoreWrite item s).1 := by
  unfold judgeStoreWrite
  split
  · exact .refl _ s
  · split
    · exact touch_sst s _
    · exact .refl _ s
    · exact touch_sst s _

theorem judgePlanLoad_touch (body : List Byte) (s : State) : Touches [.ptr] s (judgePlanLoad body s).1 := by
  unfold judgePlanLoad
  split
  · exact .refl _ s
  · split
    · exact .refl _ s
    · split
      · exact .refl _ s
      · exact touch_ptr s _

theorem creditPour_touch (l : Loader) (x : Pour) (n : Nat) (s : State) : Touches [.ptr] s (s.creditPour l x n) := by
  unfold creditPour
  split
  · exact .refl _ s
  · exact touch_ptr s _

theorem frameSent_touch (s : State) : Touches [.lnk] s s.frameSent := by
  unfold frameSent
  split
  · exact .refl _ s
  · exact touch_lnk s _
  · exact touch_lnk s _

theorem deliverPrediction_touch (q : PredictionRequest) (r : ConditionRecord) (s : State) :
    Touches [.tsq, .lnk, .pva, .rcu] s (s.deliverPrediction q r) := by
  unfold deliverPrediction
  split
  · exact decideStep_touch ..
  · exact (reply_touch ..).mono

theorem completeComposition_touch (s : State) : Touches [.rcu, .lnk] s s.completeComposition := by
  unfold completeComposition
  split
  · exact .refl _ s
  · exact (touch_rcu s _).seq (notify_touch ..)

end Sys2Proof.Machine
end

section
/-! PROOFS. The condition engine's promises, operation by operation (R40 to R48). -/

namespace Sys2Proof.Machine

/- One proof at a time: side by side they take a thread each. -/
set_option Elab.async false

open State

/-! ### What the engine is left with -/

/-- Whether the record in place carries the engine's sequence number (R45). -/
abbrev Cen.numbered (c : Cen) : Prop := (c.current.all fun r => r.sequence == c.sequence) = true

/-- An engine without work is safe in every phase (R48). -/
theorem engineSafe_idle {s : State} (hflight : s.cen.inFlight = none) (hqueue : s.cen.queue = [])
    (hpending : s.cen.pendingCurrent = false) (hnumbered : s.cen.numbered) : EngineSafe s :=
  ⟨by simp [hqueue], fun _ => ⟨hqueue, hpending⟩, fun _ => hflight, hnumbered⟩

/-- Outside SETUP an engine at work is safe with at most four predictions waiting (R42). -/
theorem engineSafe_busy {s : State} (hphase : s.ccl.phase ≠ .setup) (hbusy : s.cen.inFlight ≠ none)
    (hlength : s.cen.queue.length ≤ Config.predictionQueueSize) (hnumbered : s.cen.numbered) : EngineSafe s :=
  ⟨hlength, fun h => absurd h hbusy, fun h => absurd h hphase, hnumbered⟩

/-- Abandoned work leaves the engine idle, whatever the phase (R48). -/
theorem engineSafe_abandoned {s t : State}
    (hcen : t.cen = { s.cen with inFlight := none, queue := [], pendingCurrent := false }) (h : EngineSafe s) :
    EngineSafe t := by
  obtain ⟨-, -, -, hnumbered⟩ := h
  exact engineSafe_idle (by rw [hcen]) (by rw [hcen]) (by rw [hcen]) (by rw [hcen]; exact hnumbered)

/-! ### The engine's own operations -/

theorem beginCurrent_cen (s : State) :
    s.beginCurrent.cen = { s.cen with inFlight := some (.current (s.snapshot [])), pendingCurrent := false } := rfl

theorem beginPrediction_cen_nil {s : State} (h : s.cen.queue = []) : s.beginPrediction.cen = s.cen := by
  simp only [beginPrediction, h]

theorem beginPrediction_cen_cons {s : State} {q : PredictionRequest} {l : List PredictionRequest} (h : s.cen.queue = q :: l) :
    s.beginPrediction.cen = { s.cen with inFlight := some (.prediction q (s.snapshot (s.movesOf q))), queue := l } := by
  simp only [beginPrediction, h]

/-- Everything the choice behind a completed computation can leave: the waiting prediction first in turn begun, the pending recompute begun, or an idle engine with nothing waiting (R43). -/
theorem chooseNext_cases (afterCurrent : Bool) (s : State) :
    (∃ q l snap, s.cen.queue = q :: l ∧ (afterCurrent = true ∨ s.cen.pendingCurrent = false)
        ∧ (s.chooseNext afterCurrent).cen = { s.cen with inFlight := some (.prediction q snap), queue := l })
    ∨ (s.cen.pendingCurrent = true ∧ (afterCurrent = true → s.cen.queue = [])
        ∧ ∃ snap, (s.chooseNext afterCurrent).cen
            = { s.cen with inFlight := some (.current snap), pendingCurrent := false })
    ∨ (s.cen.queue = [] ∧ s.cen.pendingCurrent = false
        ∧ (s.chooseNext afterCurrent).cen = { s.cen with inFlight := none }) := by
  unfold chooseNext
  extract_lets _ s₁
  split
  next h =>
    obtain ⟨hafter, hqueue⟩ := h
    obtain ⟨q, l, hql⟩ := List.exists_cons_of_ne_nil hqueue
    exact .inl ⟨q, l, _, hql, .inl hafter, beginPrediction_cen_cons hql⟩
  next hfirst =>
    split
    next hpending =>
      refine .inr (.inl ⟨hpending, fun hafter => ?_, _, beginCurrent_cen s₁⟩)
      by_contra hqueue
      exact hfirst ⟨hafter, hqueue⟩
    next hpending =>
      have hpending : s.cen.pendingCurrent = false := Bool.eq_false_iff.mpr hpending
      rcases hqueue : s.cen.queue with _ | ⟨q, l⟩
      · exact .inr (.inr ⟨rfl, hpending, hqueue ▸ beginPrediction_cen_nil (s := s₁) hqueue⟩)
      · exact .inl ⟨q, l, _, rfl, .inr hpending, beginPrediction_cen_cons hqueue⟩

/-- Outside SETUP the engine goes on safely from a completed computation (R43). -/
theorem chooseNext_engineSafe {s : State} (hphase : s.ccl.phase ≠ .setup)
    (hlength : s.cen.queue.length ≤ Config.predictionQueueSize) (hnumbered : s.cen.numbered) (afterCurrent : Bool) :
    EngineSafe (s.chooseNext afterCurrent) := by
  have hphase' : (s.chooseNext afterCurrent).ccl.phase ≠ .setup := by rwa [(chooseNext_touch afterCurrent s).ccl]
  rcases chooseNext_cases afterCurrent s with ⟨q, l, snap, hqueue, -, hcen⟩ | ⟨-, -, snap, hcen⟩ | ⟨hqueue, hpending, hcen⟩
  · refine engineSafe_busy hphase' (by simp [hcen]) ?_ (by rw [hcen]; exact hnumbered)
    rw [hcen]
    rw [hqueue, List.length_cons] at hlength
    exact (Nat.le_succ _).trans hlength
  · exact engineSafe_busy hphase' (by simp [hcen]) (by rw [hcen]; exact hlength) (by rw [hcen]; exact hnumbered)
  · exact engineSafe_idle (by rw [hcen]) (by rw [hcen]; exact hqueue) (by rw [hcen]; exact hpending) (by rw [hcen]; exact hnumbered)

theorem takesPrediction_iff (c : Cen) : c.takesPrediction = true ↔ c.queue.length < 4 := decide_eq_true_iff

/-- In an engine at work, or with a recompute pending, a prediction waits at the queue's tail (R42). -/
theorem queuePrediction_cen_waits {s : State} (h : s.cen.inFlight.isSome = true ∨ s.cen.pendingCurrent = true)
    (q : PredictionRequest) : (s.queuePrediction q).cen = { s.cen with queue := s.cen.queue ++ [q] } := by
  have hnot : ¬(s.cen.inFlight.isNone = true ∧ s.cen.pendingCurrent = false) := by
    rcases h with h | h <;> simp [h]
    intro hnone
    simp [hnone] at h
  exact congrArg State.cen (if_neg hnot)

/-- In an idle engine with nothing pending and nothing waiting it begins at once (R42). -/
theorem queuePrediction_cen_begins {s : State} (hflight : s.cen.inFlight = none) (hpending : s.cen.pendingCurrent = false)
    (hqueue : s.cen.queue = []) (q : PredictionRequest) :
    (s.queuePrediction q).cen = { s.cen with inFlight := some (.prediction q (s.snapshot (s.movesOf q))) } := by
  unfold queuePrediction
  extract_lets _ s₁
  have hqueue₁ : s₁.cen.queue = [q] := by simp [s₁, hqueue]
  rw [if_pos (show s₁.cen.inFlight.isNone = true ∧ s₁.cen.pendingCurrent = false from ⟨Option.isNone_iff_eq_none.mpr hflight, hpending⟩),
    beginPrediction_cen_cons hqueue₁, ← hqueue]
  rfl

/-- Outside SETUP a prediction that finds room is taken safely (R42). -/
theorem queuePrediction_engineSafe {s : State} (hphase : s.ccl.phase ≠ .setup) (hroom : s.cen.takesPrediction = true)
    (h : EngineSafe s) (q : PredictionRequest) : EngineSafe (s.queuePrediction q) := by
  obtain ⟨-, hidle, -, hnumbered⟩ := h
  have hphase' : (s.queuePrediction q).ccl.phase ≠ .setup := by rwa [(queuePrediction_touch q s).ccl]
  rcases hflight : s.cen.inFlight with _ | c
  · obtain ⟨hqueue, hpending⟩ := hidle hflight
    have hcen := queuePrediction_cen_begins hflight hpending hqueue q
    refine engineSafe_busy hphase' (by simp [hcen]) ?_ (by rw [hcen]; exact hnumbered)
    simp [hcen, hqueue]
  · have hcen := queuePrediction_cen_waits (.inl (by rw [hflight]; rfl)) q
    refine engineSafe_busy hphase' (by simp [hcen, hflight]) ?_ (by rw [hcen]; exact hnumbered)
    have := (takesPrediction_iff _).mp hroom
    simp [hcen, Config.predictionQueueSize]
    omega

/-! ### Steps that keep the engine's promises -/

/-- The engine's promises are kept from one state to another. -/
structure KeepsEngine (s t : State) : Prop where
  safe : EngineSafe s → EngineSafe t

namespace KeepsEngine

variable {s t u : State}

theorem refl (s : State) : KeepsEngine s s := ⟨id⟩

theorem trans (h : KeepsEngine s t) (g : KeepsEngine t u) : KeepsEngine s u := ⟨g.safe ∘ h.safe⟩

theorem ite {c : Prop} [Decidable c] (h : KeepsEngine s t) (g : KeepsEngine s u) : KeepsEngine s (if c then t else u) := by
  split <;> assumption

theorem foldl {α : Type} {f : State → α → State} (h : ∀ s a, KeepsEngine s (f s a)) (as : List α) (s : State) :
    KeepsEngine s (as.foldl f s) := by
  induction as generalizing s with
  | nil => exact refl s
  | cons a as ih => exact (h s a).trans (ih (f s a))

/-- The engine and the phase stand. -/
theorem of_same (hcen : t.cen = s.cen) (hphase : t.ccl.phase = s.ccl.phase) : KeepsEngine s t where
  safe h := by rwa [EngineSafe, hcen, hphase]

/-- An operation on other parts than the engine and the call. -/
theorem of_touches {l : List Part} (h : Touches l s t) (hcen : Part.cen ∉ l := by decide) (hccl : Part.ccl ∉ l := by decide) :
    KeepsEngine s t := of_same (h.cen hcen) (by rw [h.ccl hccl])

end KeepsEngine

/-- A recompute asked for keeps the engine's promises: discarded in SETUP, begun when idle, else left pending (R41). -/
theorem requestRecompute_keepsEngine (s : State) : KeepsEngine s s.requestRecompute where
  safe h := by
    by_cases hphase : s.ccl.phase = .setup
    · rwa [requestRecompute_setup hphase]
    obtain ⟨hlength, -, -, hnumbered⟩ := h
    have hphase' : s.requestRecompute.ccl.phase ≠ .setup := by rwa [(requestRecompute_touch s).ccl]
    by_cases hidle : s.cen.inFlight = none
    · have hcen := requestRecompute_idle hphase hidle
      exact engineSafe_busy hphase' (by simp [hcen]) (by rw [hcen]; exact hlength) (by rw [hcen]; exact hnumbered)
    · have hcen := requestRecompute_busy hphase hidle
      exact engineSafe_busy hphase' (by rw [hcen]; exact hidle) (by rw [hcen]; exact hlength) (by rw [hcen]; exact hnumbered)

/-! ### Locks, valves and pumps -/

theorem lockTank_keepsEngine (k : TankNo) (why : Lock) (s : State) : KeepsEngine s (s.lockTank k why) := by
  unfold lockTank
  extract_lets _ s₁ s₂
  have h : Touches [.tanks, .rcu] s s₂ := (touch_tanks s _).seq (log_touch ..)
  exact (KeepsEngine.of_touches (h.seq (endSteps_touch _ .locked s₂))).trans (requestRecompute_keepsEngine _)

theorem unlockTank_keepsEngine (k : TankNo) (s : State) : KeepsEngine s (s.unlockTank k) :=
  (KeepsEngine.of_touches ((setTank_touch k _ s).seq (log_touch ..))).trans (requestRecompute_keepsEngine _)

theorem failedToClose_keepsEngine (v : ValveNo) (s : State) : KeepsEngine s (s.failedToClose v) := by
  unfold failedToClose
  split
  · exact .refl s
  · exact .ite (.refl s) (lockTank_keepsEngine ..)

theorem judgeAtRest_keepsEngine (v : ValveNo) (was : Proved) (s : State) : KeepsEngine s (s.judgeAtRest v was) := by
  have h (c : ValveCause) (n : Nat) : KeepsEngine s ((s.markValve v).reportValve v c n) :=
    .of_touches ((markValve_touch v s).seq (reportValve_touch v c n _))
  unfold judgeAtRest
  refine .ite (.ite ?_ (.refl s)) (.ite ((h ..).trans (failedToClose_keepsEngine v _)) (.refl s))
  split
  · exact .refl s
  · split
    · exact .of_touches (lineupFailed_touch ..)
    · exact (h ..).trans (.of_touches (markStep_touch ..))
    · exact h ..

theorem valveFeedback_keepsEngine (v : ValveNo) (a : Bool) (s : State) : KeepsEngine s (s.valveFeedback v a) := by
  unfold valveFeedback
  extract_lets y was y₁ s₁
  have h₁ : KeepsEngine s s₁ := .of_touches (setValve_touch ..)
  have h₂ : KeepsEngine s (s₁.setValve v { y₁ with watch := .absent }) := h₁.trans (.of_touches (setValve_touch ..))
  split
  · refine .ite ?_ h₁
    split
    · exact h₂.trans (.of_touches (checkLineup_touch ..))
    · exact h₂
  · refine .ite h₁ ?_
    split
    · exact h₂.trans (.of_touches (checkClosed_touch ..))
    · exact h₂
  · exact .ite h₁ (h₁.trans (judgeAtRest_keepsEngine ..))

theorem deliverSwitch_keepsEngine (ch : ChannelNo) (a : Bool) (s : State) : KeepsEngine s (s.deliverSwitch ch a) :=
  (KeepsEngine.foldl (fun s p => .of_touches ((runFeedback_touch p a s).seq (grants_touch _))) _ s).trans
    (.foldl (fun s v => (valveFeedback_keepsEngine v a s).trans (.of_touches (grants_touch _))) _ _)

theorem debounced_keepsEngine (ch : ChannelNo) (s : State) : KeepsEngine s (s.debounced ch) := by
  have hset (r : ChannelRun) : KeepsEngine s (s.setChannel ch r) := .of_touches (setChannel_touch ..)
  unfold debounced
  split
  · exact .ite (.refl s) (.ite ((hset _).trans (deliverSwitch_keepsEngine ..))
      (.ite ((hset _).trans (.of_touches (notify_touch ..))) (hset _)))
  · exact .refl s

theorem contactChange_keepsEngine (ch : ChannelNo) (s : State) : KeepsEngine s (s.contactChange ch) :=
  .of_touches (contactChange_touch ch s)

theorem closeTimeout_keepsEngine (v : ValveNo) (s : State) : KeepsEngine s (s.closeTimeout v) := by
  unfold closeTimeout
  split
  · extract_lets holder number _ s₁ s₂
    have h : KeepsEngine s s₂ :=
      (KeepsEngine.of_touches ((setValve_touch ..).seq (reportValve_touch v .close number s₁))).trans
        (failedToClose_keepsEngine v _)
    clear_value holder
    rcases holder with _ | ⟨k, _⟩
    · exact h
    · exact h.trans (.of_touches ((addCloseFailed_touch v k s₂).seq (checkClosed_touch ..)))
  · exact .refl s

theorem scan_keepsEngine (v : Vector Sample 48) (s : State) : KeepsEngine s (s.scan v) :=
  (KeepsEngine.foldl (fun s ch => .of_touches ((sampleChannel_touch ch _ s).seq (grants_touch _))) _ s).trans
    (requestRecompute_keepsEngine _)

/-! ### Tables, pours and predictions -/

theorem writeValve_keepsEngine (x : ValveNo × ValveConfig) (s : State) : KeepsEngine s (writeValve x s) := by
  have hcfg : KeepsEngine s { s with cfg := { s.cfg with valves := s.cfg.valves.set x.1 x.2 } } := .of_same rfl rfl
  unfold writeValve
  split
  · exact hcfg
  · refine .ite hcfg (hcfg.trans ?_)
    unfold bindValve
    split
    · exact .refl _
    · exact valveFeedback_keepsEngine ..
    · exact .of_touches (setValve_touch ..)

theorem takeBounds_keepsEngine (x : TankNo × Bounds) (s : State) : KeepsEngine s (takeBounds x s) :=
  (KeepsEngine.of_touches ((touch_cfg s _).seq (boundsPassed_touch x.1 _))).trans
    ((requestRecompute_keepsEngine _).trans (.of_touches (grants_touch _)))

theorem takeBerth_keepsEngine (b : BerthLimits) (s : State) : KeepsEngine s (takeBerth b s) :=
  (KeepsEngine.of_touches ((touch_berth s _).seq (log_touch ..))).trans (requestRecompute_keepsEngine _)

theorem takeLock_keepsEngine (k : TankNo) (s : State) : KeepsEngine s (takeLock k s) :=
  .ite ((lockTank_keepsEngine k .operator s).trans (.of_touches (grants_touch _))) (.refl s)

theorem judgeUnlock_keepsEngine (k : TankNo) (s : State) : KeepsEngine s (judgeUnlock k s).1 := by
  unfold judgeUnlock
  split
  · exact .refl s
  · exact unlockTank_keepsEngine k s
  · split
    · exact .refl s
    · exact unlockTank_keepsEngine k s

theorem beginPour_keepsEngine (l : Loader) (pour : Nat) (hold : HoldNo) (s : State) : KeepsEngine s (s.beginPour l pour hold) := by
  unfold beginPour
  extract_lets permit slot s₁ s₂ s₃ s₄ s₅
  have h₂ : Touches [.ptr] s₁ s₂ := by
    unfold s₂
    split
    · exact .refl _ s₁
    · exact touch_ptr s₁ _
  have h₄ : Touches [.pmu, .lsl, .rcu, .lnk] s₃ s₄ := .ite (.refl _ s₃) (permitEvent_touch ..)
  have h₅ : Touches [.tsq, .lnk, .pva] s₄ s₅ := .ite (.refl _ s₄) (takeEdge_touch ..)
  have h : KeepsEngine s s₅ := .of_touches ((touch_ptr s _).seq (h₂.seq ((log_touch ..).seq (h₄.seq h₅))))
  exact h.trans ((requestRecompute_keepsEngine _).trans (.of_touches (grants_touch _)))

theorem judgePourBegin_keepsEngine (x : Loader × Nat × Option HoldNo) (s : State) : KeepsEngine s (judgePourBegin x s).1 := by
  obtain ⟨l, pour, named⟩ := x
  simp only [judgePourBegin]
  split
  · exact .refl s
  · split
    · exact .refl s
    · split
      · exact .refl s
      · exact beginPour_keepsEngine ..

theorem judgePourProgress_keepsEngine (a : Loader × Nat) (s : State) : KeepsEngine s (judgePourProgress a s).1 := by
  unfold judgePourProgress
  split
  · exact .refl s
  · exact (KeepsEngine.of_touches (creditPour_touch ..)).trans (requestRecompute_keepsEngine _)

theorem endPour_keepsEngine (l : Loader) (x : Pour) (final : Nat) (s : State) : KeepsEngine s (s.endPour l x final).1 := by
  unfold endPour
  extract_lets checked s₁ mass s₂ code s₃ s₄ s₅
  have h₂ : Touches [.ptr, .choices, .pmu, .lsl, .rcu, .lnk] s₁ s₂ := by
    simp only [s₂]
    generalize checked = result
    rcases result with _ | ⟨e, r⟩
    · exact .refl _ s₁
    · exact (touch_ptr s₁ _).seq (handPace_touch ..)
  have h₄ : Touches [.tsq, .lnk, .pva] s₃ s₄ := .ite (.refl _ s₃) (takeEdge_touch ..)
  have h : KeepsEngine s s₅ := .of_touches ((touch_ptr s _).seq (h₂.seq ((log_touch ..).seq (h₄.seq (notify_touch ..)))))
  exact h.trans ((requestRecompute_keepsEngine _).trans (.of_touches (grants_touch _)))

theorem judgePourEnd_keepsEngine (a : Loader × Nat) (s : State) : KeepsEngine s (judgePourEnd a s).1 := by
  unfold judgePourEnd
  split
  · exact .refl s
  · exact endPour_keepsEngine ..

theorem judgePredict_keepsEngine (tag : Tag) (body : List Byte) (r : ReplyNo) (s : State) :
    KeepsEngine s (judgePredict tag body r s).1 := by
  unfold judgePredict
  split
  · exact .refl s
  · split
    · exact .refl s
    next hphase =>
      split
      · exact .refl s
      · split
        next hroom => exact ⟨fun h => queuePrediction_engineSafe hphase hroom h _⟩
        next => exact .refl s

/-- A step passes the checks only with room in the prediction queue (R90). -/
theorem takesPrediction_of_stepCheck {r : StepRequest} {s : State} (h : s.stepCheck r = none) :
    s.cen.takesPrediction = true := by
  unfold stepCheck at h
  extract_lets tanks target at h
  split_ifs at h
  simpa using ‹¬(!s.cen.takesPrediction) = true›

theorem reserveStep_engineSafe {s : State} (hphase : s.ccl.phase ≠ .setup) (hroom : s.cen.takesPrediction = true)
    (h : EngineSafe s) (r : StepRequest) (k : SlotNo) (reply : ReplyNo) : EngineSafe (s.reserveStep r k reply) := by
  unfold reserveStep
  extract_lets n _ s₁
  exact queuePrediction_engineSafe (s := s₁) hphase hroom h _

theorem judgeStepAdd_keepsEngine (body : List Byte) (r : ReplyNo) (s : State) : KeepsEngine s (judgeStepAdd body r s).1 := by
  unfold judgeStepAdd
  split
  · exact .refl s
  · split
    · exact .refl s
    next hphase =>
      split
      · exact .refl s
      · split
        · exact .refl s
        next hcheck _ => exact ⟨fun h => reserveStep_engineSafe hphase (takesPrediction_of_stepCheck hcheck) h ..⟩
        next => exact .refl s

/-! ### The phases of a call -/

theorem enterPhase_keepsEngine {d : Phase} (hd : d ≠ .setup) (s : State) : KeepsEngine s (s.enterPhase d) where
  safe h := by
    obtain ⟨hlength, hidle, -, hnumbered⟩ := h
    rw [EngineSafe, (enterPhase_touch d s).cen, enterPhase_ccl]
    exact ⟨hlength, hidle, fun he => absurd he hd, hnumbered⟩

theorem zeroCallTime_keepsEngine (s : State) : KeepsEngine s s.zeroCallTime := .of_same rfl rfl

theorem moveReady_keepsEngine (s : State) : KeepsEngine s s.moveReady :=
  (KeepsEngine.of_touches (updateTanks_touch s)).trans ((zeroCallTime_keepsEngine _).trans
    ((enterPhase_keepsEngine Phase.noConfusion _).trans (requestRecompute_keepsEngine _)))

theorem moveLoading_keepsEngine (s : State) : KeepsEngine s s.moveLoading :=
  (KeepsEngine.of_touches ((touch_ptr s _).seq (touch_rcu _ _))).trans
    ((enterPhase_keepsEngine Phase.noConfusion _).trans (requestRecompute_keepsEngine _))

theorem moveFinal_keepsEngine (s : State) : KeepsEngine s s.moveFinal :=
  (enterPhase_keepsEngine Phase.noConfusion s).trans (requestRecompute_keepsEngine _)

theorem judgePhaseSet_keepsEngine (dest : Phase) (s : State) : KeepsEngine s (judgePhaseSet dest s).1 := by
  unfold judgePhaseSet
  split
  · split
    · exact .refl s
    · rw [moved_fst]
      exact moveReady_keepsEngine s
  · split
    · exact ⟨engineSafe_abandoned (moveBack_cen s)⟩
    · exact .refl s
  · exact moveLoading_keepsEngine s
  · split
    · exact moveFinal_keepsEngine s
    · exact .refl s
  · split
    · exact ⟨engineSafe_abandoned (moveNewCall_cen s)⟩
    · exact .refl s
  · exact .refl s

theorem judgeCallSet_keepsEngine (body : List Byte) (s : State) : KeepsEngine s (judgeCallSet body s).1 := by
  unfold judgeCallSet
  split
  · exact .refl s
  · split
    · exact .refl s
    · split
      · exact .refl s
      · exact .of_same rfl rfl

/-! ### RESTART (R47, R217) -/

/-- The engine with its predictions withdrawn: a recompute in flight goes on (R47). -/
def Cen.withdrawn (c : Cen) : Cen :=
  { c with
    inFlight := match c.inFlight with
      | some (.current snap) => some (.current snap)
      | _ => none
    queue := [] }

/-- The engine withdraws its predictions (R47). -/
def State.withdrawPredictions (s : State) : State := { s with cen := s.cen.withdrawn }

/-- At RESTART the predictions are aborted, then withdrawn, and a recompute is requested (R47). -/
theorem restartEngine_eq (s : State) :
    s.restartEngine = (s.abortAll .restarted).withdrawPredictions.requestRecompute := rfl

/-- Withdrawing its predictions leaves the engine safe once it has a recompute requested: it may idle over a pending one till then (R41, R47). -/
theorem withdrawn_engineSafe {s : State} (h : EngineSafe s) : EngineSafe s.withdrawPredictions.requestRecompute := by
  obtain ⟨-, hidle, hsetup, hnumbered⟩ := h
  by_cases hphase : s.ccl.phase = .setup
  · rw [requestRecompute_setup (s := s.withdrawPredictions) hphase]
    have hflight := hsetup hphase
    exact engineSafe_idle (by simp [withdrawPredictions, Cen.withdrawn, hflight]) rfl (hidle hflight).2 hnumbered
  · have hphase' : s.withdrawPredictions.requestRecompute.ccl.phase ≠ .setup := by
      rw [(requestRecompute_touch _).ccl]
      exact hphase
    by_cases hflight : s.withdrawPredictions.cen.inFlight = none
    · have hcen := requestRecompute_idle (s := s.withdrawPredictions) hphase hflight
      exact engineSafe_busy hphase' (by simp [hcen]) (by rw [hcen]; exact Nat.zero_le _) (by rw [hcen]; exact hnumbered)
    · have hcen := requestRecompute_busy (s := s.withdrawPredictions) hphase hflight
      exact engineSafe_busy hphase' (by rw [hcen]; exact hflight) (by rw [hcen]; exact Nat.zero_le _)
        (by rw [hcen]; exact hnumbered)

theorem restartEngine_keepsEngine (s : State) : KeepsEngine s s.restartEngine :=
  (KeepsEngine.of_touches (abortAll_touch .restarted s)).trans ⟨withdrawn_engineSafe⟩

theorem restartPermit_touch (s : State) : Touches [.lnk, .pmu, .rcu] s s.restartPermit :=
  ((withdraw_touch ..).seq ((touch_pmu _ _).seq (evalPermit_touch ..))).mono

theorem restartRecords_touch (s : State) : Touches [.rcu] s s.restartRecords := (touch_rcu s _).trans (log_touch ..)

theorem restart_keepsEngine (s : State) : KeepsEngine s s.restart := by
  unfold restart
  extract_lets s₁ s₂ s₃
  have h₂ : KeepsEngine s s₂ := .of_touches ((restartPlant_touch s).seq ((restartSteps_touch _).seq (touch_pva s₁ _)))
  have h₃ : KeepsEngine s₂ s₃ := (restartEngine_keepsEngine s₂).trans
    (.of_touches ((restartPermit_touch _).seq (restartRecords_touch _)))
  exact h₂.trans (h₃.trans (.of_same rfl rfl))

/-! ### Completions and power -/

/-- A computation is in flight outside SETUP alone (R48). -/
theorem phase_of_flight {s : State} {c : Computation} (h : EngineSafe s) (hflight : s.cen.inFlight = some c) :
    s.ccl.phase ≠ .setup := by
  obtain ⟨-, -, hsetup, -⟩ := h
  exact fun hphase => by simp [hsetup hphase] at hflight

theorem putRecord_cen (r : ConditionRecord) (s : State) :
    (s.putRecord r).cen = { s.cen with current := some r, sequence := r.sequence } := (deliver_touch ..).cen

theorem completeCurrent_keepsEngine (s : State) : KeepsEngine s s.completeCurrent where
  safe h := by
    unfold completeCurrent
    split
    next snap hflight =>
      have hcen := putRecord_cen (s.completedRecord snap) s
      have hphase := phase_of_flight h hflight
      obtain ⟨hlength, -, -, -⟩ := h
      exact chooseNext_engineSafe (by rwa [(putRecord_touch ..).ccl]) (by rw [hcen]; exact hlength)
        (by rw [hcen]; exact beq_self_eq_true _) true
    next => exact h

theorem completePrediction_keepsEngine (s : State) : KeepsEngine s s.completePrediction where
  safe h := by
    unfold completePrediction
    split
    next q snap hflight =>
      have htouch := deliverPrediction_touch q (q.record snap) s
      have hphase := phase_of_flight h hflight
      obtain ⟨hlength, -, -, hnumbered⟩ := h
      exact (KeepsEngine.of_touches (grants_touch _)).safe (chooseNext_engineSafe (by rwa [htouch.ccl])
        (by rwa [htouch.cen]) (by rwa [htouch.cen]) false)
    next => exact h

theorem storeDone_keepsEngine (agrees : Bool) (s : State) : KeepsEngine s (s.storeDone agrees) := by
  unfold storeDone
  split
  · exact .refl s
  · extract_lets _ _ s₁
    refine KeepsEngine.trans (t := s₁) ?_ (.of_touches (notify_touch ..))
    unfold s₁
    split <;> exact .of_same rfl rfl

/-- The engine starts with nothing to do (R216). -/
theorem start_engineSafe (config report : StoreErrors) (s : State) : EngineSafe (s.start config report) := by
  unfold start
  extract_lets store
  exact (KeepsEngine.of_touches (emergencyAtPowerOn_touch _)).safe (engineSafe_idle rfl rfl rfl rfl)

end Sys2Proof.Machine
end

section
/-! PROOFS. The condition engine's promises, command by command and over every step (R40 to R48). -/

namespace Sys2Proof.Machine

/- One proof at a time: side by side they take a thread each. -/
set_option Elab.async false

open State

/-! ### A request served, and an event -/

theorem event_keepsEngine {f : State → State} {s : State} (h : KeepsEngine s (f s)) : KeepsEngine s (s.event f) :=
  .ite (h.trans (.of_touches (transmit_touch _))) (.refl s)

theorem serve_keepsEngine {judge : ReplyNo → State → Judged} {kind : Byte} {tag : Tag} {s : State}
    (hjudge : ∀ r u, KeepsEngine u (judge r u).1) : KeepsEngine s (s.serve kind tag judge) := by
  refine event_keepsEngine ?_
  extract_lets _ s₁
  have hhunt : KeepsEngine s s₁ := .of_touches (touch_lnk s _)
  split
  · exact hhunt
  next r _ =>
    have hopen : KeepsEngine s (s₁.reserve r kind tag) := hhunt.trans (.of_touches (reserve_touch ..))
    have hjudged := hopen.trans (hjudge r _)
    generalize judge r (s₁.reserve r kind tag) = j at hjudged
    obtain ⟨t, _ | a⟩ := j
    · exact hjudged
    · exact hjudged.trans (.of_touches (reply_touch ..))

section Judged
variable {α : Type} {lengthOk : Bool} {operands : Option α}

theorem tableWrite_keepsEngine {write : α → State → State} (hkeeps : ∀ x s, KeepsEngine s (write x s)) (s : State) :
    KeepsEngine s (tableWrite lengthOk operands write s).1 := by
  unfold tableWrite
  split
  · exact .refl s
  · split
    · exact .refl s
    · split
      · exact .refl s
      · exact hkeeps _ s

theorem anyPhase_keepsEngine {act : α → State → Judged} (hkeeps : ∀ x s, KeepsEngine s (act x s).1) (s : State) :
    KeepsEngine s (anyPhase lengthOk operands act s).1 := by
  unfold anyPhase
  split
  · exact .refl s
  · split
    · exact .refl s
    · exact hkeeps _ s

theorem pourRequest_keepsEngine {act : α → State → Judged} (hkeeps : ∀ x s, KeepsEngine s (act x s).1) (s : State) :
    KeepsEngine s (pourRequest lengthOk operands act s).1 := by
  unfold pourRequest
  split
  · exact .refl s
  · split
    · exact .refl s
    · split
      · exact .refl s
      · exact hkeeps _ s

end Judged

/-! ### Every command -/

theorem exec_keepsEngine_of_writesTables {c : Instr} {s t : State} (hwrites : writesTables c = true) (h : exec c s = .next t) :
    KeepsEngine s t := by
  cases c <;> cases hwrites <;> cases h
  case tankSet => exact serve_keepsEngine fun _ => tableWrite_keepsEngine fun x s => .of_touches (writeTank_touch x s)
  case channelSet => exact serve_keepsEngine fun _ => tableWrite_keepsEngine fun x s => .of_touches (writeChannel_touch x s)
  case pumpSet => exact serve_keepsEngine fun _ => tableWrite_keepsEngine fun x s => .of_touches (writePump_touch x s)
  case valveSet => exact serve_keepsEngine fun _ => tableWrite_keepsEngine writeValve_keepsEngine
  case stopSet => exact serve_keepsEngine fun _ => tableWrite_keepsEngine fun x s => .of_touches (writeStop_touch x s)
  all_goals exact serve_keepsEngine fun _ => tableWrite_keepsEngine fun _ s => .of_touches (touch_cfg s _)

theorem exec_keepsEngine_of_writesNone {c : Instr} {s t : State} (hrequest : (requestOf c).isSome = true)
    (hwrites : writesTables c = false) (h : exec c s = .next t) : KeepsEngine s t := by
  cases c <;> cases hwrites <;> cases hrequest <;> cases h
  case boundsSet => exact serve_keepsEngine fun _ => anyPhase_keepsEngine takeBounds_keepsEngine
  case berthSet => exact serve_keepsEngine fun _ => anyPhase_keepsEngine takeBerth_keepsEngine
  case tankLock => exact serve_keepsEngine fun _ => anyPhase_keepsEngine takeLock_keepsEngine
  case tankUnlock => exact serve_keepsEngine fun _ => anyPhase_keepsEngine judgeUnlock_keepsEngine
  case conditionGet => exact serve_keepsEngine fun _ => anyPhase_keepsEngine fun p s => .of_touches (judgeConditionGet_touch p s)
  case stopAck => exact serve_keepsEngine fun _ => anyPhase_keepsEngine fun _ s => .of_touches (judgeStopAck_touch s)
  case alarmAck => exact serve_keepsEngine fun _ => anyPhase_keepsEngine fun _ s => .of_touches (touch_lsl s _)
  case alarmSet => exact serve_keepsEngine fun _ => anyPhase_keepsEngine fun _ _ => .of_same rfl rfl
  case stepAdd => exact serve_keepsEngine (judgeStepAdd_keepsEngine _)
  case stepCancel => exact serve_keepsEngine fun _ => anyPhase_keepsEngine fun n s => .of_touches (judgeStepCancel_touch n s)
  case stepPin => exact serve_keepsEngine fun _ => anyPhase_keepsEngine fun n s => .of_touches (judgeStepPin_touch n s)
  case faultClear => exact serve_keepsEngine fun _ => anyPhase_keepsEngine fun x s => .of_touches (judgeFaultClear_touch x s)
  case planLoad => exact serve_keepsEngine fun _ s => .of_touches (judgePlanLoad_touch _ s)
  case pourBegin => exact serve_keepsEngine fun _ => pourRequest_keepsEngine judgePourBegin_keepsEngine
  case pourProgress => exact serve_keepsEngine fun _ => pourRequest_keepsEngine judgePourProgress_keepsEngine
  case pourEnd => exact serve_keepsEngine fun _ => pourRequest_keepsEngine judgePourEnd_keepsEngine
  case predict => exact serve_keepsEngine (judgePredict_keepsEngine _ _)
  case permitSet => exact serve_keepsEngine fun _ => anyPhase_keepsEngine fun c s => .of_touches (judgePermitSet_touch c s)
  case challenge => exact serve_keepsEngine fun _ => anyPhase_keepsEngine fun _ s => .of_touches (takeChallenge_touch s)
  case answer => exact serve_keepsEngine fun _ => anyPhase_keepsEngine fun n s => .of_touches (judgeAnswerRequest_touch n s)
  case permitStatus => exact serve_keepsEngine fun _ => anyPhase_keepsEngine fun _ s => .of_touches (touch_pmu s _)
  case reportCompose => exact serve_keepsEngine fun _ => anyPhase_keepsEngine fun i s => .of_touches (judgeReportCompose_touch i s)
  case clockSet => exact serve_keepsEngine fun _ => anyPhase_keepsEngine fun _ _ => .of_same rfl rfl
  case callSet => exact serve_keepsEngine fun _ => judgeCallSet_keepsEngine _
  case noticeSelect => exact serve_keepsEngine fun _ => anyPhase_keepsEngine fun _ s => .of_touches (touch_lnk s _)
  case phaseSet => exact serve_keepsEngine fun _ => anyPhase_keepsEngine judgePhaseSet_keepsEngine
  case storeWrite => exact serve_keepsEngine fun _ => anyPhase_keepsEngine fun i s => .of_touches (judgeStoreWrite_touch i s)
  case restart => exact serve_keepsEngine fun _ => anyPhase_keepsEngine fun _ => restart_keepsEngine
  all_goals exact serve_keepsEngine fun _ => anyPhase_keepsEngine fun _ => .refl

theorem exec_engineSafe_of_event {c : Instr} {s t : State} (hevent : (requestOf c).isSome = false) (h : exec c s = .next t)
    (hs : EngineSafe s) : EngineSafe t := by
  have hrun {f : State → State} (hf : KeepsEngine s (f s)) : EngineSafe (s.event f) := (event_keepsEngine hf).safe hs
  have hpins {f : State → State} (x : Pins) (hf : ∀ u, KeepsEngine u (f u)) : EngineSafe (State.event f { s with pins := x }) :=
    ((KeepsEngine.of_touches (touch_pins s x)).trans (event_keepsEngine (hf _))).safe hs
  cases c <;> cases hevent
  case powerOn => cases h; exact start_engineSafe ..
  case powerLoss =>
    cases h
    show EngineSafe (if s.powered then _ else s)
    split
    · exact hs
    · exact hs
  case frameDiscarded =>
    cases h
    exact (KeepsEngine.ite (event_keepsEngine (.of_touches (touch_lnk s _))) (.refl s)).safe hs
  case rxGapTimeout => cases h; exact hrun (.of_touches (touch_lnk s _))
  case rxFramingError => cases h; exact hrun (.of_touches (touch_lnk s _))
  case lengthByteAbove240 =>
    cases h
    exact (KeepsEngine.ite (event_keepsEngine (.of_touches (touch_lnk s _))) (.refl s)).safe hs
  case unknownKindRequest =>
    cases h
    exact (KeepsEngine.ite (.refl s) (serve_keepsEngine fun _ u => .refl u)).safe hs
  case txFrameDone => cases h; exact hrun (.of_touches (frameSent_touch s))
  case scanEnd samples =>
    cases h
    exact hrun (.ite ((scan_keepsEngine samples s).trans (.of_touches (nextPeriod_touch _))) (.refl s))
  case switchInputChange ch closed =>
    by_cases hc : s.pins.contacts[ch] = closed
    · simp only [exec, execSwitchInputChange, if_pos hc] at h; cases h; exact hs
    · simp only [exec, execSwitchInputChange, if_neg hc] at h; cases h
      exact hpins _ fun u => contactChange_keepsEngine ch u
  case switchDebounceExpiry ch => cases h; exact hrun (debounced_keepsEngine ch s)
  case flowPulse ch => cases h; exact hrun (.of_touches (countPulse_touch ch s))
  case emergencyStopActivation =>
    by_cases hc : s.pins.emergency
    · simp only [exec, execEmergencyStopActivation, if_pos hc] at h; cases h; exact hs
    · simp only [exec, execEmergencyStopActivation, if_neg hc] at h; cases h
      exact hpins _ fun u => .of_touches (emergencyOn_touch u)
  case emergencyStopRelease =>
    by_cases hc : s.pins.emergency
    · simp only [exec, execEmergencyStopRelease, if_pos hc] at h; cases h
      exact hpins _ fun u => .of_touches ((emergencyReport_touch false u).seq (log_touch ..))
    · simp only [exec, execEmergencyStopRelease, if_neg hc] at h; cases h; exact hs
  case valveOpenTimeout v => cases h; exact hrun (.of_touches ((openTimeout_touch v s).seq (grants_touch _)))
  case valveCloseTimeout v => cases h; exact hrun ((closeTimeout_keepsEngine v s).trans (.of_touches (grants_touch _)))
  case rampGearExpiry p => cases h; exact hrun (.of_touches (rampExpiry_touch p s))
  case windDownGearExpiry p => cases h; exact hrun (.of_touches ((windDownExpiry_touch p s).seq (grants_touch _)))
  case pumpStartTimeout p => cases h; exact hrun (.of_touches ((startTimeout_touch p s).seq (grants_touch _)))
  case pumpStopTimeout p => cases h; exact hrun (.of_touches ((stopTimeout_touch p s).seq (grants_touch _)))
  case noFlowExpiry p => cases h; exact hrun (.of_touches (flowTimeout_touch p s))
  case alarmPulseExpiry => cases h; exact hrun (.of_touches (pulseEnd_touch s))
  case answerTimeout => cases h; exact hrun (.of_touches (answerExpiry_touch s))
  case challengeTimeout => cases h; exact hrun (.of_touches (challengeExpiry_touch s))
  case challengeWindowOpens => cases h; exact hrun (.of_touches (windowOpens_touch s))
  case currentRecomputeComplete => cases h; exact hrun (completeCurrent_keepsEngine s)
  case predictionComplete => cases h; exact hrun (completePrediction_keepsEngine s)
  case reportCompositionComplete => cases h; exact hrun (.of_touches (completeComposition_touch s))
  case storeWriteComplete agrees => cases h; exact hrun (storeDone_keepsEngine agrees s)
  case clockSecondAdvance => cases h; exact hrun (.of_same rfl rfl)

theorem exec_engineSafe {c : Instr} {s t : State} (h : exec c s = .next t) (hs : EngineSafe s) : EngineSafe t := by
  cases hrequest : (requestOf c).isSome with
  | false => exact exec_engineSafe_of_event hrequest h hs
  | true =>
    cases hwrites : writesTables c with
    | false => exact (exec_keepsEngine_of_writesNone hrequest hwrites h).safe hs
    | true => exact (exec_keepsEngine_of_writesTables hwrites h).safe hs

theorem tick_keepsEngine (s : State) : KeepsEngine s s.tick := by
  rcases tick_cases s with ⟨c, l, -, -, e⟩ | ⟨-, -, -, e⟩ | ⟨-, e⟩ <;> rw [e] <;> exact .of_same rfl rfl

end Sys2Proof.Machine

namespace Sys2Proof

open Machine

/-- Settles O9: each command keeps the engine from idling over work and from working in SETUP, and the clock leaves it alone. -/
theorem engineKept : Obligations.EngineKept := by
  intro s t hs h
  unfold step at h
  split at h
  · cases h
    exact (tick_keepsEngine s).safe hs
  next c rest _ => exact exec_engineSafe h ((KeepsEngine.of_touches (touch_pending s rest)).safe hs)

end Sys2Proof
end

section
/-! PROOFS. The records of the condition engine (R51, R54 to R56, R58 to R61): each stage's result within its bounds, and the record formed of them. -/

namespace Sys2Proof.Machine

/- One proof at a time: side by side they take a thread each. -/
set_option Elab.async false

/-! ### Clamps, usages and the greatest of them (R54, R56 to R59) -/

theorem le_clampInt {lo hi : Int} (h : lo ≤ hi) (x : Int) : lo ≤ clampInt lo hi x := by
  unfold clampInt
  split
  · exact le_rfl
  · split <;> omega

theorem clampInt_le {lo hi : Int} (h : lo ≤ hi) (x : Int) : clampInt lo hi x ≤ hi := by
  unfold clampInt
  split
  · exact h
  · split <;> omega

theorem usage_le (x limit : Nat) : usage x limit ≤ 9999 := by
  unfold usage
  split
  · exact Nat.zero_le _
  · exact Nat.min_le_left ..

theorem bendingUsage_le (bm : Int) (st : Station) : bendingUsage bm st ≤ 9999 := by
  unfold bendingUsage
  split <;> exact usage_le ..

theorem trimUsage_le (ship : ShipFigures) (t : Int) : trimUsage ship t ≤ 9999 := by
  unfold trimUsage
  split
  · exact usage_le ..
  · split
    · exact usage_le ..
    · exact Nat.zero_le _

theorem worstOf_usage_le {top : Nat} {l : List Nat} (h : ∀ u ∈ l, u ≤ top) (j : Nat) : (worstOf j l).usage ≤ top := by
  induction l generalizing j with
  | nil => exact Nat.zero_le _
  | cons u l ih =>
    unfold worstOf
    split
    · exact h u List.mem_cons_self
    · exact ih (fun v hv => h v (List.mem_cons_of_mem u hv)) (j + 1)

theorem greatest_le {top : Nat} {l : List Nat} (h : ∀ u ∈ l, u ≤ top) : greatest l ≤ top :=
  List.foldlRecOn l max (motive := (· ≤ top)) (Nat.zero_le top) fun _ hb u hu => Nat.max_le.mpr ⟨hb, h u hu⟩

/-! ### The residual of the buoyancies (R55) -/

theorem argMax_lt {l : List Nat} (h : l ≠ []) : argMax l < l.length := by
  induction l with
  | nil => exact absurd rfl h
  | cons k l ih =>
    unfold argMax
    split
    · exact Nat.zero_lt_succ _
    next hnot =>
      have hne : l ≠ [] := by
        rintro rfl
        simp at hnot
      exact Nat.succ_lt_succ (ih hne)

/-- Raising one entry of a list raises its sum by as much. -/
theorem sum_set_add {l : List Int} {i : Nat} (h : i < l.length) (d : Int) :
    (l.set i (l.getD i 0 + d)).sum = l.sum + d := by
  induction l generalizing i with
  | nil => exact absurd h (Nat.not_lt_zero i)
  | cons a l ih =>
    cases i with
    | zero => simp; ring
    | succ i =>
      have := ih (Nat.lt_of_succ_lt_succ h)
      simp only [List.set_cons_succ, List.sum_cons, List.getD_cons_succ]
      omega

section Buoyancies
variable {ks : List Nat} {drafts : List Int} (hlength : ks.length = drafts.length)
include hlength

theorem buoyancies_length (w : Int) : (buoyancies ks drafts w).length = ks.length := by
  simp [buoyancies, hlength]

/-- The residual makes the buoyancies add up to the displacement, whatever the drafts (R55). -/
theorem sum_buoyancies (hne : ks ≠ []) (w : Int) : (buoyancies ks drafts w).sum = w := by
  unfold buoyancies
  extract_lets base at_
  have hin : at_ < base.length := by
    simpa [base, ← hlength] using argMax_lt hne
  rw [sum_set_add hin]
  omega

end Buoyancies

/-! ### Bands (R66) -/

/-- The higher of two bands is one of them, and neither is above it. -/
theorem band_max_spec (a b : Band) :
    (a.max b = a ∨ a.max b = b) ∧ a.above (a.max b) = false ∧ b.above (a.max b) = false := by
  cases a <;> cases b <;> decide

/-- What is not above a band is not above one that this band is not above. -/
theorem above_false_trans {a b c : Band} (hab : a.above b = false) (hbc : b.above c = false) : a.above c = false := by
  simp only [Band.above, decide_eq_false_iff_not] at hab hbc ⊢
  omega

/-- The highest of some bands, from a band on: none of them is above it, and it is that band or one of them. -/
theorem foldl_band_max (l : List Band) (a : Band) :
    (a.above (l.foldl Band.max a) = false ∧ ∀ b ∈ l, b.above (l.foldl Band.max a) = false)
      ∧ (l.foldl Band.max a = a ∨ l.foldl Band.max a ∈ l) := by
  induction l generalizing a with
  | nil => exact ⟨⟨by simp [Band.above], fun b hb => nomatch hb⟩, .inl rfl⟩
  | cons b l ih =>
    obtain ⟨⟨hstart, hrest⟩, hone⟩ := ih (a.max b)
    obtain ⟨heither, ha, hb⟩ := band_max_spec a b
    refine ⟨⟨above_false_trans ha hstart, fun c hc => ?_⟩, ?_⟩
    · rcases List.mem_cons.mp hc with rfl | hc
      · exact above_false_trans hb hstart
      · exact hrest c hc
    · rcases hone with h | h
      · rcases heither with e | e
        · exact .inl (h.trans e)
        · exact .inr (List.mem_cons.mpr (.inl (h.trans e)))
      · exact .inr (List.mem_cons_of_mem b h)

/-- No class band is above the overall band, which is CLEAR or one of them (R66). -/
theorem overallBand_spec (v : Vector Band 7) :
    (∀ c : Fin 7, v[c].above (overallBand v) = false) ∧ (overallBand v = .clear ∨ overallBand v ∈ v.toList) := by
  obtain ⟨⟨-, hall⟩, hone⟩ := foldl_band_max v.toList .clear
  exact ⟨fun c => hall v[c] (by simp), hone⟩

/-! ### The stages of a computation, by name -/

section Stages
variable (snap : Snapshot) (m : Masses)

/-- The segment weights of a computation (R51). -/
def Snapshot.weights : List Nat := segmentWeights snap.segments.toList (tankItems snap m ++ holdItems snap m)
/-- Its displacement (R51). -/
def Snapshot.displaced : Nat := cappedDisplacement (snap.weights m).sum
/-- Its immersion factors (R4). -/
def Snapshot.immersions : List Nat := snap.segments.toList.map (·.immersion)
/-- Its sums of the hull (R52). -/
def Snapshot.sums : HullSums := hullSums snap.immersions (snap.weights m)
/-- Its drafts and trim before clamping (R53). -/
def Snapshot.unclamped : Afloat :=
  solveEquilibrium ((snap.sums m).p (snap.displaced m)) ((snap.sums m).q (snap.displaced m)) (snap.sums m).determinant
/-- Its buoyancies (R55). -/
def Snapshot.buoyant : List Int := buoyancies snap.immersions (snap.unclamped m).clamped.drafts (snap.displaced m)
/-- Its net loads (R56). -/
def Snapshot.nets : List Int := List.zipWith (fun (w : Nat) b => (w : Int) - b) (snap.weights m) (snap.buoyant m)
/-- Its shear forces (R56). -/
def Snapshot.shears : List Int := (((List.range 19).map (· + 1)).map (shearForce (snap.nets m))).map clampLoad
/-- Its bending moments (R56). -/
def Snapshot.bendings : List Int :=
  (((List.range 19).map (· + 1)).map (bendingMoment snap.ship.ls (snap.nets m))).map clampLoad
/-- Its shear usages (R58). -/
def Snapshot.shearUsages : List Nat := List.zipWith shearUsage (snap.shears m) snap.stations.toList
/-- Its bending usages (R58). -/
def Snapshot.bendingUsages : List Nat := List.zipWith bendingUsage (snap.bendings m) snap.stations.toList

theorem weights_length : (snap.weights m).length = 20 := by simp [Snapshot.weights, segmentWeights]

theorem immersions_length : snap.immersions.length = 20 := by simp [Snapshot.immersions]

theorem drafts_length : (snap.unclamped m).clamped.drafts.length = 20 := by
  simp [Snapshot.unclamped, solveEquilibrium, Afloat.clamped, levers]

theorem buoyant_length : (snap.buoyant m).length = 20 :=
  (buoyancies_length ((immersions_length snap).trans (drafts_length snap m).symm) _).trans (immersions_length snap)

/-- The segment buoyancies add up to the displacement (R55). -/
theorem sum_buoyant : (snap.buoyant m).sum = snap.displaced m := by
  refine sum_buoyancies ((immersions_length snap).trans (drafts_length snap m).symm) (fun h => ?_) _
  have := immersions_length snap
  rw [h] at this
  exact nomatch this

theorem shears_length : (snap.shears m).length = 19 := by simp [Snapshot.shears]

theorem bendings_length : (snap.bendings m).length = 19 := by simp [Snapshot.bendings]

theorem shearUsages_length : (snap.shearUsages m).length = 19 := by simp [Snapshot.shearUsages, shears_length]

theorem bendingUsages_length : (snap.bendingUsages m).length = 19 := by simp [Snapshot.bendingUsages, bendings_length]

theorem shears_bounded : ∀ x ∈ snap.shears m, -2000000000 ≤ x ∧ x ≤ 2000000000 := by
  intro x hx
  obtain ⟨raw, -, rfl⟩ := List.mem_map.mp hx
  exact ⟨le_clampInt (by decide) raw, clampInt_le (by decide) raw⟩

/-- What every pairing gives, every entry of two lists paired has. -/
theorem forall_mem_zipWith {α β γ : Type} {f : α → β → γ} {p : γ → Prop} {l : List α} {l' : List β} (h : ∀ a b, p (f a b)) :
    ∀ x ∈ List.zipWith f l l', p x := by
  intro x hx
  obtain ⟨i, hi, rfl⟩ := List.mem_iff_getElem.mp hx
  rw [List.getElem_zipWith]
  exact h _ _

theorem shearUsages_le : ∀ u ∈ snap.shearUsages m, u ≤ 9999 := forall_mem_zipWith fun _ _ => usage_le ..

theorem bendingUsages_le : ∀ u ∈ snap.bendingUsages m, u ≤ 9999 := forall_mem_zipWith bendingUsage_le

end Stages

/-! ### The record formed of the stages (R60, R61) -/

section Record
variable (snap : Snapshot) (predicted : Bool) (sequence : Nat) (m : Masses)

theorem compute_displacement : (snap.compute predicted sequence m).displacement = snap.displaced m := rfl

theorem compute_segments : (snap.compute predicted sequence m).segments =
    List.zipWith (fun (w : Nat) (x : Int × Int) => ⟨w, x.1.toNat, x.2⟩) (snap.weights m)
      ((snap.unclamped m).clamped.drafts.zip (snap.buoyant m)) := rfl

theorem compute_stations : (snap.compute predicted sequence m).stations =
    List.zipWith (fun (x : Int × Int) (y : Nat × Nat) => ⟨x.1, x.2, y.1, y.2⟩) ((snap.shears m).zip (snap.bendings m))
      ((snap.shearUsages m).zip (snap.bendingUsages m)) := rfl

theorem compute_segments_length : (snap.compute predicted sequence m).segments.length = 20 := by
  simp [compute_segments, weights_length, drafts_length, buoyant_length]

theorem compute_stations_length : (snap.compute predicted sequence m).stations.length = 19 := by
  simp [compute_stations, shears_length, bendings_length, shearUsages_length, bendingUsages_length]

theorem compute_weights : (snap.compute predicted sequence m).segments.map (·.weight) = snap.weights m := by
  have hlength := compute_segments_length snap predicted sequence m
  refine List.ext_getElem (by simp [hlength, weights_length]) fun i _ _ => ?_
  simp [compute_segments]

theorem compute_buoyancies : (snap.compute predicted sequence m).segments.map (·.buoyancy) = snap.buoyant m := by
  have hlength := compute_segments_length snap predicted sequence m
  refine List.ext_getElem (by simp [hlength, buoyant_length]) fun i _ _ => ?_
  simp [compute_segments]

/-- Each station's usages are at most 9999 and its shear force within the clamp (R56, R58). -/
theorem compute_stations_bounded : ∀ x ∈ (snap.compute predicted sequence m).stations,
    x.shearUsage ≤ 9999 ∧ x.bendingUsage ≤ 9999 ∧ -2000000000 ≤ x.shear ∧ x.shear ≤ 2000000000 := by
  intro x hx
  rw [compute_stations] at hx
  obtain ⟨i, hi, rfl⟩ := List.mem_iff_getElem.mp hx
  simp only [List.getElem_zipWith, List.getElem_zip]
  exact ⟨shearUsages_le snap m _ (List.getElem_mem _), bendingUsages_le snap m _ (List.getElem_mem _),
    shears_bounded snap m _ (List.getElem_mem _)⟩

/-- Its air usages (R59). -/
def Snapshot.airUsages : List Nat := (snap.pours.map (airEntry snap (snap.unclamped m).clamped.drafts)).map (·.usage)

/-- Its hold usages (R59). -/
def Snapshot.holdUsages : List Nat := (List.finRange 9).map fun h => usage m.holds[h] snap.holds[h].maxMass

/-- Its list usage; 0 without a metacentric height (R57, R59). -/
def Snapshot.listUsage (angle : Int) : Nat := if snap.berth.gm = 0 then 0 else usage angle.natAbs snap.ship.listLimit

theorem compute_figures : (snap.compute predicted sequence m).figures =
    #v[(worstOf 1 (snap.shearUsages m)).usage, (worstOf 1 (snap.bendingUsages m)).usage
      , usage (max (snap.unclamped m).clamped.ta.toNat (snap.unclamped m).clamped.tf.toNat) snap.berth.maxDraft
      , greatest (snap.airUsages m), trimUsage snap.ship (snap.unclamped m).clamped.trim
      , snap.listUsage (snap.compute predicted sequence m).list, greatest (snap.holdUsages m)] := rfl

theorem airUsages_le : ∀ u ∈ snap.airUsages m, u ≤ 9999 := by
  intro u hu
  obtain ⟨e, he, rfl⟩ := List.mem_map.mp hu
  obtain ⟨pour, -, rfl⟩ := List.mem_map.mp he
  exact usage_le ..

theorem holdUsages_le : ∀ u ∈ snap.holdUsages m, u ≤ 9999 := by
  intro u hu
  obtain ⟨h, -, rfl⟩ := List.mem_map.mp hu
  exact usage_le ..

theorem listUsage_le (angle : Int) : snap.listUsage angle ≤ 9999 := by
  unfold Snapshot.listUsage
  split
  · exact Nat.zero_le _
  · exact usage_le ..

theorem seven_le {top a b c d e f g : Nat} (ha : a ≤ top) (hb : b ≤ top) (hc : c ≤ top) (hd : d ≤ top) (he : e ≤ top)
    (hf : f ≤ top) (hg : g ≤ top) (i : Fin 7) : #v[a, b, c, d, e, f, g][i] ≤ top := by
  match i with
  | 0 => exact ha
  | 1 => exact hb
  | 2 => exact hc
  | 3 => exact hd
  | 4 => exact he
  | 5 => exact hf
  | 6 => exact hg

/-- The seven figures are at most 9999 (R58, R59). -/
theorem compute_figures_le (c : Fin 7) : (snap.compute predicted sequence m).figures[c] ≤ 9999 := by
  rw [compute_figures]
  exact seven_le (worstOf_usage_le (shearUsages_le snap m) 1) (worstOf_usage_le (bendingUsages_le snap m) 1) (usage_le ..)
    (greatest_le (airUsages_le snap m)) (trimUsage_le ..) (listUsage_le ..) (greatest_le (holdUsages_le snap m)) c

theorem compute_bands_eq : (snap.compute predicted sequence m).bands
    = Vector.ofFn fun c => placeBand snap.thresholds[c] (snap.compute predicted sequence m).figures[c] := rfl

theorem compute_bands (c : Fin 7) : (snap.compute predicted sequence m).bands[c]
    = placeBand snap.thresholds[c] (snap.compute predicted sequence m).figures[c] := by
  rw [compute_bands_eq, Fin.getElem_fin, Vector.getElem_ofFn]

/-- A displacement that the cap lowers sets MODEL_RANGE (R51, R60). -/
theorem compute_modelRange (h : snap.displaced m ≠ (snap.weights m).sum) :
    (snap.compute predicted sequence m).modelRange = true := by
  have hcapped : decide (snap.displaced m ≠ (snap.weights m).sum) = true := decide_eq_true h
  show (decide (snap.displaced m ≠ (snap.weights m).sum) || _ || _ || _ || _) = true
  rw [hcapped]
  simp only [Bool.true_or]

theorem toNat_clampDraft_le (x : Int) : (clampDraft x).toNat ≤ 40000 :=
  Int.toNat_le.mpr (clampInt_le (by decide) x)

end Record

end Sys2Proof.Machine

namespace Sys2Proof

open Machine

/-- Settles O30: the bounds of each stage, and the record as it is formed of them. -/
theorem recordIsConsistent : Obligations.RecordIsConsistent := by
  intro snap predicted sequence m
  have hw := compute_weights snap predicted sequence m
  obtain ⟨hhighest, hone⟩ := overallBand_spec (snap.compute predicted sequence m).bands
  refine ⟨rfl, rfl, rfl, compute_segments_length .., compute_stations_length .., ?_, ?_, fun h => ?_,
    toNat_clampDraft_le _, toNat_clampDraft_le _, toNat_clampDraft_le _, le_clampInt (by decide) _, clampInt_le (by decide) _,
    le_clampInt (by decide) _, clampInt_le (by decide) _, compute_stations_bounded snap predicted sequence m,
    fun c => ⟨compute_figures_le .., compute_bands ..⟩,
    hhighest, hone, rfl, rfl⟩
  · rw [compute_buoyancies, compute_displacement]
    exact sum_buoyant snap m
  · rw [hw]
    rfl
  · rw [hw] at h
    refine compute_modelRange snap predicted sequence m ?_
    unfold Snapshot.displaced cappedDisplacement
    omega

end Sys2Proof
end

section
/-! PROOFS. PREDICT and the completion of its prediction (R42, R43, R46, R62, R63). -/

namespace Sys2Proof.Machine

/- One proof at a time: side by side they take a thread each. -/
set_option Elab.async false

open State

/-! ### A request whose reply is deferred (R191, R192) -/

section Deferred
variable {s t : State} {r : ReplyNo} {kind : Byte} {tag : Tag} {judge : ReplyNo → State → Judged}

theorem serve_deferred (hp : s.powered = true) (hr : s.lnk.freeSlot = some r)
    (hj : judge r (s.opened r kind tag) = (t, none)) : s.serve kind tag judge = t.transmit := by
  rw [serve_eq hp hr, hj]

/-- A request that its judgement leaves without an answer, the link untouched, waits in the slot it has reserved. -/
theorem deferred_of_judge (hp : s.powered = true) (hr : s.lnk.freeSlot = some r)
    (hj : judge r (s.opened r kind tag) = (t, none)) (hl : t.lnk = (s.opened r kind tag).lnk) :
    Deferred s (s.serve kind tag judge) r kind tag := by
  obtain ⟨hrx, hslots, henabled⟩ := transmit_link t
  rw [serve_deferred hp hr hj]
  refine ⟨(freeSlot_spec hr).1, hrx.trans (by rw [hl]; rfl), hslots.trans (by rw [hl]; rfl), henabled.trans (by rw [hl]; rfl),
    fun hbusy => ?_⟩
  rw [transmit_busy (by rw [hl]; exact hbusy), hl]
  exact ⟨rfl, rfl, rfl⟩

end Deferred

/-- Two states that differ in the link, the queue and the engine alone. -/
theorem Touches.eq_but_lnk_tsq_cen {s t : State} (h : Touches [.lnk, .tsq, .cen] s t) :
    { t with lnk := s.lnk, tsq := s.tsq, cen := s.cen } = s := by
  rw [h.powered, h.cfg, h.berth, h.fcu, h.tanks, h.ptr, h.lsl, h.pva, h.pmu, h.rcu, h.sst, h.ccl, h.pins, h.now, h.choices,
    h.pending]

/-- Two states that differ in the link and the engine alone. -/
theorem Touches.eq_but_lnk_cen {s t : State} (h : Touches [.lnk, .cen] s t) : { t with lnk := s.lnk, cen := s.cen } = s := by
  have heq := (h.mono (m := [.lnk, .tsq, .cen])).eq_but_lnk_tsq_cen
  rwa [← h.tsq] at heq

/-! ### The judgement of PREDICT -/

section Judge
variable {s : State} {body : List Byte} {admitted : Bool} {overrides : List Override}

theorem judgePredict_phase (hlen : lengthCounted 2 6 1 body = true) (hphase : s.ccl.phase = .setup) (tag : Tag) (r : ReplyNo) :
    judgePredict tag body r s = refuse .phase s := by
  simp [judgePredict, hlen, hphase]

theorem judgePredict_busy (hlen : lengthCounted 2 6 1 body = true) (hphase : s.ccl.phase ≠ .setup)
    (hparse : parsePredict body = some (admitted, overrides)) (hfull : 4 ≤ s.cen.queue.length) (tag : Tag) (r : ReplyNo) :
    judgePredict tag body r s = refuse .busy s := by
  have hroom : s.cen.takesPrediction = false := decide_eq_false (Nat.not_lt.mpr hfull)
  simp [judgePredict, hlen, hphase, hparse, hroom]

theorem judgePredict_taken (hlen : lengthCounted 2 6 1 body = true) (hphase : s.ccl.phase ≠ .setup)
    (hparse : parsePredict body = some (admitted, overrides)) (hroom : s.cen.queue.length < 4) (tag : Tag) (r : ReplyNo) :
    judgePredict tag body r s = (s.queuePrediction ⟨.predict tag, r, admitted, overrides⟩, none) := by
  have hroom : s.cen.takesPrediction = true := (takesPrediction_iff _).mpr hroom
  simp [judgePredict, hlen, hphase, hparse, hroom]

end Judge

/-! ### The completion of a PREDICT's prediction -/

/-- A completed PREDICT's record goes into its reply (R63). -/
theorem completePrediction_predict {s : State} {snap : Snapshot} {tag : Tag} {r : ReplyNo} {admitted : Bool} {o : List Override}
    (h : s.cen.inFlight = some (.prediction ⟨.predict tag, r, admitted, o⟩ snap)) :
    s.completePrediction = ((s.reply r .ok
      (snap.compute true snap.baseSequence (snap.masses o)).summary).chooseNext false).grants := by
  unfold completePrediction
  rw [h]
  rfl

end Sys2Proof.Machine

namespace Sys2Proof

/- One proof at a time: side by side they take a thread each. -/
set_option Elab.async false

open Machine

/-- Settles O31: PREDICT by the phase and the room in the queue; one that is taken waits, or begins in an idle engine. -/
theorem predictTaken : Obligations.PredictTaken := by
  intro s tag body admitted overrides hs hlen hparse
  refine ⟨fun hphase => ⟨_, rfl, ?phase⟩, fun hphase hfull => ⟨_, rfl, ?busy⟩, fun hphase hroom => ?taken⟩
  case phase => exact replied_of_kept hs fun r => judgePredict_phase (s := s.opened r 0x31 tag) hlen hphase tag r
  case busy => exact replied_of_kept hs fun r => judgePredict_busy (s := s.opened r 0x31 tag) hlen hphase hparse hfull tag r
  case taken =>
    obtain ⟨r, hr⟩ := hs.slot
    have hjudge := judgePredict_taken (s := s.opened r 0x31 tag) hlen hphase hparse hroom tag r
    have hqueued := queuePrediction_touch ⟨.predict tag, r, admitted, overrides⟩ (s.opened r 0x31 tag)
    have hserved := serve_deferred (kind := 0x31) (judge := judgePredict tag body) hs.1 hr hjudge
    have htouch : Touches [.lnk, .cen] s (s.serve 0x31 tag (judgePredict tag body)) := by
      rw [hserved]
      exact ((opened_touch ..).seq (hqueued.seq (transmit_touch _))).mono
    have hcen : (s.serve 0x31 tag (judgePredict tag body)).cen = _ := (congrArg State.cen hserved).trans (transmit_touch _).cen
    refine ⟨_, r, rfl, htouch.eq_but_lnk_cen, deferred_of_judge hs.1 hr hjudge hqueued.lnk, fun hwaits => ?_,
      fun hflight hpending hqueue => ?_⟩
    · exact hcen.trans (queuePrediction_cen_waits (s := s.opened r 0x31 tag) hwaits _)
    · exact hcen.trans (queuePrediction_cen_begins (s := s.opened r 0x31 tag) hflight hpending hqueue _)

/-- Settles O33: the reply is filled at the delivery, the engine's next work is its choice, and grants leave both alone. -/
theorem predictionReplies : Obligations.PredictionReplies := by
  intro s snap tag rtag kind r admitted o hp hflight hslot
  let u := s.reply r .ok (snap.compute true snap.baseSequence (snap.masses o)).summary
  have hafter : Touches [.pva, .tsq, .lnk] (u.chooseNext false) (u.chooseNext false).grants.transmit :=
    (grants_touch _).trans (transmit_touch _).mono
  have hcen : (u.chooseNext false).grants.transmit.cen = (u.chooseNext false).cen := hafter.cen
  have hreply : u.cen = s.cen := (reply_touch ..).cen
  have hcases := chooseNext_cases false u
  rw [hreply] at hcases
  refine ⟨(u.chooseNext false).grants.transmit, ?_, ?_, ?_, ?_, fun hpending => ?_, fun hpending q l hqueue => ?_,
    ((reply_touch r _ _ s).seq ((chooseNext_touch false u).seq hafter)).mono⟩
  · refine congrArg Host.Outcome.next ((event_powered hp).trans ?_)
    rw [completePrediction_predict hflight]
  · have hsame := (transmit_link (u.chooseNext false).grants).2.1.trans (grants_steady (u.chooseNext false)).slots
    rw [hsame, (chooseNext_touch false u).lnk]
    exact congrArg (fun x : State => x.lnk.slots) (reply_reserved hslot .ok _)
  · rcases hcases with ⟨_, _, _, -, -, e⟩ | ⟨-, -, _, e⟩ | ⟨-, -, e⟩ <;> rw [hcen, e]
  · rcases hcases with ⟨_, _, _, -, -, e⟩ | ⟨-, -, _, e⟩ | ⟨-, -, e⟩ <;> rw [hcen, e]
  · rw [hcen]
    rcases hcases with ⟨_, _, _, -, hfirst, -⟩ | ⟨-, -, next, e⟩ | ⟨-, hno, -⟩
    · simp [hpending] at hfirst
    · rw [e]
      exact ⟨⟨next, rfl⟩, rfl, rfl⟩
    · simp [hpending] at hno
  · rw [hcen]
    rcases hcases with ⟨q', l', next, hqueue', -, e⟩ | ⟨hno, -⟩ | ⟨hno, -⟩
    · obtain ⟨rfl, rfl⟩ := List.cons.inj (hqueue.symm.trans hqueue')
      rw [e]
      exact ⟨⟨next, rfl⟩, rfl⟩
    · simp [hpending] at hno
    · simp [hqueue] at hno

end Sys2Proof
end

section
/-! PROOFS. PLAN_LOAD and POUR_PROGRESS (R41, R44, R137, R139, R143). -/

namespace Sys2Proof.Machine

/- One proof at a time: side by side they take a thread each. -/
set_option Elab.async false

open State

/-! ### The entries of a plan -/

/-- The plan entry that a PLAN_LOAD lays down, of its hold, planned mass and due (R137). -/
def plannedEntry (e : HoldNo × Nat × Nat) : PlanEntry := ⟨e.1, e.2.1, e.2.2, .planned, none, none⟩

/-- The bytes of a plan entry (R200). -/
def planBytes (e : HoldNo × Nat × Nat) : List Byte := u8 e.1.val ++ u32 e.2.1 ++ u32 e.2.2

theorem length_planBytes (e : HoldNo × Nat × Nat) : (planBytes e).length = 9 := by simp [planBytes]

/-- Entries that each read as their values are read whole. -/
theorem mapM_map_eq_some {α β γ : Type} {enc : α → γ} {dec : γ → Option β} {f : α → β} {l : List α}
    (h : ∀ x ∈ l, dec (enc x) = some (f x)) : (l.map enc).mapM dec = some (l.map f) := by
  induction l with
  | nil => rfl
  | cons x l ih =>
    rw [List.map_cons, List.mapM_cons, h x List.mem_cons_self, ih fun y hy => h y (List.mem_cons_of_mem x hy)]
    rfl

theorem parsePlanEntries_bytes (first : Nat) {l : List (HoldNo × Nat × Nat)} (hcount : l.length ≤ 255)
    (hrange : ∀ e ∈ l, within 1 200000 e.2.1 = true ∧ e.2.2 ≤ 300000) :
    parsePlanEntries (u8 first ++ u8 l.length ++ l.flatMap planBytes) = some (l.map plannedEntry) := by
  rw [parsePlanEntries, field_count first l hcount, entriesOf_flatMap (by simp) length_planBytes]
  refine mapM_map_eq_some fun e he => ?_
  obtain ⟨hmass, hdue⟩ := hrange e he
  have hmass' := within_iff.mp hmass
  have hhold : e.1.val % 256 = e.1.val := mod_byte (by omega)
  simp [planBytes, plannedEntry, hhold, mod_long (show e.2.1 ≤ 4294967295 by omega), mod_long (show e.2.2 ≤ 4294967295 by omega),
    hmass, within_iff.mpr ⟨Nat.zero_le e.2.2, hdue⟩]

/-! ### The dues of a plan (R137) -/

theorem duesRise_iff (least : Nat) (l : List PlanEntry) :
    duesRise least l = true ↔ (least :: l.map (·.due)).IsChain fun a b => a ≤ b := by
  induction l generalizing least with
  | nil => simp [duesRise]
  | cons e l ih => simp [duesRise, ih]

/-- Dues that never fall through the kept entries and the new ones rise from the last kept, or from 0. -/
theorem duesRise_of_chain {kept new : List PlanEntry}
    (h : (kept.map (·.due) ++ new.map (·.due)).IsChain fun a b => a ≤ b) :
    duesRise ((kept.getLast?.map (·.due)).getD 0) new = true := by
  obtain ⟨-, hnew, hjoin⟩ := List.isChain_append.mp h
  refine (duesRise_iff _ new).mpr (List.isChain_cons.mpr ⟨fun y hy => ?_, hnew⟩)
  rw [← List.getLast?_map]
  rcases hlast : (kept.map (·.due)).getLast? with _ | x
  · rw [hlast]
    exact Nat.zero_le y
  · rw [hlast]
    exact hjoin x hlast y hy

/-! ### PLAN_LOAD -/

/-- The entries of the plan held that a PLAN_LOAD keeps: none where it begins with pour 1 (R137). -/
def keptPlan (held : List PlanEntry) (first : Nat) : List PlanEntry := if first = 1 then [] else held

theorem parsePlanLoad_bytes {held : List PlanEntry} {first : Nat} {l : List (HoldNo × Nat × Nat)}
    (hfirst : first = 1 ∨ first = held.length + 1) (hlow : 1 ≤ first) (hhigh : first ≤ 48) (hcount : l.length ≤ 24)
    (hspan : first + l.length ≤ 49) (hrange : ∀ e ∈ l, within 1 200000 e.2.1 = true ∧ e.2.2 ≤ 300000)
    (hdues : ((keptPlan held first).map (·.due) ++ (l.map plannedEntry).map (·.due)).IsChain fun a b => a ≤ b) :
    parsePlanLoad held (u8 first ++ u8 l.length ++ l.flatMap planBytes) = some (keptPlan held first ++ l.map plannedEntry) := by
  have hstart : (first == 1 || first == held.length + 1) = true := by simpa using hfirst
  have hrise := duesRise_of_chain hdues
  rw [keptPlan] at hrise
  simp only [parsePlanLoad, parsePlanEntries_bytes first (show l.length ≤ 255 by omega) hrange, field_first l (show first ≤ 255 by omega),
    field_count first l (show l.length ≤ 255 by omega), Option.bind_eq_bind, Option.bind_some, hstart, hrise,
    within_iff.mpr ⟨hlow, hhigh⟩, within_iff.mpr ⟨Nat.zero_le l.length, hcount⟩, decide_eq_true hspan, Bool.and_self, whenever_true,
    keptPlan]

section Judge
variable {s : State} {body : List Byte}

theorem judgePlanLoad_phase (hlen : lengthCounted 2 9 1 body = true) (hphase : s.ccl.phase ≠ .ready) :
    judgePlanLoad body s = refuse .phase s := by
  simp [judgePlanLoad, hlen, hphase]

theorem judgePlanLoad_taken (hlen : lengthCounted 2 9 1 body = true) (hphase : s.ccl.phase = .ready) {plan : List PlanEntry}
    (hparse : parsePlanLoad s.ptr.plan body = some plan) :
    judgePlanLoad body s = taken { s with ptr := { s.ptr with plan := plan } } (u8 plan.length) := by
  simp [judgePlanLoad, hlen, hphase, hparse]

theorem pourRequest_act {α : Type} {lengthOk : Bool} {operands : Option α} {act : α → State → Judged} {x : α}
    (hlen : lengthOk = true) (hphase : s.ccl.phase = .loading) (hops : operands = some x) :
    pourRequest lengthOk operands act s = act x s := by
  simp [pourRequest, hlen, hphase, hops]

end Judge

/-! ### POUR_PROGRESS -/

theorem parsePourTonnes_bytes (l : Loader) {tonnes : Nat} (h : tonnes ≤ 200000) :
    parsePourTonnes (u8 l.code ++ u32 tonnes) = some (l, tonnes) := by
  have hloader : ofCode [Loader.a, .b] (l.code % 256) = some l := by cases l <;> rfl
  simp [parsePourTonnes, hloader, mod_long (show tonnes ≤ 4294967295 by omega), within_iff.mpr ⟨Nat.zero_le tonnes, h⟩]

theorem creditPour_falling {l : Loader} {x : Pour} {tonnes : Nat} (h : tonnes < x.credited) (s : State) :
    s.creditPour l x tonnes = s := if_pos h

theorem creditPour_rising {l : Loader} {x : Pour} {tonnes : Nat} (h : x.credited ≤ tonnes) (s : State) :
    (s.creditPour l x tonnes).ptr = { s.ptr with
      loaders := s.ptr.loaders.set l.ix (some { x with credited := tonnes })
      holds := s.ptr.holds.set x.hold
        { s.ptr.holds[x.hold] with mass := min 9999999 (s.ptr.holds[x.hold].mass + tonnes - x.credited) } } :=
  congrArg State.ptr (if_neg (Nat.not_lt.mpr h))

/-- What a figure credits goes by the pours alone. -/
theorem creditPour_congr {s t : State} (h : t.ptr = s.ptr) (l : Loader) (x : Pour) (tonnes : Nat) :
    (t.creditPour l x tonnes).ptr = (s.creditPour l x tonnes).ptr := by
  rcases Nat.lt_or_ge tonnes x.credited with hlow | hhigh
  · rw [creditPour_falling hlow, creditPour_falling hlow, h]
  · rw [creditPour_rising hhigh, creditPour_rising hhigh, h]

/-- A POUR_PROGRESS on a pouring loader credits its figure and requests a recompute (R143). -/
def State.progressed (l : Loader) (x : Pour) (tonnes : Nat) (s : State) : State := (s.creditPour l x tonnes).requestRecompute

theorem progressed_touch (l : Loader) (x : Pour) (tonnes : Nat) (s : State) : Touches [.ptr, .cen] s (s.progressed l x tonnes) :=
  (creditPour_touch l x tonnes s).seq (requestRecompute_touch _)

theorem progressed_ptr (l : Loader) (x : Pour) (tonnes : Nat) (s : State) :
    (s.progressed l x tonnes).ptr = (s.creditPour l x tonnes).ptr := (requestRecompute_touch _).ptr

theorem judgePourProgress_taken {l : Loader} {x : Pour} {s : State} (h : s.ptr.loaders[l.ix] = some x) (tonnes : Nat) :
    judgePourProgress (l, tonnes) s = (s.progressed l x tonnes,
      some ⟨.ok, u32 (max tonnes x.credited) ++ u32 (s.creditPour l x tonnes).ptr.holds[x.hold].mass⟩) := by
  have hjudged : judgePourProgress (l, tonnes) s = taken (s.progressed l x tonnes)
      (u32 (max tonnes x.credited) ++ u32 (s.progressed l x tonnes).ptr.holds[x.hold].mass) := by
    unfold judgePourProgress
    rw [h]
    rfl
  rw [hjudged, progressed_ptr]
  rfl

theorem judgePourProgress_idle {l : Loader} {s : State} (h : s.ptr.loaders[l.ix] = none) (tonnes : Nat) :
    judgePourProgress (l, tonnes) s = refuse .state s := by
  unfold judgePourProgress
  rw [h]

/-- A busy engine keeps the recompute pending (R41). -/
theorem progressed_cen_busy {s : State} (hphase : s.ccl.phase = .loading) (hbusy : s.cen.inFlight ≠ none) (l : Loader) (x : Pour)
    (tonnes : Nat) : (s.progressed l x tonnes).cen = { s.cen with pendingCurrent := true } := by
  have hcredit := creditPour_touch l x tonnes s
  have hphase' : (s.creditPour l x tonnes).ccl.phase ≠ .setup := by
    rw [hcredit.ccl, hphase]
    exact Phase.noConfusion
  refine (requestRecompute_busy hphase' (by rwa [hcredit.cen])).trans ?_
  rw [hcredit.cen]

/-- An idle engine begins it on the hold masses as they then stand (R41, R44). -/
theorem progressed_cen_idle {s : State} (hphase : s.ccl.phase = .loading) (hidle : s.cen.inFlight = none) (l : Loader) (x : Pour)
    (tonnes : Nat) : ∃ snap, (s.progressed l x tonnes).cen
        = { s.cen with inFlight := some (.current snap), pendingCurrent := false }
      ∧ snap.moves = [] ∧ ∀ h : HoldNo, snap.holdMass[h] = (s.creditPour l x tonnes).ptr.holds[h].mass := by
  have hcredit := creditPour_touch l x tonnes s
  have hphase' : (s.creditPour l x tonnes).ccl.phase ≠ .setup := by
    rw [hcredit.ccl, hphase]
    exact Phase.noConfusion
  refine ⟨(s.creditPour l x tonnes).snapshot [], (requestRecompute_idle hphase' (by rwa [hcredit.cen])).trans ?_, rfl, fun h => ?_⟩
  · rw [hcredit.cen]
  · exact Vector.getElem_ofFn h.isLt

end Sys2Proof.Machine

namespace Sys2Proof

/- One proof at a time: side by side they take a thread each. -/
set_option Elab.async false

open Machine

/-- Settles O47: the plan as its bytes spell it; a figure credited, then the recompute requested. -/
theorem planAndProgress : Obligations.PlanAndProgress := by
  refine ⟨fun s tag first l hs hphase hfirst hlow hhigh hcount hspan hrange hdues => ?plan,
    fun s tag body hs hphase hlen => ⟨_, rfl, ?phase⟩,
    fun s tag l tonnes hs hphase htonnes => ⟨fun hidle => ⟨_, rfl, ?idle⟩, fun x hx => ?pouring⟩⟩
  case plan =>
    have hkept : (keptPlan s.ptr.plan first).map (·.due) = if first = 1 then [] else s.ptr.plan.map (·.due) := by
      unfold keptPlan
      split <;> rfl
    have hcounted : (keptPlan s.ptr.plan first).length = if first = 1 then 0 else s.ptr.plan.length := by
      unfold keptPlan
      split <;> rfl
    have hnew : (l.map plannedEntry).map (·.due) = l.map (·.2.2) := by rw [List.map_map]; rfl
    have hparse := parsePlanLoad_bytes hfirst hlow hhigh hcount hspan hrange (by rw [hkept, hnew]; exact hdues)
    have hlen := lengthCounted_bytes first length_planBytes (show l.length ≤ 255 by omega)
    have hj (r : ReplyNo) := judgePlanLoad_taken (s := s.opened r 0x71 tag) hlen hphase hparse
    obtain ⟨⟨r, hstate⟩, hquiet, hanswered⟩ := served_of_judge (kind := 0x71) (tag := tag) hs
      (judge := fun _ => judgePlanLoad (u8 first ++ u8 l.length ++ l.flatMap planBytes))
      (f := fun s => { s with ptr := { s.ptr with plan := keptPlan s.ptr.plan first ++ l.map plannedEntry } })
      hj fun _ => rfl
    rw [List.length_append, List.length_map, hcounted] at hanswered
    exact ⟨_, rfl, hstate, hquiet, hanswered⟩
  case phase => exact replied_of_kept hs fun r => judgePlanLoad_phase (s := s.opened r 0x71 tag) hlen hphase
  case idle =>
    have hlen : lengthIs 5 (u8 l.code ++ u32 tonnes) = true := by simp [lengthIs]
    exact replied_of_kept hs fun r => (pourRequest_act (s := s.opened r 0x73 tag) hlen hphase
      (parsePourTonnes_bytes l htonnes)).trans (judgePourProgress_idle (s := s.opened r 0x73 tag) hidle tonnes)
  case pouring =>
    have hlen : lengthIs 5 (u8 l.code ++ u32 tonnes) = true := by simp [lengthIs]
    have hj (r : ReplyNo) := (pourRequest_act (s := s.opened r 0x73 tag) (act := judgePourProgress)
      hlen hphase (parsePourTonnes_bytes l htonnes)).trans
        (judgePourProgress_taken (s := s.opened r 0x73 tag) hx tonnes)
    have hcredited (r : ReplyNo) := creditPour_congr (s := s) (t := s.opened r 0x73 tag) rfl l x tonnes
    simp only [hcredited] at hj
    obtain ⟨t, r, hexec, ht, hquiet, hanswered⟩ := taken_quietly (c := .pourProgress tag (u8 l.code ++ u32 tonnes)) rfl hs
      (st := .ok) (body := u32 (max tonnes x.credited) ++ u32 (s.creditPour l x tonnes).ptr.holds[x.hold].mass)
      (f := State.progressed l x tonnes) hj fun _ => (progressed_touch ..).lnk
    have hptr : t.ptr = (s.creditPour l x tonnes).ptr := (ht.ptr.trans (progressed_ptr ..)).trans (hcredited r)
    refine ⟨t, hexec, hquiet, ((opened_touch ..).seq ((progressed_touch ..).seq ht)).mono, fun hbusy => ?_, fun hidle => ?_,
      fun hfalling => ?_, fun hrising => ?_⟩
    · exact ht.cen.trans (progressed_cen_busy (s := s.opened r 0x73 tag) hphase hbusy l x tonnes)
    · obtain ⟨snap, hcen, hmoves, hmasses⟩ := progressed_cen_idle (s := s.opened r 0x73 tag) hphase hidle l x tonnes
      exact ⟨snap, ht.cen.trans hcen, hmoves, fun h => by rw [hmasses, hcredited, hptr]⟩
    · rw [max_eq_right hfalling.le, creditPour_falling hfalling] at hanswered
      exact ⟨hptr.trans (by rw [creditPour_falling hfalling]), hanswered⟩
    · have hnow := creditPour_rising (l := l) hrising s
      have hmass : (s.creditPour l x tonnes).ptr.holds[x.hold].mass
          = min 9999999 (s.ptr.holds[x.hold].mass + tonnes - x.credited) := by rw [hnow]; simp
      rw [max_eq_left hrising, hmass] at hanswered
      exact ⟨hptr.trans hnow, hanswered⟩

end Sys2Proof
end

section
/-! PROOFS. STEP_ADD: its fields, its checks and the step it reserves (R88 to R91). -/

namespace Sys2Proof.Machine

/- One proof at a time: side by side they take a thread each. -/
set_option Elab.async false

open State

/-! ### The fields of a step (R89) -/

/-- The pump choice of a step by its number: 3 is ANY (R89, R201). -/
def choiceOf (n : Nat) : Option (Option PumpNo) := if n = 3 then some none else (index n 3).map some

/-- The fields of a STEP_ADD by their numbers (R89). -/
def stepOfFields (kind source dest target choice cls pour edge : Nat) : Option StepRequest := do
  let kind ← ofCode [StepKind.ballast, .deballast, .shift, .strip] kind
  let source ← indexOrNone 16 source
  let dest ← indexOrNone 16 dest
  let choice ← choiceOf choice
  let cls ← ofCode [StepClass.normal, .urgent] cls
  let gate ← parseGate pour edge
  let r : StepRequest := ⟨kind, source, dest, target, choice, cls, gate⟩
  whenever (within 0 40000 r.target && r.fits) r

theorem parseStepAdd_bytes {kind source dest target choice cls pour edge : Nat}
    (h : ∀ b ∈ [kind, source, dest, choice, cls, pour, edge], b ≤ 255) (htarget : target ≤ 65535) :
    parseStepAdd (u8 kind ++ u8 source ++ u8 dest ++ u16 target ++ u8 choice ++ u8 cls ++ u8 pour ++ u8 edge)
      = stepOfFields kind source dest target choice cls pour edge := by
  simp only [List.forall_mem_cons, List.not_mem_nil, false_implies, implies_true, and_true] at h
  obtain ⟨hkind, hsource, hdest, hchoice, hcls, hpour, hedge⟩ := h
  by_cases hany : choice = 3
  all_goals simp [parseStepAdd, stepOfFields, choiceOf, hany, mod_byte hkind, mod_byte hsource, mod_byte hdest,
    mod_byte hchoice, mod_byte hcls, mod_byte hpour, mod_byte hedge, mod_word htarget]

theorem eq_code_of_kind {n : Nat} {k : StepKind} (h : ofCode [StepKind.ballast, .deballast, .shift, .strip] n = some k) :
    n = k.code := by
  match n with
  | 0 | 1 | 2 | 3 => cases h; rfl
  | n + 4 => cases h

theorem le_one_of_class {n : Nat} {c : StepClass} (h : ofCode [StepClass.normal, .urgent] n = some c) : n ≤ 1 := by
  match n with
  | 0 | 1 => decide
  | n + 2 => cases h

theorem eq_val_of_index {k n : Nat} {i : Fin k} (h : index n k = some i) : n = i.val := by
  unfold index at h
  split at h
  · cases h; rfl
  · cases h

/-- A tank field is 255 where it names none, else the tank's number (R201). -/
theorem eq_ixOrNone {n : Nat} {t : Option TankNo} (h : indexOrNone 16 n = some t) : n = ixOrNone t := by
  unfold indexOrNone at h
  split at h
  next hnone => cases h; exact hnone
  next =>
    obtain ⟨i, hi, rfl⟩ := Option.map_eq_some_iff.mp h
    exact eq_val_of_index hi

/-- A pump choice is 3 for ANY, else the pump's number (R89, R201). -/
theorem eq_choice {n : Nat} {c : Option PumpNo} (h : choiceOf n = some c) : n = (c.map (·.val)).getD 3 := by
  unfold choiceOf at h
  split at h
  next hany => cases h; exact hany
  next =>
    obtain ⟨i, hi, rfl⟩ := Option.map_eq_some_iff.mp h
    exact eq_val_of_index hi

theorem gate_of_parseGate {pour edge : Nat} {g : Option Gate} (h : parseGate pour edge = some g) :
    pour = 255 ∧ edge = 255 ∨ (1 ≤ pour ∧ pour ≤ 48) ∧ edge ≤ 1 := by
  unfold parseGate at h
  split at h
  next hnone => exact .inl hnone
  next =>
    obtain ⟨e, he, hpour⟩ := Option.bind_eq_some_iff.mp h
    have hedge : edge ≤ 1 := by
      match edge with
      | 0 | 1 => decide
      | n + 2 => cases he
    refine .inr ⟨?_, hedge⟩
    by_contra hnot
    have : within 1 48 pour = false := Bool.eq_false_iff.mpr fun hw => hnot (within_iff.mp hw)
    simp [this] at hpour

/-- The numbers that fit a kind of step: its tanks and its pump choice (R89). -/
def FieldsFit (kind source dest choice : Nat) : Prop :=
  let main := choice = 0 ∨ choice = 1 ∨ choice = 3
  kind = 0 ∧ source = 255 ∧ dest < 16 ∧ main ∨ kind = 1 ∧ source < 16 ∧ dest = 255 ∧ main
    ∨ kind = 2 ∧ source < 16 ∧ dest < 16 ∧ source ≠ dest ∧ main
    ∨ kind = 3 ∧ source < 16 ∧ dest = 255 ∧ (choice = 2 ∨ choice = 3)

theorem main_choice {c : Option PumpNo} (h : c ≠ some 2) :
    (c.map (·.val)).getD 3 = 0 ∨ (c.map (·.val)).getD 3 = 1 ∨ (c.map (·.val)).getD 3 = 3 := by
  match c with
  | none => exact .inr (.inr rfl)
  | some 0 => exact .inl rfl
  | some 1 => exact .inr (.inl rfl)
  | some 2 => exact absurd rfl h

/-- Fields that fit their kind do so as numbers (R89, R201). -/
theorem fieldsFit_of_fits {r : StepRequest} (h : r.fits = true) :
    FieldsFit r.kind.code (ixOrNone r.source) (ixOrNone r.dest) ((r.choice.map (·.val)).getD 3) := by
  obtain ⟨kind, source, dest, target, choice, cls, gate⟩ := r
  cases kind with
  | ballast =>
    simp only [StepRequest.fits, Bool.and_eq_true, Option.isNone_iff_eq_none, Option.isSome_iff_exists, decide_eq_true_eq] at h
    obtain ⟨⟨rfl, t, rfl⟩, hchoice⟩ := h
    exact .inl ⟨rfl, rfl, t.isLt, main_choice hchoice⟩
  | deballast =>
    simp only [StepRequest.fits, Bool.and_eq_true, Option.isNone_iff_eq_none, Option.isSome_iff_exists, decide_eq_true_eq] at h
    obtain ⟨⟨⟨t, rfl⟩, rfl⟩, hchoice⟩ := h
    exact .inr (.inl ⟨rfl, t.isLt, rfl, main_choice hchoice⟩)
  | shift =>
    simp only [StepRequest.fits, Bool.and_eq_true, Option.isSome_iff_exists, decide_eq_true_eq] at h
    obtain ⟨⟨⟨⟨a, rfl⟩, b, rfl⟩, hne⟩, hchoice⟩ := h
    exact .inr (.inr (.inl ⟨rfl, a.isLt, b.isLt, fun e => hne (congrArg some (Fin.ext e)), main_choice hchoice⟩))
  | strip =>
    simp only [StepRequest.fits, Bool.and_eq_true, Option.isNone_iff_eq_none, Option.isSome_iff_exists, decide_eq_true_eq] at h
    obtain ⟨⟨⟨t, rfl⟩, rfl⟩, hchoice⟩ := h
    refine .inr (.inr (.inr ⟨rfl, t.isLt, rfl, ?_⟩))
    rcases hchoice with rfl | rfl
    · exact .inl rfl
    · exact .inr rfl

/-- Fields that read as a step are in range and fit its kind (R89, log entry 14). -/
theorem inRange_of_stepOfFields {kind source dest target choice cls pour edge : Nat} {r : StepRequest}
    (h : stepOfFields kind source dest target choice cls pour edge = some r) :
    FieldsFit kind source dest choice ∧ target ≤ 40000 ∧ cls ≤ 1
      ∧ (pour = 255 ∧ edge = 255 ∨ (1 ≤ pour ∧ pour ≤ 48) ∧ edge ≤ 1) := by
  simp only [stepOfFields, Option.bind_eq_bind, Option.bind_eq_some_iff] at h
  obtain ⟨k, hkind, a, hsource, d, hdest, c, hchoice, cl, hcls, g, hgate, hwhole⟩ := h
  unfold whenever at hwhole
  split at hwhole
  next hok =>
    obtain ⟨htarget, hfits⟩ := Bool.and_eq_true_iff.mp hok
    have hfit := fieldsFit_of_fits hfits
    rw [eq_code_of_kind hkind, eq_ixOrNone hsource, eq_ixOrNone hdest, eq_choice hchoice]
    exact ⟨hfit, (within_iff.mp htarget).2, le_one_of_class hcls, gate_of_parseGate hgate⟩
  next => cases hwhole

/-! ### The checks (R90) -/

/-- The lowest-numbered empty slot (R91). -/
theorem tsq_freeSlot_spec {q : Tsq} {k : SlotNo} (h : q.freeSlot = some k) :
    q.slots[k] = none ∧ ∀ j : SlotNo, j < k → q.slots[j] ≠ none := by
  rw [Tsq.freeSlot, List.find?_eq_some_iff_getElem] at h
  obtain ⟨hk, i, hi, rfl, hlt⟩ := h
  refine ⟨by simpa using hk, fun j hj => ?_⟩
  have := hlt j.val (by simpa [Fin.lt_def] using hj)
  exact Option.isSome_iff_ne_none.mp (by simpa using this)

theorem tsq_freeSlot_eq_none {q : Tsq} : q.freeSlot = none ↔ ∀ k : SlotNo, q.slots[k] ≠ none := by
  simp [Tsq.freeSlot]

/-- The checks of a step behind its ranges, in their order (R90). -/
theorem stepCheck_eq (r : StepRequest) (s : State) :
    s.stepCheck r =
      if (if r.kind = .ballast then r.dest else r.source).any fun k =>
        decide (r.target < s.cfg.bounds[k].lower ∨ s.cfg.bounds[k].upper < r.target) then some Status.range
      else if r.gate.any fun g => decide (s.ptr.plan.length < g.pour) then some .unknown
      else if (r.source.toList ++ r.dest.toList).any fun k => s.tanks[k].lock != .unlocked then some .locked
      else if (r.source.toList ++ r.dest.toList).any fun k => s.tanks[k].stale then some .stale
      else if decide (∀ k : SlotNo, s.tsq.slots[k] ≠ none) then some .full
      else if decide (4 ≤ s.cen.queue.length) then some .busy else none := by
  have hwithin (lo hi n : Nat) : (!within lo hi n) = decide (n < lo ∨ hi < n) := by
    rw [within, ← decide_not]
    exact decide_eq_decide.mpr (by omega)
  have hbusy : (!s.cen.takesPrediction) = decide (4 ≤ s.cen.queue.length) := by
    rw [Cen.takesPrediction, ← decide_not]
    exact decide_eq_decide.mpr Nat.not_lt
  simp only [State.stepCheck, hwithin, hbusy, tsq_freeSlot_eq_none, decide_eq_true_eq]

section Judge
variable {s : State} {body : List Byte} (hlen : body.length = 9)
include hlen

theorem judgeStepAdd_phase (hphase : s.ccl.phase = .setup) (reply : ReplyNo) : judgeStepAdd body reply s = refuse .phase s := by
  simp [judgeStepAdd, lengthIs, hlen, hphase]

theorem judgeStepAdd_range (hphase : s.ccl.phase ≠ .setup) (hparse : parseStepAdd body = none) (reply : ReplyNo) :
    judgeStepAdd body reply s = refuse .range s := by
  simp [judgeStepAdd, lengthIs, hlen, hphase, hparse]

variable {r : StepRequest} (hphase : s.ccl.phase ≠ .setup) (hparse : parseStepAdd body = some r)
include hphase hparse

theorem judgeStepAdd_refused {st : Status} (hcheck : s.stepCheck r = some st) (reply : ReplyNo) :
    judgeStepAdd body reply s = refuse st s := by
  simp [judgeStepAdd, lengthIs, hlen, hphase, hparse, hcheck]

theorem judgeStepAdd_reserves {k : SlotNo} (hcheck : s.stepCheck r = none) (hfree : s.tsq.freeSlot = some k) (reply : ReplyNo) :
    judgeStepAdd body reply s = (s.reserveStep r k reply, none) := by
  simp [judgeStepAdd, lengthIs, hlen, hphase, hparse, hcheck, hfree]

end Judge

/-- A step that passes the checks finds an empty slot (R90, R91). -/
theorem freeSlot_of_stepCheck {r : StepRequest} {s : State} (h : s.stepCheck r = none) : ∃ k, s.tsq.freeSlot = some k := by
  rw [← Option.ne_none_iff_exists']
  intro hfull
  unfold stepCheck at h
  extract_lets tanks target at h
  rw [if_pos hfull] at h
  split_ifs at h

/-! ### The number of a step (R88) -/

theorem slotOf_number {q : Tsq} {n : Nat} {k : SlotNo} (h : q.slotOf n = some k) : ∃ x, q.slots[k] = some x ∧ x.number = n := by
  have hk := List.find?_some h
  rcases hx : q.slots[k] with _ | x
  · simp [hx] at hk
  · exact ⟨x, rfl, by simpa [hx] using hk⟩

theorem stepNumberAfter_inj {last i j : Nat} (hi : i < 255) (hj : j < 255)
    (h : stepNumberAfter last i = stepNumberAfter last j) : i = j := by
  unfold stepNumberAfter at h
  omega

/-- Of 255 numbers the 32 slots leave one unused (R88). -/
theorem exists_unused (q : Tsq) : ∃ i < 255, q.inUse (stepNumberAfter q.lastNumber i) = false := by
  by_contra hnone
  have hused (i : Fin 255) : ∃ k, q.slotOf (stepNumberAfter q.lastNumber i) = some k := by
    have hi : ¬q.inUse (stepNumberAfter q.lastNumber i) = false := fun h => hnone ⟨i, i.isLt, h⟩
    exact Option.isSome_iff_exists.mp (Bool.not_eq_false _ ▸ hi)
  choose slot hslot using hused
  obtain ⟨i, j, hij, hsame⟩ := Fintype.exists_ne_map_eq_of_card_lt slot (by simp)
  obtain ⟨x, hx, hxi⟩ := slotOf_number (hslot i)
  obtain ⟨y, hy, hyj⟩ := slotOf_number (hslot j)
  rw [hsame] at hx
  obtain rfl : x = y := Option.some.inj (hx.symm.trans hy)
  exact hij (Fin.ext (stepNumberAfter_inj i.isLt j.isLt (hxi.symm.trans hyj)))

/-- The number assigned is the first, counting upward from the last, that no held step carries (R88). -/
theorem nextNumber_spec (q : Tsq) :
    q.inUse q.nextNumber = false ∧ ∃ i < 255, q.nextNumber = stepNumberAfter q.lastNumber i
      ∧ ∀ j < i, q.inUse (stepNumberAfter q.lastNumber j) = true := by
  obtain ⟨i₀, hi₀, hfree⟩ := exists_unused q
  have hsome : (((List.range 255).map (stepNumberAfter q.lastNumber)).find? fun n => !q.inUse n).isSome = true :=
    List.find?_isSome.mpr ⟨_, List.mem_map_of_mem (List.mem_range.mpr hi₀), by simp [hfree]⟩
  obtain ⟨n, hn⟩ := Option.isSome_iff_exists.mp hsome
  have hnext : q.nextNumber = n := by rw [Tsq.nextNumber, hn, Option.getD_some]
  obtain ⟨hunused, i, hi, hni, hbefore⟩ := List.find?_eq_some_iff_getElem.mp hn
  rw [hnext]
  simp only [List.length_map, List.length_range] at hi
  refine ⟨by simpa using hunused, i, hi, by simpa using hni.symm, fun j hj => ?_⟩
  simpa using hbefore j hj

/-! ### The reservation (R91) -/

/-- A reservation as TSQ makes it, before the prediction is requested (R91). -/
def Tsq.reserved (q : Tsq) (r : StepRequest) (k : SlotNo) : Tsq :=
  { q with slots := q.slots.set k (some (r.reserved q.nextNumber)), checking := q.checking ++ [k], lastNumber := q.nextNumber }

theorem reserveStep_eq (r : StepRequest) (k : SlotNo) (reply : ReplyNo) (s : State) :
    s.reserveStep r k reply = State.queuePrediction ⟨.step s.tsq.nextNumber, reply, true, []⟩ { s with tsq := s.tsq.reserved r k } := rfl

theorem reserveStep_tsq (r : StepRequest) (k : SlotNo) (reply : ReplyNo) (s : State) :
    (s.reserveStep r k reply).tsq = s.tsq.reserved r k := by
  rw [reserveStep_eq]
  exact (queuePrediction_touch _ _).tsq

end Sys2Proof.Machine

namespace Sys2Proof

/- One proof at a time: side by side they take a thread each. -/
set_option Elab.async false

open Machine

/-- Settles O37: the fields by their numbers, the checks in their order, the step reserved and its prediction queued. -/
theorem stepReserved : Obligations.StepReserved := by
  refine ⟨fun s tag body hs hphase hlen => ⟨_, rfl, ?phase⟩,
    fun s tag kind source dest target choice cls pour edge hs hphase hbytes htarget => ?range,
    fun s tag body r hs hphase hlen hparse => ?checked⟩
  case phase => exact replied_of_kept hs fun reply => judgeStepAdd_phase (s := s.opened reply 0x51 tag) hlen hphase reply
  case range =>
    intro main fits gate hout
    refine ⟨_, rfl, replied_of_kept hs fun reply =>
      judgeStepAdd_range (s := s.opened reply 0x51 tag) (by simp) hphase ?_ reply⟩
    rw [parseStepAdd_bytes hbytes htarget]
    exact Option.eq_none_iff_forall_ne_some.mpr fun r hr => hout (inRange_of_stepOfFields hr)
  case checked =>
    intro tanks outside unknown locked stale full busy status
    have hcheck (reply : ReplyNo) : (s.opened reply 0x51 tag).stepCheck r = status := stepCheck_eq r s
    refine ⟨fun st hst => ⟨_, rfl, replied_of_kept hs fun reply =>
      judgeStepAdd_refused (s := s.opened reply 0x51 tag) hlen hphase hparse ((hcheck reply).trans hst) reply⟩, fun hpass => ?_⟩
    obtain ⟨reply, hreply⟩ := hs.slot
    obtain ⟨k, hfree⟩ := freeSlot_of_stepCheck ((hcheck reply).trans hpass)
    have hjudge := judgeStepAdd_reserves (s := s.opened reply 0x51 tag) hlen hphase hparse ((hcheck reply).trans hpass) hfree reply
    have hserved := serve_deferred (kind := 0x51) (judge := judgeStepAdd body) hs.1 hreply hjudge
    have hreserved := reserveStep_touch r k reply (s.opened reply 0x51 tag)
    have htouch : Touches [.lnk, .tsq, .cen] s (s.serve 0x51 tag (judgeStepAdd body)) := by
      rw [hserved]
      exact ((opened_touch ..).seq (hreserved.seq (transmit_touch _))).mono
    have htsq : (s.serve 0x51 tag (judgeStepAdd body)).tsq = s.tsq.reserved r k := by
      rw [hserved, (transmit_touch _).tsq, reserveStep_tsq]
      rfl
    have hcen := (congrArg State.cen hserved).trans (transmit_touch _).cen
    rw [reserveStep_eq] at hcen
    obtain ⟨hempty, hlowest⟩ := tsq_freeSlot_spec (q := s.tsq) hfree
    refine ⟨_, reply, k, r.reserved s.tsq.nextNumber, rfl, deferred_of_judge hs.1 hreply hjudge hreserved.lnk, htouch.eq_but_lnk_tsq_cen,
      hempty, hlowest, congrArg Tsq.slots htsq, (congrArg Tsq.order htsq).trans rfl, congrArg Tsq.checking htsq, congrArg Tsq.lastNumber htsq,
      rfl, rfl, rfl, rfl, rfl, rfl, rfl, rfl, rfl, rfl, fun _ => nextNumber_spec s.tsq, fun hbusy => ?_, fun hflight hpending hqueue => ?_⟩
    · exact hcen.trans (queuePrediction_cen_waits (s := { s.opened reply 0x51 tag with tsq := s.tsq.reserved r k }) (.inl hbusy) _)
    · exact ⟨_, hcen.trans (queuePrediction_cen_begins (s := { s.opened reply 0x51 tag with tsq := s.tsq.reserved r k })
        hflight hpending hqueue _)⟩

end Sys2Proof
end

section
/-! PROOFS. RESTART: the steps, the plant, the engine's replies, the permit unit and the composition (R47, R108, R134, R171, R185, R217). -/

namespace Sys2Proof.Machine

/- One proof at a time: side by side they take a thread each. -/
set_option Elab.async false

open State

/-! ### The steps (R108) -/

/-- The queue with an admitted step gone (R102). -/
def Tsq.leave (q : Tsq) (k : SlotNo) : Tsq :=
  { q with slots := q.slots.set k none, order := q.order.filter fun j => j != k }

/-- The queue with a step in CHECKING gone (R93, R108). -/
def Tsq.unreserve (q : Tsq) (k : SlotNo) : Tsq :=
  { q with slots := q.slots.set k none, checking := q.checking.filter fun j => j != k }

theorem removeStep_tsq (k : SlotNo) (x : StepRec) (out : StepOutcome) (d : Disposition) (s : State) :
    (s.removeStep k x out d).tsq = s.tsq.leave k := by
  unfold removeStep
  extract_lets _ s₁ s₂
  exact (notify_touch ..).tsq.trans (stepEnd_touch ..).tsq

theorem refuseStep_tsq (k : SlotNo) (x : StepRec) (why : Reason) (s : State) : (s.refuseStep k x why).tsq = s.tsq.unreserve k := rfl

/-- The slots of a list emptied one after another. -/
def emptied (l : List SlotNo) (v : Vector (Option StepRec) 32) : Vector (Option StepRec) 32 :=
  l.foldl (fun v k => v.set k.val none) v

theorem emptied_slot (l : List SlotNo) (v : Vector (Option StepRec) 32) (k : SlotNo) :
    (emptied l v)[k] = if k ∈ l then none else v[k] := by
  induction l generalizing v with
  | nil => rfl
  | cons j l ih =>
    refine (ih _).trans ?_
    by_cases h : j = k
    · subst h
      simp
    · have hne : j.val ≠ k.val := fun e => h (Fin.ext e)
      simp [hne, Ne.symm h]

theorem filter_without (j : SlotNo) (l o : List SlotNo) :
    (o.filter fun i => i != j).filter (fun i => decide (i ∉ l)) = o.filter fun i => decide (i ∉ j :: l) := by
  rw [List.filter_filter]
  refine List.filter_congr fun i _ => ?_
  by_cases h : i = j <;> simp [h]

theorem foldl_leave (l : List SlotNo) (q : Tsq) :
    l.foldl Tsq.leave q = { q with slots := emptied l q.slots, order := q.order.filter fun j => decide (j ∉ l) } := by
  induction l generalizing q with
  | nil => simp [emptied]
  | cons j l ih =>
    rw [List.foldl_cons, ih]
    simp only [Tsq.leave, filter_without]
    rfl

theorem foldl_unreserve (l : List SlotNo) (q : Tsq) :
    l.foldl Tsq.unreserve q = { q with slots := emptied l q.slots, checking := q.checking.filter fun j => decide (j ∉ l) } := by
  induction l generalizing q with
  | nil => simp [emptied]
  | cons j l ih =>
    rw [List.foldl_cons, ih]
    simp only [Tsq.unreserve, filter_without]
    rfl

/-- Work at each slot of a list that holds steps, where each changes the queue in its own way and empties no other slot. -/
theorem foldl_tsq {g : State → SlotNo → State} {f : Tsq → SlotNo → Tsq}
    (hg : ∀ s k x, s.tsq.slots[k] = some x → (g s k).tsq = f s.tsq k)
    (hf : ∀ q k, (f q k).slots = q.slots.set k none) {l : List SlotNo} {s : State} (hnodup : l.Nodup)
    (hheld : ∀ k ∈ l, ∃ x, s.tsq.slots[k] = some x) : (l.foldl g s).tsq = l.foldl f s.tsq := by
  induction l generalizing s with
  | nil => rfl
  | cons j l ih =>
    obtain ⟨hj, hnodup⟩ := List.nodup_cons.mp hnodup
    obtain ⟨x, hx⟩ := hheld j List.mem_cons_self
    rw [List.foldl_cons, List.foldl_cons, ← hg s j x hx]
    refine ih hnodup fun k hk => ?_
    have hne : j.val ≠ k.val := fun e => hj (Fin.ext e ▸ hk)
    obtain ⟨y, hy⟩ := hheld k (List.mem_cons_of_mem j hk)
    refine ⟨y, ?_⟩
    rw [hg s j x hx]
    simpa [hf, hne] using hy

/-- What RESTART does at one slot of the queue order (R108). -/
def State.restartSlot (s : State) (k : SlotNo) : State :=
  match s.tsq.slots[k] with
  | some x => s.removeStep k x (x.outcome.getD .restarted) (x.restartDisposition (x.outcome.getD .restarted))
  | none => s

theorem restartSteps_eq (s : State) : s.restartSteps = (s.tsq.order.foldl restartSlot s).removeChecking .restarted := by
  have hslot : (atSlot (fun _ => true) fun k s => restartSlot s k) = restartSlot := by
    funext s k
    unfold atSlot
    split
    next => exact if_pos rfl
    next hk => simp only [restartSlot, hk]
  rw [← hslot]
  rfl

theorem restartSlot_tsq {s : State} {k : SlotNo} {x : StepRec} (hx : s.tsq.slots[k] = some x) :
    (s.restartSlot k).tsq = s.tsq.leave k := by
  simp only [restartSlot, hx]
  exact removeStep_tsq ..

theorem clearSlot_tsq {why : Reason} {s : State} {k : SlotNo} {x : StepRec} (hx : s.tsq.slots[k] = some x) :
    (s.clearSlot why k).tsq = s.tsq.unreserve k := by
  simp only [clearSlot, hx]
  exact refuseStep_tsq ..

theorem exists_of_holds {q : Tsq} {k : SlotNo} {test : StepRec → Bool} (h : q.holds k test = true) :
    ∃ x, q.slots[k] = some x ∧ test x = true := (Option.any_eq_true ..).mp h

/-- RESTART leaves no step in the queue (R108). -/
theorem restartSteps_tsq {s : State} (h : QueueSafe s) :
    s.restartSteps.tsq = { s.tsq with slots := emptied s.tsq.checking (emptied s.tsq.order s.tsq.slots), order := [], checking := [] } := by
  obtain ⟨horder, hchecking, hadmitted, hreserved, -⟩ := h
  have hleft : (s.tsq.order.foldl restartSlot s).tsq = s.tsq.order.foldl Tsq.leave s.tsq :=
    foldl_tsq (fun _ _ _ => restartSlot_tsq) (fun _ _ => rfl) horder fun k hk =>
      let ⟨x, hx, _⟩ := exists_of_holds ((hadmitted k).mp hk)
      ⟨x, hx⟩
  have hstill : (s.tsq.order.foldl restartSlot s).tsq.checking = s.tsq.checking := by rw [hleft, foldl_leave]
  have hcleared : (s.restartSteps).tsq = s.tsq.checking.foldl Tsq.unreserve (s.tsq.order.foldl restartSlot s).tsq := by
    rw [restartSteps_eq, removeChecking_eq, hstill]
    refine foldl_tsq (fun _ _ _ => clearSlot_tsq) (fun _ _ => rfl) hchecking fun k hk => ?_
    obtain ⟨x, hx, hstate⟩ := exists_of_holds ((hreserved k).mp hk)
    have hnot : k ∉ s.tsq.order := fun hmem => by
      obtain ⟨y, hy, hother⟩ := exists_of_holds ((hadmitted k).mp hmem)
      obtain rfl : x = y := Option.some.inj (hx.symm.trans hy)
      simp only [bne, hstate, Bool.not_true, Bool.false_eq_true] at hother
    refine ⟨x, ?_⟩
    rw [hleft, foldl_leave]
    exact (emptied_slot ..).trans ((if_neg hnot).trans hx)
  rw [hcleared, hleft, foldl_leave, foldl_unreserve]
  simp

theorem restartSteps_slot {s : State} (h : QueueSafe s) (k : SlotNo) : s.restartSteps.tsq.slots[k] = none := by
  rw [restartSteps_tsq h]
  obtain ⟨-, -, hadmitted, hreserved, -⟩ := h
  refine (emptied_slot ..).trans (ite_eq_left_iff.mpr fun hchecking => (emptied_slot ..).trans (ite_eq_left_iff.mpr fun horder => ?_))
  rcases hk : s.tsq.slots[k] with _ | x
  · rfl
  · rw [hreserved] at hchecking
    rw [hadmitted] at horder
    simp [Tsq.holds, hk] at hchecking horder
    exact absurd horder hchecking

theorem report_of_records {r r' : Rcu} (h : r.records = r'.records) : r.slot = r'.slot ∧ r.composing = r'.composing := by
  have hslot : r.records.slot = r'.records.slot := congrArg Rcu.slot h
  have hcomposing : r.records.composing = r'.records.composing := congrArg Rcu.composing h
  exact ⟨hslot, hcomposing⟩

theorem removeStep_report (k : SlotNo) (x : StepRec) (out : StepOutcome) (d : Disposition) (s : State) :
    (s.removeStep k x out d).rcu.slot = s.rcu.slot := by
  unfold removeStep
  extract_lets _ s₁ s₂
  have hlog := (report_of_records (log_unheard .stepEnd [x.number, x.kind.code, out.code, d.code] s₁).records).1
  exact (congrArg Rcu.slot (notify_touch ..).rcu).trans hlog

theorem clearSlot_report (why : Reason) (s : State) (k : SlotNo) : (s.clearSlot why k).rcu.slot = s.rcu.slot := by
  unfold clearSlot
  split
  next => rfl
  next x _ => exact (report_of_records (log_unheard .stepRefused [x.number, x.kind.code, why.code]
      { s with tsq := s.tsq.unreserve k }).records).1

theorem foldl_report {g : State → SlotNo → State} (hg : ∀ s k, (g s k).rcu.slot = s.rcu.slot) (l : List SlotNo) (s : State) :
    (l.foldl g s).rcu.slot = s.rcu.slot := by
  induction l generalizing s with
  | nil => rfl
  | cons k l ih => exact (ih _).trans (hg s k)

/-- The removal of the steps leaves the report slot (R108). -/
theorem restartSteps_report (s : State) : s.restartSteps.rcu.slot = s.rcu.slot := by
  rw [restartSteps_eq, removeChecking_eq]
  refine (foldl_report (clearSlot_report .restarted) _ _).trans (foldl_report (fun s k => ?_) _ _)
  unfold restartSlot
  split
  · exact removeStep_report ..
  · rfl

/-! ### The plant (R134) -/

theorem haltPump_same (p : PumpNo) (s : State) :
    (s.haltPump p).pva.pumps[p] = s.pva.pumps[p].halted s.now s.cfg.pumps[p].startTime := Vector.getElem_set_self ..

theorem haltPump_other {p q : PumpNo} (h : p ≠ q) (s : State) : (s.haltPump p).pva.pumps[q] = s.pva.pumps[q] :=
  Vector.getElem_set_ne p.isLt q.isLt fun e => h (Fin.ext e)

/-- A pump whose gear is 0 and whose run command is OFF. -/
def Pump.atRest (y : Pump) : Prop := y.run = false ∧ y.gear = .g0

theorem haltPump_atRest {p q : PumpNo} {s : State} (h : q = p ∨ s.pva.pumps[q].atRest) : (s.haltPump p).pva.pumps[q].atRest := by
  by_cases hpq : p = q
  · subst hpq
    rw [haltPump_same]
    exact ⟨rfl, rfl⟩
  · rw [haltPump_other hpq]
    exact h.resolve_left (Ne.symm hpq)

theorem haltPumps_atRest {l : List PumpNo} {q : PumpNo} {s : State} (h : q ∈ l ∨ s.pva.pumps[q].atRest) :
    (l.foldl (fun s p => s.haltPump p) s).pva.pumps[q].atRest := by
  induction l generalizing s with
  | nil => exact h.resolve_left List.not_mem_nil
  | cons p l ih =>
    refine ih ?_
    rw [List.mem_cons] at h
    rcases h with (hq | hq) | hq
    · exact .inr (haltPump_atRest (.inl hq))
    · exact .inl hq
    · exact .inr (haltPump_atRest (.inr hq))

theorem closeValves_pumps (l : List ValveNo) (s : State) : (s.closeValves l).pva.pumps = s.pva.pumps := by
  induction l generalizing s with
  | nil => rfl
  | cons v l ih => exact (ih _).trans rfl

theorem haltPumps_valves (l : List PumpNo) (s : State) : (l.foldl (fun s p => s.haltPump p) s).pva.valves = s.pva.valves := by
  induction l generalizing s with
  | nil => rfl
  | cons p l ih => exact (ih _).trans rfl

theorem restartPlant_pump (s : State) (p : PumpNo) : s.restartPlant.pva.pumps[p].atRest := by
  unfold restartPlant
  rw [closeValves_pumps]
  exact haltPumps_atRest (.inl (List.mem_finRange p))

theorem restartPlant_valve (s : State) (v : ValveNo) :
    s.restartPlant.pva.valves[v].open_ = false ∧ s.restartPlant.pva.valves[v].faulted = s.pva.valves[v].faulted := by
  unfold restartPlant
  refine ⟨closeValves_shut (List.mem_finRange v) _, ((closeValves_closes ..).faulted v).trans ?_⟩
  rw [haltPumps_valves]

theorem restarted_pump (a : Pva) (p : PumpNo) :
    a.restarted.pumps[p] = { a.pumps[p] with
      state := if a.pumps[p].state = .busy then .free else a.pumps[p].state, granted := none, fairness := none } :=
  Vector.getElem_ofFn ..

/-! ### The ABORTED replies (R47) -/

/-- The bytes of an ABORTED reply: a STEP_ADD's step number and the reason, nothing of a PREDICT's (R47, R108). -/
def PredictionRequest.abortedBody (q : PredictionRequest) (why : Reason) : List Byte :=
  match q.requester with
  | .step n => u8 n ++ u8 why.code
  | .predict _ => []

theorem abort_eq (why : Reason) (q : PredictionRequest) (s : State) :
    s.abort why q = s.reply q.reply .aborted (q.abortedBody why) := by
  unfold abort PredictionRequest.abortedBody
  cases q.requester <;> rfl

section Aborts
variable {why : Reason} {l : List PredictionRequest} {s : State} (hnodup : (l.map (·.reply)).Nodup)
  (hreserved : ∀ q ∈ l, ∃ kind tag, s.lnk.slots[q.reply] = .reserved kind tag)
include hnodup hreserved

/-- Every request of a list is replied ABORTED, behind the replies filled before, in the list's order (R47, R193). -/
theorem aborts_replies :
    (l.foldl (fun s q => s.abort why q) s).lnk.filled = s.lnk.filled ++ l.map (·.reply)
      ∧ ∀ q ∈ l, ∀ kind tag, s.lnk.slots[q.reply] = .reserved kind tag →
        (l.foldl (fun s q => s.abort why q) s).lnk.slots[q.reply] = .filled kind tag .aborted (q.abortedBody why) := by
  induction l generalizing s with
  | nil => exact ⟨(List.append_nil _).symm, fun _ h => absurd h List.not_mem_nil⟩
  | cons x l ih =>
    obtain ⟨hx, hnodup⟩ := List.nodup_cons.mp hnodup
    obtain ⟨kind, tag, hslot⟩ := hreserved x List.mem_cons_self
    have habort : s.abort why x = _ := (abort_eq why x s).trans (reply_reserved hslot ..)
    have hothers : ∀ q ∈ l, (s.abort why x).lnk.slots[q.reply] = s.lnk.slots[q.reply] := fun q hq =>
      abort_other (fun e => hx (List.mem_map.mpr ⟨q, hq, e⟩)) why s
    obtain ⟨hfilled, hreplies⟩ := ih hnodup (s := s.abort why x) fun q hq => by
      rw [hothers q hq]
      exact hreserved q (List.mem_cons_of_mem x hq)
    refine ⟨?_, fun q hq kind' tag' hq' => ?_⟩
    · rw [List.foldl_cons, hfilled, habort]
      simp
    · rcases List.mem_cons.mp hq with rfl | hmem
      · obtain ⟨rfl, rfl⟩ : kind = kind' ∧ tag = tag' := by simpa [hslot] using hq'
        rw [List.foldl_cons, aborted_other why _ hx, habort]
        exact Vector.getElem_set_self ..
      · exact hreplies q hmem kind' tag' ((hothers q hmem).trans hq')

end Aborts

theorem abort_tx (why : Reason) (q : PredictionRequest) (s : State) : (s.abort why q).lnk.tx = s.lnk.tx := by
  rw [abort_eq]
  unfold reply
  split <;> rfl

theorem abortAll_tx (why : Reason) (s : State) : (s.abortAll why).lnk.tx = s.lnk.tx :=
  List.foldlRecOn (motive := fun t => t.lnk.tx = s.lnk.tx) s.cen.requests _ rfl fun t ht q _ => (abort_tx why q t).trans ht

/-! ### The parts of RESTART -/

theorem requestRecompute_keepsQueue {s : State} (hqueue : s.cen.queue = []) (hflight : ∀ q snap, s.cen.inFlight ≠ some (.prediction q snap)) :
    s.requestRecompute.cen.queue = [] ∧ (∀ q snap, s.requestRecompute.cen.inFlight ≠ some (.prediction q snap))
      ∧ s.requestRecompute.cen.current = s.cen.current := by
  by_cases hphase : s.ccl.phase = .setup
  · rw [requestRecompute_setup hphase]
    exact ⟨hqueue, hflight, rfl⟩
  · by_cases hidle : s.cen.inFlight = none
    · rw [requestRecompute_idle hphase hidle]
      exact ⟨hqueue, by simp, rfl⟩
    · rw [requestRecompute_busy hphase hidle]
      exact ⟨hqueue, hflight, rfl⟩

theorem withdrawn_flight (c : Cen) (q : PredictionRequest) (snap : Snapshot) : c.withdrawn.inFlight ≠ some (.prediction q snap) := by
  unfold Cen.withdrawn
  split <;> simp

/-- RESTART withdraws every prediction and keeps the current record (R47). -/
theorem restartEngine_cen (s : State) :
    s.restartEngine.cen.queue = [] ∧ (∀ q snap, s.restartEngine.cen.inFlight ≠ some (.prediction q snap))
      ∧ s.restartEngine.cen.current = s.cen.current := by
  rw [restartEngine_eq]
  obtain ⟨hqueue, hflight, hcurrent⟩ :=
    requestRecompute_keepsQueue (s := (s.abortAll .restarted).withdrawPredictions) rfl (withdrawn_flight _)
  have hkept : (s.abortAll .restarted).cen.current = s.cen.current := congrArg Cen.current (abortAll_touch .restarted s).cen
  exact ⟨hqueue, hflight, hcurrent.trans hkept⟩

theorem restartEngine_lnk (s : State) : s.restartEngine.lnk = (s.abortAll .restarted).lnk := by
  rw [restartEngine_eq]
  exact (requestRecompute_touch _).lnk

/-- RESTART ends the attendance check and takes LOADER PERMIT off (R171). -/
theorem restartPermit_pmu (s : State) :
    s.restartPermit.pmu = { s.pmu with unit := .idle, hysteresis := false, permit := false } := by
  unfold restartPermit
  rw [evalPermit_pmu]
  simp [permitLine, withdraw]

theorem restartPermit_steady (s : State) : Steady s s.restartPermit :=
  (withdraw_steady ..).trans ((Steady.of_touches (touch_pmu _ _)).trans (evalPermit_steady ..))

theorem restartPermit_report (s : State) : s.restartPermit.rcu.slot = s.rcu.slot :=
  (report_of_records (evalPermit_unheard .restart
    { s.withdraw .challengeDue with pmu := { s.pmu with unit := .idle, hysteresis := false } }).records).1

theorem restartRecords_report (s : State) : s.restartRecords.rcu.slot = s.rcu.slot ∧ s.restartRecords.rcu.composing = none :=
  report_of_records (log_unheard .restart [s.ccl.phase.code] { s with rcu := { s.rcu with composing := none } }).records

/-- RESTART once the steps are gone and the plant stands still (R134, R217). -/
def State.atRest (s : State) : State :=
  let s := s.restartPlant.restartSteps
  { s with pva := s.pva.restarted }

theorem atRest_touch (s : State) : Touches [.pva, .tsq, .rcu, .lnk] s s.atRest :=
  ((restartPlant_touch s).seq ((restartSteps_touch _).seq (touch_pva _ _))).mono

/-- RESTART up to the start cause (R217). -/
def State.startedAgain (s : State) : State := s.atRest.restartEngine.restartPermit.restartRecords

/-- The cause of the last start is RESTART (R217). -/
def State.causedByRestart (s : State) : State := { s with ccl := { s.ccl with startCause := .restart } }

theorem causedByRestart_touch (s : State) : Touches [.ccl] s s.causedByRestart := touch_ccl s _

theorem causedByRestart_ccl (s : State) : s.causedByRestart.ccl = { s.ccl with startCause := .restart } := rfl

theorem restart_eq (s : State) : s.restart = s.startedAgain.causedByRestart := by
  unfold restart
  extract_lets s₁ s₂ s₃
  have h : s₃ = s.startedAgain := rfl
  clear_value s₃
  subst h
  rfl

theorem startedAgain_touch (s : State) : Touches [.lnk, .cen, .pmu, .rcu] s.atRest s.startedAgain :=
  ((restartEngine_touch _).seq ((restartPermit_touch _).seq (restartRecords_touch _))).mono

theorem atRest_tsq (s : State) : s.atRest.tsq = s.restartPlant.restartSteps.tsq := rfl

theorem atRest_pva (s : State) : s.atRest.pva = s.restartPlant.pva.restarted :=
  congrArg Pva.restarted (restartSteps_touch _).pva

theorem atRest_lnk (s : State) :
    s.atRest.lnk.slots = s.lnk.slots ∧ s.atRest.lnk.filled = s.lnk.filled ∧ s.atRest.lnk.tx = s.lnk.tx :=
  have h := (restartPlant_steady s).trans (restartSteps_steady _)
  ⟨h.slots, h.filled, h.tx⟩

theorem restart_of_startedAgain (s : State) : Touches [.ccl] s.startedAgain s.restart := restart_eq s ▸ causedByRestart_touch _

theorem restart_tsq (s : State) : s.restart.tsq = s.restartPlant.restartSteps.tsq :=
  ((startedAgain_touch s).seq (restart_of_startedAgain s)).tsq.trans (atRest_tsq s)

theorem restart_pva (s : State) : s.restart.pva = s.restartPlant.pva.restarted :=
  ((startedAgain_touch s).seq (restart_of_startedAgain s)).pva.trans (atRest_pva s)

theorem restart_cen (s : State) : s.restart.cen = s.atRest.restartEngine.cen :=
  (restart_of_startedAgain s).cen.trans ((restartPermit_touch _).seq (restartRecords_touch _)).cen

theorem restart_pmu (s : State) : s.restart.pmu = { s.pmu with unit := .idle, hysteresis := false, permit := false } := by
  refine (restart_of_startedAgain s).pmu.trans ((restartRecords_touch _).pmu.trans ?_)
  rw [restartPermit_pmu, (restartEngine_touch _).pmu, (atRest_touch s).pmu]

theorem restart_ccl (s : State) : s.restart.ccl = { s.ccl with startCause := .restart } := by
  have h := ((atRest_touch s).seq (startedAgain_touch s)).ccl
  rw [restart_eq, causedByRestart_ccl, h]

theorem restart_rcu (s : State) : s.restart.rcu.slot = s.rcu.slot ∧ s.restart.rcu.composing = none := by
  rw [(restart_of_startedAgain s).rcu, startedAgain]
  obtain ⟨hslot, hcomposing⟩ := restartRecords_report s.atRest.restartEngine.restartPermit
  refine ⟨hslot.trans ((restartPermit_report _).trans ?_), hcomposing⟩
  have hrest : s.atRest.rcu.slot = s.restartPlant.rcu.slot := restartSteps_report _
  rw [(restartEngine_touch _).rcu, hrest, (restartPlant_touch s).rcu]

/-- What RESTART does to the replies: the predictions', and no other (R47, R217). -/
theorem restart_lnk (s : State) :
    s.restart.lnk.slots = (s.atRest.abortAll .restarted).lnk.slots
      ∧ s.restart.lnk.filled = (s.atRest.abortAll .restarted).lnk.filled
      ∧ s.restart.lnk.tx = s.lnk.tx := by
  have hpermit := restartPermit_steady s.atRest.restartEngine
  have hrecords : s.restart.lnk = s.atRest.restartEngine.restartPermit.lnk :=
    (restart_of_startedAgain s).lnk.trans (restartRecords_touch _).lnk
  have htx : s.atRest.restartEngine.lnk.tx = s.lnk.tx := by
    rw [restartEngine_lnk, abortAll_tx]
    exact (atRest_lnk s).2.2
  rw [hrecords, ← restartEngine_lnk]
  exact ⟨hpermit.slots, hpermit.filled, hpermit.tx.trans htx⟩

/-- The replies of a request whose judgement is RESTART: each prediction's ABORTED, then its own (R47, R193, R217). -/
theorem restart_replies {s : State} {r : ReplyNo} {kind : Byte} {tag : Tag} (hlink : LinkSafe s) (hr : s.lnk.freeSlot = some r) :
    let u := (s.opened r kind tag).restart
    u.lnk.slots[r] = .reserved kind tag
      ∧ (∀ q ∈ s.cen.requests, q.reply ≠ r ∧ ∀ kind' tag', s.lnk.slots[q.reply] = .reserved kind' tag' →
          u.lnk.slots[q.reply] = .filled kind' tag' .aborted (q.abortedBody .restarted))
      ∧ u.lnk.filled = s.lnk.filled ++ s.cen.requests.map (·.reply) := by
  intro u
  obtain ⟨-, -, -, hnodup, hawaited, -, -⟩ := hlink
  obtain ⟨hslots, hfilled, -⟩ := restart_lnk (s.opened r kind tag)
  obtain ⟨hstill, hstood, -⟩ := atRest_lnk (s.opened r kind tag)
  have hcen : (s.opened r kind tag).atRest.cen = s.cen := (atRest_touch _).cen
  have habort : (s.opened r kind tag).atRest.abortAll .restarted
      = s.cen.requests.foldl (fun s q => s.abort .restarted q) (s.opened r kind tag).atRest := by rw [abortAll, hcen]
  have hfree := (freeSlot_spec hr).1
  have hnot : r ∉ s.cen.requests.map (·.reply) := by
    rw [← hawaited, hfree]
    exact Bool.false_ne_true
  have hne (q : PredictionRequest) (hq : q ∈ s.cen.requests) : q.reply ≠ r :=
    fun e => hnot (List.mem_map.mpr ⟨q, hq, e⟩)
  have hopen (q : ReplyNo) (h : q ≠ r) : (s.opened r kind tag).atRest.lnk.slots[q] = s.lnk.slots[q] := by
    rw [hstill]
    exact Vector.getElem_set_ne r.isLt q.isLt fun e => h (Fin.ext e.symm)
  have hreserved : ∀ q ∈ s.cen.requests, ∃ kind' tag', (s.opened r kind tag).atRest.lnk.slots[q.reply] = .reserved kind' tag' := by
    intro q hq
    rw [hopen q.reply (hne q hq)]
    have hres := (hawaited q.reply).mpr (List.mem_map_of_mem hq)
    rcases hslot : s.lnk.slots[q.reply] with _ | ⟨kind', tag'⟩ | _
    · simp [hslot, ReplySlot.isReserved] at hres
    · exact ⟨kind', tag', rfl⟩
    · simp [hslot, ReplySlot.isReserved] at hres
  obtain ⟨hbehind, hreplies⟩ := aborts_replies (why := .restarted) hnodup hreserved
  rw [← habort] at hbehind hreplies
  refine ⟨?_, fun q hq => ⟨hne q hq, fun kind' tag' hslot => ?_⟩, ?_⟩
  · rw [hslots, habort, aborted_other .restarted _ hnot, hstill]
    exact Vector.getElem_set_self ..
  · rw [hslots]
    exact hreplies q hq kind' tag' ((hopen q.reply (hne q hq)).trans hslot)
  · rw [hfilled, hbehind, hstood]
    rfl

/-- A request answered at once while a frame is being sent has its reply behind those filled before it (R193). -/
theorem served_filled {s t : State} {r : ReplyNo} {kind : Byte} {tag : Tag} {st : Status} {body : List Byte}
    {judge : ReplyNo → State → Judged} (hs : s.serving) (hr : s.lnk.freeSlot = some r)
    (hj : judge r (s.opened r kind tag) = (t, some ⟨st, body⟩)) (hown : t.lnk.slots[r] = .reserved kind tag)
    (hbusy : t.lnk.tx ≠ .idle) : (s.serve kind tag judge).lnk.filled = t.lnk.filled ++ [r] := by
  rw [serve_eq hs.1 hr, hj]
  simp only []
  rw [reply_reserved hown, transmit_busy]
  exact hbusy

/-- The service of RESTART from its judgement (R193, R217). -/
theorem restart_served {s : State} {tag : Tag} {r : ReplyNo} (hs : s.serving) (hr : s.lnk.freeSlot = some r)
    (hown : (s.opened r 0xB4 tag).restart.lnk.slots[r] = .reserved 0xB4 tag) :
    ∃ t, exec (.restart tag []) s = .next t ∧ Touches [.lnk] (s.opened r 0xB4 tag).restart t
      ∧ t.lnk.slots = (s.opened r 0xB4 tag).restart.lnk.slots.set r (.filled 0xB4 tag .ok [])
      ∧ (s.lnk.tx ≠ .idle → t.lnk.filled = (s.opened r 0xB4 tag).restart.lnk.filled ++ [r]) := by
  have hjudge : (fun _ : ReplyNo => anyPhase (lengthIs 0 []) (some ()) fun _ s => taken s.restart) r (s.opened r 0xB4 tag)
      = ((s.opened r 0xB4 tag).restart, some ⟨.ok, []⟩) := anyPhase_act rfl rfl
  refine ⟨_, rfl, serve_touch hs.1 hr hjudge, served_slots hs hr hjudge hown, fun htx => ?_⟩
  have hsame : (s.opened r 0xB4 tag).restart.lnk.tx = s.lnk.tx := (restart_lnk _).2.2
  exact served_filled hs hr hjudge hown (by rwa [hsame])

end Sys2Proof.Machine

namespace Sys2Proof

/- One proof at a time: side by side they take a thread each. -/
set_option Elab.async false

open Machine

/-- Settles O60: each block's part of RESTART, and the replies in their order. -/
theorem restartTaken : Obligations.RestartTaken := by
  intro s tag hs hqueue hlink
  obtain ⟨r, hr⟩ := hs.slot
  obtain ⟨hown, hreplies, hfilled⟩ := restart_replies (kind := 0xB4) (tag := tag) hlink hr
  obtain ⟨t, hexec, htouch, hslots, hbusy⟩ := restart_served hs hr hown
  obtain ⟨hempty, hnone, hcurrent⟩ := restartEngine_cen (s.opened r 0xB4 tag).atRest
  obtain ⟨hslot, hcomposing⟩ := restart_rcu (s.opened r 0xB4 tag)
  obtain ⟨-, -, -, hnodup, hawaited, -, -⟩ := hlink
  have hother (q : ReplyNo) (h : q ≠ r) : t.lnk.slots[q] = (s.opened r 0xB4 tag).restart.lnk.slots[q] := by
    rw [hslots]
    exact Vector.getElem_set_ne r.isLt q.isLt fun e => h (Fin.ext e.symm)
  have hqueue' : QueueSafe (s.opened r 0xB4 tag).restartPlant := by
    have h := restartPlant_touch (s.opened r 0xB4 tag)
    rw [QueueSafe, h.tsq, h.cen]
    exact hqueue
  have htsq := htouch.tsq.trans (restart_tsq (s.opened r 0xB4 tag))
  have hpva := htouch.pva.trans (restart_pva (s.opened r 0xB4 tag))
  have hcen := htouch.cen.trans (restart_cen (s.opened r 0xB4 tag))
  have hpmu := htouch.pmu.trans (restart_pmu (s.opened r 0xB4 tag))
  have hrcu := htouch.rcu
  have hlists := htsq.trans (restartSteps_tsq hqueue')
  have hplant : (s.opened r 0xB4 tag).restartPlant.tsq = s.tsq := (restartPlant_touch _).tsq
  have habandoned (q : PredictionRequest) (hq : q ∈ s.cen.requests) (kind : Byte) (rtag : Tag)
      (hres : s.lnk.slots[q.reply] = .reserved kind rtag) :
      t.lnk.slots[q.reply] = .filled kind rtag .aborted (q.abortedBody .restarted) := by
    obtain ⟨hne, hfill⟩ := hreplies q hq
    rw [hother q.reply hne]
    exact hfill kind rtag hres
  refine ⟨t, hexec, ((opened_touch r 0xB4 tag s).seq ((restart_touch _).seq htouch)).mono,
    htouch.ccl.trans (restart_ccl (s.opened r 0xB4 tag)), fun k => ?slot, by rw [hlists], by rw [hlists], by rw [hlists, hplant],
    fun p => ?pump, fun v => ?valve, by rw [hpva]; rfl, by rw [hpva]; rfl, by rw [hpva]; rfl, by rw [hpva]; rfl,
    by rw [hcen]; exact hempty, by rw [hcen]; exact hnone, ?current, by rw [hpmu], by rw [hpmu], by rw [hpmu], by rw [hpmu]; rfl,
    by rw [hpmu]; rfl, by rw [hpmu]; rfl, by rw [hpmu]; rfl, by rw [hrcu]; exact hcomposing, by rw [hrcu]; exact hslot,
    fun q kind rtag hres => ?aborted, fun q hq kind rtag hres => ?each, fun q hq => ?own⟩
  case slot =>
    rw [htsq]
    exact restartSteps_slot hqueue' k
  case pump =>
    obtain ⟨hrun, hgear⟩ := restartPlant_pump (s.opened r 0xB4 tag) p
    rw [hpva, restarted_pump]
    refine ⟨hrun, hgear, ?_, rfl, rfl⟩
    dsimp only
    split
    · exact PumpState.noConfusion
    · assumption
  case valve =>
    rw [hpva]
    exact restartPlant_valve (s.opened r 0xB4 tag) v
  case current =>
    rw [hcen, hcurrent, (atRest_touch _).cen]
    rfl
  case aborted =>
    obtain ⟨x, hx, rfl⟩ := List.mem_map.mp ((hawaited q).mp (by rw [hres]; rfl))
    exact ⟨_, habandoned x hx kind rtag hres⟩
  case each => exact (habandoned q hq kind rtag hres).trans rfl
  case own =>
    obtain rfl : r = q := Option.some.inj (hr.symm.trans hq)
    refine ⟨?_, fun htx => by rw [hbusy htx, hfilled]⟩
    rw [hslots]
    exact Vector.getElem_set_self ..

end Sys2Proof
end

section
/-! PROOFS. A completed current record: what LSL, PMU and RCU take of it (R69 to R72, R75, R78, R79, R165, R175, R177, R179). -/

namespace Sys2Proof.Machine

/- One proof at a time: side by side they take a thread each. -/
set_option Elab.async false

open State

/-! ### The log: an entry stands while few follow it (R174) -/

/-- An entry of this kind and these parameters stands in the log with at most `d` behind it. -/
def Rcu.Stands (r : Rcu) (d : Nat) (k : EntryKind) (ps : Vector Nat 4) : Prop :=
  ∃ before e behind, r.log = before ++ e :: behind ∧ behind.length ≤ d ∧ e.kind = k ∧ e.params = ps

/-- At most `c` entries are handed to RCU. -/
structure Few (c : Nat) (s t : State) : Prop where
  next : ∀ m, s.rcu.nextSequence = some m → m + c ≤ Config.maxU32 → ∃ j ≤ c, t.rcu.nextSequence = some (m + j)
  stands : ∀ d k ps, d + c < Config.logCapacity → s.rcu.Stands d k ps → t.rcu.Stands (d + c) k ps

namespace Few

variable {c c' : Nat} {s t u : State}

theorem of_log (hlog : t.rcu.log = s.rcu.log) (hnext : t.rcu.nextSequence = s.rcu.nextSequence) : Few 0 s t where
  next m hm _ := ⟨0, Nat.le_refl 0, hnext.trans hm⟩
  stands d k ps _ h := by
    unfold Rcu.Stands
    rw [hlog]
    exact h

theorem of_touches {l : List Part} (h : Touches l s t) (hr : Part.rcu ∉ l := by decide) : Few 0 s t :=
  of_log (by rw [h.rcu hr]) (by rw [h.rcu hr])

theorem trans (h : Few c s t) (g : Few c' t u) : Few (c + c') s u where
  next m hm hfew := by
    obtain ⟨j, hj, ht⟩ := h.next m hm (by omega)
    obtain ⟨j', hj', hu⟩ := g.next (m + j) ht (by omega)
    exact ⟨j + j', by omega, hu.trans (by rw [Nat.add_assoc])⟩
  stands d k ps hd hs := by
    rw [← Nat.add_assoc]
    exact g.stands (d + c) k ps (by omega) (h.stands d k ps (by omega) hs)

theorem mono (h : Few c s t) (hc : c ≤ c') : Few c' s t where
  next m hm hfew := by
    obtain ⟨j, hj, ht⟩ := h.next m hm (by omega)
    exact ⟨j, by omega, ht⟩
  stands d k ps hd hs := by
    obtain ⟨before, e, behind, hlog, hlen, hk, hps⟩ := h.stands d k ps (by omega) hs
    exact ⟨before, e, behind, hlog, by omega, hk, hps⟩

theorem ite {p : Prop} [Decidable p] (h : Few c s t) (g : Few c s u) : Few c s (if p then t else u) := by
  split <;> assumption

end Few

theorem log_few (k : EntryKind) (ps : List Nat) (s : State) : Few 1 s (s.log k ps) := by
  have hcap : Config.logCapacity = 1024 := rfl
  rcases log_cases k ps s with ⟨hnone, hlog⟩ | ⟨n, e, hn, -, -, -, -, hlog, -, hnext, -⟩
  · refine ⟨fun m hm _ => absurd (hnone.symm.trans hm) (by simp), fun d k' ps' _ ⟨before, e, behind, hs, hlen, hk, hps⟩ => ?_⟩
    exact ⟨before, e, behind, by rw [hlog]; exact hs, by omega, hk, hps⟩
  · refine ⟨fun m hm hroom => ?_, fun d k' ps' hd ⟨before, x, behind, hs, hlen, hk, hps⟩ => ?_⟩
    · obtain rfl : n = m := Option.some.inj (hn.symm.trans hm)
      exact ⟨1, Nat.le_refl 1, hnext.trans (if_neg (by omega))⟩
    · rw [hs] at hlog
      split at hlog
      next hfull =>
        rcases before with _ | ⟨first, before⟩
        · simp at hfull
          omega
        · exact ⟨before, x, behind ++ [e], by simpa using hlog, by simp; omega, hk, hps⟩
      next => exact ⟨before, x, behind ++ [e], by simpa using hlog, by simp; omega, hk, hps⟩

/-- An entry written to a log that is not EXHAUSTED stands last (R174). -/
theorem log_stands {s : State} {m : Nat} (hm : s.rcu.nextSequence = some m) (k : EntryKind) (a b c d : Nat) :
    (s.log k [a, b, c, d]).rcu.Stands 0 k #v[a, b, c, d] := by
  simp only [State.log, Rcu.write, hm]
  exact ⟨_, _, [], rfl, Nat.le_refl 0, rfl, rfl⟩

/-- At most `c` entries are handed to RCU, and of its records nothing else changes. -/
structure Writes (c : Nat) (s t : State) : Prop extends Few c s t where
  records : t.rcu.records = s.rcu.records

namespace Writes

variable {c c' : Nat} {s t u : State}

theorem of_touches {l : List Part} (h : Touches l s t) (hr : Part.rcu ∉ l := by decide) : Writes 0 s t :=
  ⟨.of_touches h hr, by rw [h.rcu hr]⟩

theorem trans (h : Writes c s t) (g : Writes c' t u) : Writes (c + c') s u := ⟨h.toFew.trans g.toFew, g.records.trans h.records⟩

theorem mono (h : Writes c s t) (hc : c ≤ c') : Writes c' s t := ⟨h.toFew.mono hc, h.records⟩

theorem ite {p : Prop} [Decidable p] (h : Writes c s t) (g : Writes c s u) : Writes c s (if p then t else u) := by
  split <;> assumption

end Writes

theorem log_writes (k : EntryKind) (ps : List Nat) (s : State) : Writes 1 s (s.log k ps) :=
  ⟨log_few k ps s, (log_unheard k ps s).records⟩

theorem notify_writes (n : Notice) (c : List Byte) (s : State) : Writes 0 s (s.notify n c) := .of_touches (notify_touch n c s)

theorem evalPermit_writes (c : PermitCause) (s : State) : Writes 1 s (s.evalPermit c) :=
  .ite (Writes.mono (.of_touches (.refl [] s)) (Nat.zero_le 1))
    ((Writes.of_touches (touch_pmu s _)).trans ((log_writes ..).trans (notify_writes ..)))

theorem stopTaken_writes (b : Bool) (s : State) : Writes 1 s (s.stopTaken b) :=
  .ite (Writes.mono (.of_touches (.refl [] s)) (Nat.zero_le 1)) (evalPermit_writes ..)

theorem stopEvaluated_writes (f : Lsl → Lsl) (s : State) : Writes 1 s (s.stopEvaluated f) := by
  unfold stopEvaluated
  extract_lets old l s₁ s₂
  have h₁ : Writes 0 s s₁ := .of_touches (touch_lsl s _)
  have h₂ : Writes 1 s₁ s₂ := .ite (log_writes ..) (.ite (log_writes ..) (Writes.mono (.of_touches (.refl [] _)) (Nat.zero_le 1)))
  exact h₁.trans (h₂.trans (Writes.ite (notify_writes ..) (.of_touches (.refl [] _))))

theorem alarmEvent_writes (g : AlarmGroup) (source item : Nat) (s : State) : Writes 1 s (s.alarmEvent g source item) := by
  have h := log_writes .alarm [g.code, source, item, s.cfg.alarm.masked[g.ix].toNat] s
  have hrcu := alarmEvent_rcu g source item s
  refine ⟨h.toFew.trans (.of_log (congrArg Rcu.log hrcu) (congrArg Rcu.nextSequence hrcu)), ?_⟩
  rw [hrcu]
  exact h.records

/-! ### The notices and the alarm groups that work leaves alone (R78, R194) -/

/-- Of the groups' flags only those of `gs` change, of the notices only those at `ps`. -/
structure Kept (gs : List AlarmGroup) (ps : List PlaceNo) (s t : State) : Prop where
  groups : ∀ g : AlarmGroup, g ∉ gs → t.lsl.groups[g.ix] = s.lsl.groups[g.ix]
  notices : ∀ p : PlaceNo, p ∉ ps → t.lnk.notices[p] = s.lnk.notices[p]
  enabled : t.lnk.enabled = s.lnk.enabled
  tx : t.lnk.tx = s.lnk.tx

namespace Kept

variable {gs gs' : List AlarmGroup} {ps ps' : List PlaceNo} {s t u : State}

theorem of_same (hlsl : t.lsl.groups = s.lsl.groups) (hlnk : t.lnk = s.lnk) : Kept gs ps s t :=
  ⟨fun _ _ => by rw [hlsl], fun _ _ => by rw [hlnk], by rw [hlnk], by rw [hlnk]⟩

theorem refl (s : State) : Kept gs ps s s := of_same rfl rfl

theorem of_touches {l : List Part} (h : Touches l s t) (hl : Part.lsl ∉ l := by decide) (hk : Part.lnk ∉ l := by decide) :
    Kept gs ps s t := of_same (by rw [h.lsl hl]) (h.lnk hk)

theorem trans (h : Kept gs ps s t) (g : Kept gs' ps' t u) : Kept (gs ++ gs') (ps ++ ps') s u where
  groups a ha := by
    obtain ⟨h₁, h₂⟩ := not_or.mp (mt List.mem_append.mpr ha)
    exact (g.groups a h₂).trans (h.groups a h₁)
  notices p hp := by
    obtain ⟨h₁, h₂⟩ := not_or.mp (mt List.mem_append.mpr hp)
    exact (g.notices p h₂).trans (h.notices p h₁)
  enabled := g.enabled.trans h.enabled
  tx := g.tx.trans h.tx

theorem mono (h : Kept gs ps s t) (hg : gs ⊆ gs' := by decide) (hp : ps ⊆ ps' := by decide) : Kept gs' ps' s t :=
  ⟨fun a ha => h.groups a fun hm => ha (hg hm), fun p hm => h.notices p fun hq => hm (hp hq), h.enabled, h.tx⟩

theorem ite {p : Prop} [Decidable p] (h : Kept gs ps s t) (g : Kept gs ps s u) : Kept gs ps s (if p then t else u) := by
  split <;> assumption

theorem enables (h : Kept gs ps s t) (code : Nat) : t.lnk.enables code = s.lnk.enables code := by
  rw [Lnk.enables, h.enabled, Lnk.enables]

end Kept

theorem notify_kept (n : Notice) (c : List Byte) (s : State) : Kept [] [n.place] s (s.notify n c) where
  groups _ _ := by rw [(notify_touch n c s).lsl]
  notices p hp := by
    have hne : n.place.val ≠ p.val := fun e => hp (List.mem_singleton.mpr (Fin.ext e.symm))
    unfold notify
    split
    · exact Vector.getElem_set_ne n.place.isLt p.isLt hne
    · rfl
  enabled := (notify_steady n c s).enabled
  tx := (notify_steady n c s).tx

theorem evalPermit_kept (c : PermitCause) (s : State) : Kept [] [1] s (s.evalPermit c) :=
  .ite (.refl s) ((Kept.of_touches (gs := []) (ps := []) (touch_pmu s _)).trans
    ((Kept.of_touches (gs := []) (ps := []) (log_touch ..)).trans (notify_kept .permitChanged ..)))

theorem stopTaken_kept (b : Bool) (s : State) : Kept [] [1] s (s.stopTaken b) := .ite (.refl s) (evalPermit_kept ..)

/-- An evaluation of LOADER STOP at a change that leaves the groups' flags leaves them too, and makes its own notice at most (R75). -/
theorem stopEvaluated_kept {f : Lsl → Lsl} (hf : ∀ l, (f l).groups = l.groups) (s : State) : Kept [] [0] s (s.stopEvaluated f) := by
  unfold stopEvaluated
  extract_lets old l s₁ s₂
  have h₁ : Kept [] [] s s₁ := .of_same (hf s.lsl) rfl
  have h₂ : Kept [] [] s₁ s₂ := .ite (.of_touches (log_touch ..)) (.ite (.of_touches (log_touch ..)) (.refl _))
  exact h₁.trans (h₂.trans (Kept.ite (notify_kept .stopChanged ..) (.refl _)))

theorem ix_inj {g h : AlarmGroup} (e : g.ix = h.ix) : g = h := by
  cases g <;> cases h <;> simp [AlarmGroup.ix] at e ⊢

theorem group_other {g h : AlarmGroup} (hne : h ∉ [g]) : g.ix.val ≠ h.ix.val :=
  fun e => hne (List.mem_singleton.mpr (ix_inj (Fin.ext e)).symm)

theorem setCause_kept (g : AlarmGroup) (b : Bool) (s : State) : Kept [g] [] s (s.setCause g b) where
  groups h hne := by
    rw [setCause_lsl]
    exact Vector.getElem_set_ne g.ix.isLt h.ix.isLt (group_other hne)
  notices _ _ := by rw [(setCause_touch g b s).lnk]
  enabled := by rw [(setCause_touch g b s).lnk]
  tx := by rw [(setCause_touch g b s).lnk]

theorem alarmEvent_kept (g : AlarmGroup) (source item : Nat) (s : State) : Kept [g] [2] s (s.alarmEvent g source item) where
  groups h hne := by
    cases hm : s.cfg.alarm.masked[g.ix] with
    | true => rw [alarmEvent_masked g source item s hm]
    | false =>
      rw [alarmEvent_unmasked g source item s hm]
      exact Vector.getElem_set_ne g.ix.isLt h.ix.isLt (group_other hne)
  notices p hp := by
    unfold alarmEvent
    extract_lets masked s₁ s₂ s₃ s₄
    have h₁ : Touches [.lsl] s s₁ := .ite (.refl _ s) (touch_lsl s _)
    have h₂ : Touches [.rcu] s₁ s₂ := log_touch ..
    have h₄ : Touches [.lsl] s₃ s₄ := .ite (.refl _ _) (startPulse_touch _)
    rw [(h₄.trans (evalAlarm_touch s₄)).lnk, (notify_kept .alarm ..).notices p hp, (h₁.seq h₂).lnk]
  enabled := (alarmEvent_steady ..).enabled
  tx := (alarmEvent_steady ..).tx

/-! ### What an alarm event leaves of LOADER STOP and of the bands (R75, R78) -/

/-- LSL without its alarm groups and what feeds them: LOADER STOP with its causes, and the bands. -/
def Lsl.beyondAlarms (l : Lsl) : Lsl :=
  { l with groups := .replicate 4 ⟨false, false⟩, pulseUntil := none, alarmLine := false, paceLagging := false, counterLow := false }

theorem setCause_beyondAlarms (g : AlarmGroup) (b : Bool) (s : State) : (s.setCause g b).lsl.beyondAlarms = s.lsl.beyondAlarms := rfl

theorem alarmEvent_beyondAlarms (g : AlarmGroup) (source item : Nat) (s : State) :
    (s.alarmEvent g source item).lsl.beyondAlarms = s.lsl.beyondAlarms := by
  cases hm : s.cfg.alarm.masked[g.ix] with
  | true =>
    rw [alarmEvent_masked g source item s hm]
    rfl
  | false =>
    rw [alarmEvent_unmasked g source item s hm]
    rfl

/-- The bands LSL holds, its STOP run count and its CONDITION cause stand, and so does a line that the CONDITION cause holds ON. -/
structure BandsStand (s t : State) : Prop where
  classBands : t.lsl.classBands = s.lsl.classBands
  overallBand : t.lsl.overallBand = s.lsl.overallBand
  bandSequence : t.lsl.bandSequence = s.lsl.bandSequence
  stopRun : t.lsl.stopRun = s.lsl.stopRun
  condition : t.lsl.causes.condition = s.lsl.causes.condition
  line : s.lsl.causes.condition = true → s.lsl.line = true → t.lsl.line = true

namespace BandsStand

variable {s t u : State}

theorem of_lsl (h : t.lsl = s.lsl) : BandsStand s t := by
  constructor <;> rw [h]
  exact fun _ hl => hl

theorem of_beyondAlarms (h : t.lsl.beyondAlarms = s.lsl.beyondAlarms) : BandsStand s t where
  classBands := by have := congrArg Lsl.classBands h; exact this
  overallBand := by have := congrArg Lsl.overallBand h; exact this
  bandSequence := by have := congrArg Lsl.bandSequence h; exact this
  stopRun := by have := congrArg Lsl.stopRun h; exact this
  condition := by have := congrArg (fun l => l.causes.condition) h; exact this
  line _ hl := by
    have : t.lsl.line = s.lsl.line := by have := congrArg Lsl.line h; exact this
    rw [this, hl]

theorem trans (h : BandsStand s t) (g : BandsStand t u) : BandsStand s u where
  classBands := g.classBands.trans h.classBands
  overallBand := g.overallBand.trans h.overallBand
  bandSequence := g.bandSequence.trans h.bandSequence
  stopRun := g.stopRun.trans h.stopRun
  condition := g.condition.trans h.condition
  line hc hl := g.line (h.condition.trans hc) (h.line hc hl)

theorem of_touches {l : List Part} (h : Touches l s t) (hl : Part.lsl ∉ l := by decide) : BandsStand s t := of_lsl (h.lsl hl)

theorem ite {p : Prop} [Decidable p] (h : BandsStand s t) (g : BandsStand s u) : BandsStand s (if p then t else u) := by
  split <;> assumption

end BandsStand

/-- A report of counter-at-zero leaves the CONDITION cause, and a line it holds ON (R73, R75). -/
theorem counterCause_bandsStand (b : Bool) (s : State) : BandsStand s (s.counterCause b) := by
  have h : (s.counterCause b).lsl = s.lsl.evaluated { s.lsl with causes := { s.lsl.causes with counter := b } } := stopEvaluated_lsl ..
  constructor <;> rw [h]
  case line =>
    intro hcondition _
    rw [evaluated_line, Bool.or_eq_true]
    left
    simp [StopCauses.any, hcondition]
  all_goals rfl

/-! ### The counter's consequences at LSL and PMU (R165, R168) -/

/-- The conditions of the counter noted by PMU, before LSL hears of them (R168). -/
def State.conditionsNoted (s : State) : State :=
  { s with pmu := { s.pmu with
    lowReported := decide (s.pmu.counter < s.cfg.permit.lower), zeroAsserted := decide (s.pmu.counter = 0) && s.cfg.permit.zeroStop } }

/-- Counter-low reported, where it changes (R168). -/
def State.lowHeard (s : State) : State :=
  if decide (s.pmu.counter < s.cfg.permit.lower) = s.pmu.lowReported then s.conditionsNoted
  else s.conditionsNoted.counterLowReport (decide (s.pmu.counter < s.cfg.permit.lower))

theorem reportConditions_eq (s : State) :
    s.reportConditions =
      if (decide (s.pmu.counter = 0) && s.cfg.permit.zeroStop) = s.pmu.zeroAsserted then s.lowHeard
      else s.lowHeard.counterCause (decide (s.pmu.counter = 0) && s.cfg.permit.zeroStop) := rfl

/-- LSL with counter-low noted, before an alarm event (R80). -/
def State.lowNoted (low : Bool) (s : State) : State := { s with lsl := { s.lsl with counterLow := low } }.paceCause

theorem counterLowReport_eq (low : Bool) (s : State) :
    s.counterLowReport low = if low then (s.lowNoted low).alarmEvent .pace 21 noneCode else s.lowNoted low := rfl

theorem lowNoted_touch (low : Bool) (s : State) : Touches [.lsl] s (s.lowNoted low) := (touch_lsl s _).trans (paceCause_touch _)

theorem lowNoted_kept (low : Bool) (s : State) : Kept [.pace] [] s (s.lowNoted low) :=
  have hnoted : Kept [] [] s { s with lsl := { s.lsl with counterLow := low } } := .of_same rfl rfl
  hnoted.trans (setCause_kept .pace ..)

theorem counterLowReport_writes (low : Bool) (s : State) : Writes 1 s (s.counterLowReport low) := by
  rw [counterLowReport_eq]
  have h : Writes 0 s (s.lowNoted low) := .of_touches (lowNoted_touch ..)
  exact .ite (h.trans (alarmEvent_writes ..)) (h.mono (Nat.zero_le 1))

theorem counterLowReport_kept (low : Bool) (s : State) : Kept [.pace] [2] s (s.counterLowReport low) := by
  rw [counterLowReport_eq]
  exact .ite ((lowNoted_kept low s).trans (alarmEvent_kept ..)).mono (lowNoted_kept low s).mono

theorem counterLowReport_bandsStand (low : Bool) (s : State) : BandsStand s (s.counterLowReport low) := by
  rw [counterLowReport_eq]
  have h : BandsStand s (s.lowNoted low) := .of_beyondAlarms rfl
  exact .ite (h.trans (.of_beyondAlarms (alarmEvent_beyondAlarms ..))) h

/-- What the consequences of a counter's change leave alone: nearly all the log, every group but PACE, the bands. -/
structure Consequent (c : Nat) (s t : State) : Prop where
  writes : Writes c s t
  kept : Kept [.pace] [0, 1, 2] s t
  bands : BandsStand s t

namespace Consequent

variable {c c' : Nat} {s t u : State}

theorem of_touches {l : List Part} (h : Touches l s t) (hl : Part.lsl ∉ l := by decide) (hk : Part.lnk ∉ l := by decide)
    (hr : Part.rcu ∉ l := by decide) : Consequent 0 s t := ⟨.of_touches h hr, .of_touches h hl hk, .of_touches h hl⟩

theorem trans (h : Consequent c s t) (g : Consequent c' t u) : Consequent (c + c') s u :=
  ⟨h.writes.trans g.writes, (h.kept.trans g.kept).mono, h.bands.trans g.bands⟩

theorem mono (h : Consequent c s t) (hc : c ≤ c') : Consequent c' s t := ⟨h.writes.mono hc, h.kept, h.bands⟩

theorem ite {p : Prop} [Decidable p] (h : Consequent c s t) (g : Consequent c s u) : Consequent c s (if p then t else u) := by
  split <;> assumption

theorem refl (s : State) : Consequent c s s := (of_touches (.refl [] s)).mono (Nat.zero_le c)

end Consequent

theorem evalPermit_consequent (c : PermitCause) (s : State) : Consequent 1 s (s.evalPermit c) :=
  ⟨evalPermit_writes c s, (evalPermit_kept c s).mono, .of_touches (evalPermit_touch c s)⟩

theorem stopTaken_consequent (b : Bool) (s : State) : Consequent 1 s (s.stopTaken b) :=
  ⟨stopTaken_writes b s, (stopTaken_kept b s).mono, .of_touches (stopTaken_touch b s)⟩

theorem counterCause_kept (b : Bool) (s : State) : Kept [] [0] s (s.counterCause b) :=
  stopEvaluated_kept (f := fun l => { l with causes := { l.causes with counter := b } }) (fun _ => rfl) s

theorem counterCause_consequent (b : Bool) (s : State) : Consequent 1 s (s.counterCause b) :=
  ⟨stopEvaluated_writes .., (counterCause_kept b s).mono, counterCause_bandsStand b s⟩

theorem conditionsNoted_touch (s : State) : Touches [.pmu] s s.conditionsNoted := touch_pmu s _

theorem lowHeard_consequent (s : State) : Consequent 1 s s.lowHeard := by
  have h : Consequent 0 s s.conditionsNoted := .of_touches (conditionsNoted_touch s)
  have hlow (b : Bool) : Consequent 1 s.conditionsNoted (s.conditionsNoted.counterLowReport b) :=
    ⟨counterLowReport_writes .., (counterLowReport_kept ..).mono, counterLowReport_bandsStand ..⟩
  exact .ite (h.mono (Nat.zero_le 1)) (h.trans (hlow _))

theorem reportConditions_consequent (s : State) : Consequent 2 s s.reportConditions := by
  rw [reportConditions_eq]
  exact .ite ((lowHeard_consequent s).mono (by decide)) ((lowHeard_consequent s).trans (counterCause_consequent ..))

/-! ### One event of the counter (R165) -/

/-- The counter's change noted by PMU: COUNTER_ZERO and the hysteresis state (R165). -/
def State.counterNoted (hysteresis : Bool) (s : State) : State :=
  let s := if s.pmu.counter = 0 then s.setFlag .counterZero else s
  { s with pmu := { s.pmu with hysteresis := hysteresis } }

/-- PMU's own evaluations of LOADER PERMIT behind the reports (R165, R169). -/
def State.permitSettled (changed : Bool) (line : Bool) (s : State) : State :=
  (if changed then s.evalPermit .counter else s).stopTaken line

theorem counterSettled_eq (hysteresis : Bool) (s : State) :
    s.counterSettled hysteresis =
      (s.counterNoted hysteresis).reportConditions.permitSettled (!decide (hysteresis = s.pmu.hysteresis)) s.lsl.line := by
  unfold counterSettled permitSettled
  extract_lets was line s₁ _ s₂ s₃ s₄
  have h : s₃ = (s.counterNoted hysteresis).reportConditions := rfl
  clear_value s₃
  subst h
  by_cases hsame : hysteresis = s.pmu.hysteresis
  · have h₄ : s₄ = (s.counterNoted hysteresis).reportConditions := if_pos hsame
    rw [h₄, decide_eq_true hsame]
    rfl
  · have h₄ : s₄ = (s.counterNoted hysteresis).reportConditions.evalPermit .counter := if_neg hsame
    rw [h₄, decide_eq_false hsame]
    rfl

theorem counterNoted_touch (h : Bool) (s : State) : Touches [.pmu] s (s.counterNoted h) :=
  (Touches.ite (setFlag_touch ..) (.refl _ s)).trans (touch_pmu _ _)

theorem permitSettled_consequent (b line : Bool) (s : State) : Consequent 2 s (s.permitSettled b line) :=
  (Consequent.ite (evalPermit_consequent ..) (.refl s)).trans (stopTaken_consequent ..)

theorem counterSettled_consequent (h : Bool) (s : State) : Consequent 4 s (s.counterSettled h) := by
  rw [counterSettled_eq]
  exact (Consequent.of_touches (counterNoted_touch h s)).trans
    ((reportConditions_consequent _).trans (permitSettled_consequent ..))

theorem permitEvent_consequent (good : Bool) (s : State) : Consequent 4 s (s.permitEvent good) :=
  .ite (.refl s) ((Consequent.of_touches (setCounter_touch ..)).trans (counterSettled_consequent ..))

/-! ### The counter -/

theorem counterNoted_counter (h : Bool) (s : State) :
    (s.counterNoted h).pmu.counter = s.pmu.counter ∧ (s.counterNoted h).pmu.lowReported = s.pmu.lowReported := by
  unfold counterNoted
  extract_lets s₁ s₂
  have h₁ : s₁.pmu.counter = s.pmu.counter ∧ s₁.pmu.lowReported = s.pmu.lowReported := by
    unfold s₁
    split <;> exact ⟨rfl, rfl⟩
  exact h₁

theorem evalPermit_counter (c : PermitCause) (s : State) : (s.evalPermit c).pmu.counter = s.pmu.counter := by rw [evalPermit_pmu]

theorem stopTaken_counter (b : Bool) (s : State) : (s.stopTaken b).pmu.counter = s.pmu.counter := by
  unfold stopTaken
  split
  · rfl
  · exact evalPermit_counter ..

theorem permitSettled_counter (b line : Bool) (s : State) : (s.permitSettled b line).pmu.counter = s.pmu.counter := by
  refine (stopTaken_counter ..).trans ?_
  split
  · exact evalPermit_counter ..
  · rfl

theorem lowHeard_counter (s : State) : s.lowHeard.pmu.counter = s.pmu.counter := by
  unfold lowHeard
  split
  · rfl
  · exact (congrArg Pmu.counter (counterLowReport_touch _ s.conditionsNoted).pmu).trans rfl

theorem reportConditions_counter (s : State) : s.reportConditions.pmu.counter = s.pmu.counter := by
  rw [reportConditions_eq]
  split
  · exact lowHeard_counter s
  · exact (congrArg Pmu.counter (counterCause_touch ..).pmu).trans (lowHeard_counter s)

theorem counterSettled_counter (h : Bool) (s : State) : (s.counterSettled h).pmu.counter = s.pmu.counter := by
  rw [counterSettled_eq, permitSettled_counter, reportConditions_counter]
  exact (counterNoted_counter h s).1

/-- A bad event of a running check lowers the counter by its step; an idle check takes none (R165, R166). -/
theorem permitEvent_counter (s : State) :
    (s.permitEvent false).pmu.counter =
      if s.pmu.unit = .idle then s.pmu.counter else s.pmu.counter - s.cfg.permit.badStep := by
  unfold permitEvent
  split
  · rfl
  · exact counterSettled_counter ..

/-! ### The ALARM notice (R78) -/

/-- The ALARM notice stands with this group, source and item, and the group's flags as they are (R78). -/
def State.AlarmNoticed (t : State) (g : AlarmGroup) (source item : Nat) : Prop :=
  (t.lnk.notices[Notice.alarm.place]).map (·.content) = some (u8 g.code ++ u8 source ++ u8 item
    ++ flag t.cfg.alarm.masked[g.ix] ++ flag (!t.cfg.alarm.masked[g.ix])
    ++ flag t.lsl.groups[g.ix].causePresent ++ flag t.lsl.groups[g.ix].unacknowledged)

theorem alarmEvent_noticed {s : State} (h : s.lnk.enables 3 = true) (g : AlarmGroup) (source item : Nat) :
    (s.alarmEvent g source item).AlarmNoticed g source item := by
  unfold AlarmNoticed
  rw [alarmEvent_notice h, alarmEvent_group, (alarmEvent_touch ..).cfg]

theorem alarmNoticed_kept {s t : State} {gs : List AlarmGroup} {ps : List PlaceNo} {g : AlarmGroup} {source item : Nat}
    (h : s.AlarmNoticed g source item) (hcfg : t.cfg = s.cfg) (hk : Kept gs ps s t) (hg : g ∉ gs := by decide)
    (hp : Notice.alarm.place ∉ ps := by decide) : t.AlarmNoticed g source item := by
  unfold AlarmNoticed at h ⊢
  rw [hcfg, hk.groups g hg, hk.notices _ hp]
  exact h

theorem counterLowReport_noticed {s : State} (h : s.lnk.enables 3 = true) : (s.counterLowReport true).AlarmNoticed .pace 21 255 := by
  rw [counterLowReport_eq, if_pos rfl]
  exact alarmEvent_noticed (by rw [(lowNoted_touch true s).lnk]; exact h) ..

theorem counterLowReport_keepsAlarm (s : State) : (s.counterLowReport false).lnk = s.lnk := by
  rw [counterLowReport_eq, if_neg Bool.false_ne_true]
  exact (lowNoted_touch false s).lnk

/-- Whether the counter falls below its lower threshold with this not yet reported (R168). -/
def State.fallsLow (s : State) : Bool := decide (s.pmu.lowReported = false ∧ s.pmu.counter < s.cfg.permit.lower)

theorem lowHeard_noticed {s : State} (hlow : s.fallsLow = true) (h : s.lnk.enables 3 = true) :
    s.lowHeard.AlarmNoticed .pace 21 255 := by
  obtain ⟨hwas, hnow⟩ := of_decide_eq_true hlow
  unfold lowHeard
  rw [decide_eq_true hnow, if_neg (by simp [hwas])]
  exact counterLowReport_noticed h

theorem lowHeard_quiet {s : State} (hlow : s.fallsLow = false) : s.lowHeard.lnk = s.lnk := by
  unfold lowHeard
  split
  · rfl
  next hne =>
    have hnow : decide (s.pmu.counter < s.cfg.permit.lower) = false := by
      by_contra hlt
      have hbelow := Bool.eq_true_of_not_eq_false hlt
      rw [hbelow] at hne
      exact of_decide_eq_false hlow ⟨Bool.eq_false_iff.mpr (Ne.symm hne), of_decide_eq_true hbelow⟩
    rw [hnow]
    exact counterLowReport_keepsAlarm _

theorem reportConditions_kept (s : State) : Kept [] [0] s.lowHeard s.reportConditions := by
  rw [reportConditions_eq]
  exact .ite (.refl _) (counterCause_kept ..)

theorem permitSettled_kept (b line : Bool) (s : State) : Kept [] [1] s (s.permitSettled b line) :=
  ((Kept.ite (evalPermit_kept ..) (.refl s)).trans (stopTaken_kept ..)).mono

/-- The consequences of a counter's change behind counter-low make no ALARM notice (R165). -/
theorem counterSettled_kept (h : Bool) (s : State) : Kept [] [0, 1] (s.counterNoted h).lowHeard (s.counterSettled h) := by
  rw [counterSettled_eq]
  exact ((reportConditions_kept _).trans (permitSettled_kept ..)).mono

theorem lowHeard_touch (s : State) : Touches [.pmu, .lsl, .rcu, .lnk] s s.lowHeard :=
  .ite (conditionsNoted_touch s).mono ((conditionsNoted_touch s).seq (counterLowReport_touch ..)).mono

theorem counterNoted_fallsLow (h : Bool) (s : State) : (s.counterNoted h).fallsLow = s.fallsLow := by
  obtain ⟨hcounter, hlow⟩ := counterNoted_counter h s
  unfold fallsLow
  rw [hcounter, hlow, (counterNoted_touch h s).cfg]

theorem counterSettled_noticed {s : State} (hlow : s.fallsLow = true) (h : s.lnk.enables 3 = true) (hysteresis : Bool) :
    (s.counterSettled hysteresis).AlarmNoticed .pace 21 255 := by
  have hnoted := counterNoted_touch hysteresis s
  have hheard := lowHeard_noticed ((counterNoted_fallsLow hysteresis s).trans hlow) (by rw [hnoted.lnk]; exact h)
  refine alarmNoticed_kept hheard ?_ (counterSettled_kept hysteresis s)
  rw [(counterSettled_touch hysteresis s).cfg, (lowHeard_touch _).cfg, hnoted.cfg]

theorem counterSettled_quiet {s : State} (hlow : s.fallsLow = false) (hysteresis : Bool) :
    (s.counterSettled hysteresis).lnk.notices[Notice.alarm.place] = s.lnk.notices[Notice.alarm.place] := by
  have hquiet := lowHeard_quiet ((counterNoted_fallsLow hysteresis s).trans hlow)
  rw [(counterSettled_kept hysteresis s).notices _ (by decide), hquiet, (counterNoted_touch hysteresis s).lnk]

/-- Whether a bad event brings a PACE alarm event of counter-low (R80, R165, R168). -/
def State.badFallsLow (s : State) : Bool :=
  decide (s.pmu.unit ≠ .idle ∧ s.pmu.lowReported = false ∧ s.pmu.counter - s.cfg.permit.badStep < s.cfg.permit.lower)

theorem permitEvent_noticed {s : State} (hlow : s.badFallsLow = true) (h : s.lnk.enables 3 = true) :
    (s.permitEvent false).AlarmNoticed .pace 21 255 := by
  obtain ⟨hrun, hwas, hnow⟩ := of_decide_eq_true hlow
  unfold permitEvent
  rw [if_neg hrun]
  exact counterSettled_noticed (s := s.setCounter (s.pmu.counter - s.cfg.permit.badStep)) (decide_eq_true ⟨hwas, hnow⟩) h _

theorem permitEvent_quiet {s : State} (hlow : s.badFallsLow = false) :
    (s.permitEvent false).lnk.notices[Notice.alarm.place] = s.lnk.notices[Notice.alarm.place] := by
  unfold permitEvent
  split
  · rfl
  next hrun =>
    refine counterSettled_quiet (s := s.setCounter (s.pmu.counter - s.cfg.permit.badStep)) (decide_eq_false fun ⟨hwas, hnow⟩ => ?_) _
    exact of_decide_eq_false hlow ⟨hrun, hwas, hnow⟩

end Sys2Proof.Machine
end

section
/-! PROOFS. LSL's handling of a current record, stage by stage, and what RCU takes (R69 to R72, R75, R79, R175, R177, R179). -/

namespace Sys2Proof.Machine

/- One proof at a time: side by side they take a thread each. -/
set_option Elab.async false

open State

/-! ### One alarm group of two classes (R79) -/

/-- Whether a band of one of two classes is higher than before (R79). -/
def ConditionRecord.rises (r : ConditionRecord) (before : Vector Band 7) (a b : BandClass) : Bool :=
  r.bands[a.ix].above before[a.ix] || r.bands[b.ix].above before[b.ix]

section Group
variable {g : AlarmGroup} {a b : BandClass} {r : ConditionRecord} {before : Vector Band 7} {s : State}

theorem groupRecord_rises (h : r.rises before a b = true) :
    s.groupRecord g a b r before =
      (s.setCause g (r.bands[a.ix] != .clear || r.bands[b.ix] != .clear)).alarmEvent g (r.sourceOf a b).code
        (r.alarmItem (r.sourceOf a b)) := if_pos h

theorem groupRecord_calm (h : r.rises before a b = false) :
    s.groupRecord g a b r before = s.setCause g (r.bands[a.ix] != .clear || r.bands[b.ix] != .clear) :=
  if_neg (by rw [Bool.not_eq_true]; exact h)

theorem groupRecord_cases (P : State → Prop)
    (hcalm : P (s.setCause g (r.bands[a.ix] != .clear || r.bands[b.ix] != .clear)))
    (hrises : P ((s.setCause g (r.bands[a.ix] != .clear || r.bands[b.ix] != .clear)).alarmEvent g (r.sourceOf a b).code
        (r.alarmItem (r.sourceOf a b)))) : P (s.groupRecord g a b r before) := by
  cases h : r.rises before a b with
  | true => rwa [groupRecord_rises h]
  | false => rwa [groupRecord_calm h]

/-- The group's flags after a record: its cause by the bands, and unacknowledged by a rise in an unmasked group (R79). -/
theorem groupRecord_group :
    (s.groupRecord g a b r before).lsl.groups[g.ix] =
      ⟨r.bands[a.ix] != .clear || r.bands[b.ix] != .clear,
        s.lsl.groups[g.ix].unacknowledged || (r.rises before a b && !s.cfg.alarm.masked[g.ix])⟩ := by
  have hcause (c : Bool) : (s.setCause g c).lsl.groups[g.ix] = { s.lsl.groups[g.ix] with causePresent := c } :=
    Vector.getElem_set_self ..
  cases h : r.rises before a b with
  | true =>
    rw [groupRecord_rises h, alarmEvent_group, hcause, (setCause_touch ..).cfg, Bool.true_and]
  | false =>
    rw [groupRecord_calm h, hcause, Bool.false_and, Bool.or_false]

theorem groupRecord_kept : Kept [g] [2] s (s.groupRecord g a b r before) := by
  have hcause (c : Bool) := setCause_kept g c s
  refine groupRecord_cases (Kept [g] [2] s) ((hcause _).mono (List.Subset.refl _)) ?_
  exact ((hcause _).trans (alarmEvent_kept ..)).mono (by simp)

theorem groupRecord_writes : Writes 1 s (s.groupRecord g a b r before) := by
  have hcause (c : Bool) : Writes 0 s (s.setCause g c) := .of_touches (setCause_touch g c s)
  exact groupRecord_cases (Writes 1 s) ((hcause _).mono (Nat.zero_le 1)) ((hcause _).trans (alarmEvent_writes ..))

theorem groupRecord_beyondAlarms : (s.groupRecord g a b r before).lsl.beyondAlarms = s.lsl.beyondAlarms :=
  groupRecord_cases (·.lsl.beyondAlarms = s.lsl.beyondAlarms) (setCause_beyondAlarms ..)
    ((alarmEvent_beyondAlarms ..).trans (setCause_beyondAlarms ..))

theorem groupRecord_noticed (h : r.rises before a b = true) (hen : s.lnk.enables 3 = true) :
    (s.groupRecord g a b r before).AlarmNoticed g (r.sourceOf a b).code (r.alarmItem (r.sourceOf a b)) := by
  rw [groupRecord_rises h]
  exact alarmEvent_noticed (by rw [(setCause_touch ..).lnk]; exact hen) ..

theorem groupRecord_quiet (h : r.rises before a b = false) : Kept [g] [] s (s.groupRecord g a b r before) := by
  rw [groupRecord_calm h]
  exact setCause_kept ..

/-- The entry of a group's alarm event (R78, R79). -/
theorem groupRecord_stands (h : r.rises before a b = true) {m : Nat} (hm : s.rcu.nextSequence = some m) :
    (s.groupRecord g a b r before).rcu.Stands 0 .alarm
      #v[g.code, (r.sourceOf a b).code, r.alarmItem (r.sourceOf a b), s.cfg.alarm.masked[g.ix].toNat] := by
  rw [groupRecord_rises h, alarmEvent_rcu, alarmEntry, (setCause_touch ..).cfg]
  exact log_stands (by rw [(setCause_touch ..).rcu]; exact hm) ..

end Group

/-! ### The CONDITION cause (R72, R75) -/

section Condition
variable {r : ConditionRecord} {s : State}

theorem conditionRecord_lsl :
    (s.conditionRecord r).lsl =
      s.lsl.evaluated { s.lsl with
        stopRun := stopRunAfter r.overall s.lsl.stopRun
        causes := { s.lsl.causes with
          condition := conditionCause r.overall (stopRunAfter r.overall s.lsl.stopRun) s.cfg.stop.tolerance s.lsl.causes.condition } } :=
  stopEvaluated_lsl ..

theorem conditionRecord_stop :
    (s.conditionRecord r).lsl.stopRun = stopRunAfter r.overall s.lsl.stopRun
      ∧ (s.conditionRecord r).lsl.causes.condition
        = conditionCause r.overall (stopRunAfter r.overall s.lsl.stopRun) s.cfg.stop.tolerance s.lsl.causes.condition := by
  rw [conditionRecord_lsl]
  exact ⟨rfl, rfl⟩

theorem conditionRecord_kept : Kept [] [0] s (s.conditionRecord r) :=
  stopEvaluated_kept (f := fun l => { l with
    stopRun := stopRunAfter r.overall l.stopRun
    causes := { l.causes with
      condition := conditionCause r.overall (stopRunAfter r.overall l.stopRun) s.cfg.stop.tolerance l.causes.condition } })
    (fun _ => rfl) s

theorem conditionRecord_writes : Writes 1 s (s.conditionRecord r) := stopEvaluated_writes ..

/-- The CONDITION cause holds LOADER STOP ON (R75). -/
theorem conditionRecord_line (h : (s.conditionRecord r).lsl.causes.condition = true) : (s.conditionRecord r).lsl.line = true := by
  rw [conditionRecord_stop.2] at h
  rw [conditionRecord_lsl, evaluated_line, Bool.or_eq_true]
  left
  simp [StopCauses.any, h]

theorem stopEvaluated_asserts {f : Lsl → Lsl} (hoff : s.lsl.line = false) (hon : (s.lsl.evaluated (f s.lsl)).line = true) :
    (s.stopEvaluated f).rcu =
      (s.log .stopOn [(f s.lsl).causes.condition.toNat, (f s.lsl).causes.counter.toNat, (f s.lsl).causes.emergency.toNat]).rcu := by
  unfold stopEvaluated
  extract_lets old l s₁ s₂
  have hasserts : (l.line && !old.line) = true := by
    have hold : old.line = false := hoff
    have hl : l.line = true := hon
    rw [hl, hold]
    rfl
  have h₂ : s₂ = s₁.log .stopOn [l.causes.condition.toNat, l.causes.counter.toNat, l.causes.emergency.toNat] := if_pos hasserts
  have hnotice (c : List Byte) : (s₂.notify .stopChanged c).rcu = s₂.rcu := (notify_touch ..).rcu
  split
  · rw [hnotice, h₂]
    rfl
  · rw [h₂]
    rfl

/-- The entry of LOADER STOP asserted by the CONDITION cause (R75). -/
theorem conditionRecord_stands (hoff : s.lsl.line = false) (hon : (s.conditionRecord r).lsl.causes.condition = true) {m : Nat}
    (hm : s.rcu.nextSequence = some m) :
    (s.conditionRecord r).rcu.Stands 0 .stopOn #v[1, s.lsl.causes.counter.toNat, s.lsl.causes.emergency.toNat, 0] := by
  have hline := conditionRecord_line hon
  rw [conditionRecord_lsl] at hline
  rw [conditionRecord_stop.2] at hon
  have hrcu := stopEvaluated_asserts (s := s) (f := fun l => { l with
    stopRun := stopRunAfter r.overall l.stopRun
    causes := { l.causes with
      condition := conditionCause r.overall (stopRunAfter r.overall l.stopRun) s.cfg.stop.tolerance l.causes.condition } }) hoff hline
  rw [show (s.conditionRecord r).rcu = _ from hrcu]
  simp only [hon, State.log, Rcu.write, hm]
  exact ⟨_, _, [], rfl, Nat.le_refl 0, rfl, rfl⟩

end Condition

/-! ### The stages of LSL's handling (R69) -/

/-- LSL once its notice and its alarm groups have taken a record (R71, R79). -/
def State.grouped (r : ConditionRecord) (s : State) : State :=
  ((s.bandNotice r).groupRecord .stress .shear .bending r s.lsl.classBands).groupRecord .berth .draft .air r s.lsl.classBands

/-- A record's bands become the previous bands (R69). -/
def State.holdBands (r : ConditionRecord) (s : State) : State :=
  { s with lsl := { s.lsl with classBands := r.bands, overallBand := r.overall, bandSequence := r.sequence } }

theorem limitsHandle_eq (r : ConditionRecord) (s : State) : s.limitsHandle r = ((s.grouped r).conditionRecord r).holdBands r := rfl

theorem bandNotice_kept (r : ConditionRecord) (s : State) : Kept [] [35] s (s.bandNotice r) :=
  .ite (notify_kept .conditionBand ..) (.refl s)

theorem grouped_touch (r : ConditionRecord) (s : State) : Touches [.lsl, .rcu, .lnk] s (s.grouped r) :=
  ((bandNotice_touch r s).seq ((groupRecord_touch ..).seq (groupRecord_touch ..))).mono

theorem grouped_writes (r : ConditionRecord) (s : State) : Writes 2 s (s.grouped r) :=
  (Writes.of_touches (bandNotice_touch r s)).trans (groupRecord_writes.trans groupRecord_writes)

theorem grouped_kept (r : ConditionRecord) (s : State) : Kept [.stress, .berth] [2, 35] s (s.grouped r) :=
  ((bandNotice_kept r s).trans (groupRecord_kept.trans groupRecord_kept)).mono

theorem grouped_beyondAlarms (r : ConditionRecord) (s : State) : (s.grouped r).lsl.beyondAlarms = s.lsl.beyondAlarms :=
  groupRecord_beyondAlarms.trans (groupRecord_beyondAlarms.trans (by rw [(bandNotice_touch r s).lsl]))

theorem holdBands_touch (r : ConditionRecord) (s : State) : Touches [.lsl] s (s.holdBands r) := touch_lsl s _

/-- The line and its causes as the groups leave them. -/
theorem grouped_stop (r : ConditionRecord) (s : State) :
    (s.grouped r).lsl.stopRun = s.lsl.stopRun ∧ (s.grouped r).lsl.causes = s.lsl.causes ∧ (s.grouped r).lsl.line = s.lsl.line := by
  have h := grouped_beyondAlarms r s
  have hrun : (s.grouped r).lsl.beyondAlarms.stopRun = s.lsl.beyondAlarms.stopRun := congrArg Lsl.stopRun h
  have hcauses : (s.grouped r).lsl.beyondAlarms.causes = s.lsl.beyondAlarms.causes := congrArg Lsl.causes h
  have hline : (s.grouped r).lsl.beyondAlarms.line = s.lsl.beyondAlarms.line := congrArg Lsl.line h
  exact ⟨hrun, hcauses, hline⟩

theorem grouped_group {g : AlarmGroup} {a b : BandClass}
    (h : (g, a, b) ∈ [(AlarmGroup.stress, BandClass.shear, BandClass.bending), (.berth, .draft, .air)]) (r : ConditionRecord) (s : State) :
    (s.grouped r).lsl.groups[g.ix] =
      ⟨r.bands[a.ix] != .clear || r.bands[b.ix] != .clear,
        s.lsl.groups[g.ix].unacknowledged || (r.rises s.lsl.classBands a b && !s.cfg.alarm.masked[g.ix])⟩ := by
  have hnotice := bandNotice_touch r s
  simp only [List.mem_cons, Prod.mk.injEq, List.not_mem_nil, or_false] at h
  rcases h with ⟨rfl, rfl, rfl⟩ | ⟨rfl, rfl, rfl⟩
  · rw [grouped, groupRecord_kept.groups .stress (by decide), groupRecord_group, hnotice.lsl, hnotice.cfg]
  · rw [grouped, groupRecord_group, groupRecord_kept.groups .berth (by decide), (groupRecord_touch ..).cfg, hnotice.lsl, hnotice.cfg]

/-- The entry of a group's alarm event stands when the groups have taken the record. -/
theorem grouped_stands {g : AlarmGroup} {a b : BandClass}
    (h : (g, a, b) ∈ [(AlarmGroup.stress, BandClass.shear, BandClass.bending), (.berth, .draft, .air)]) {r : ConditionRecord} {s : State}
    (hrises : r.rises s.lsl.classBands a b = true) {m : Nat} (hm : s.rcu.nextSequence = some m) (hroom : m + 1 ≤ Config.maxU32) :
    (s.grouped r).rcu.Stands 1 .alarm
      #v[g.code, (r.sourceOf a b).code, r.alarmItem (r.sourceOf a b), s.cfg.alarm.masked[g.ix].toNat] := by
  have hnotice := bandNotice_touch r s
  have hstart : (s.bandNotice r).rcu.nextSequence = some m := by rw [hnotice.rcu]; exact hm
  simp only [List.mem_cons, Prod.mk.injEq, List.not_mem_nil, or_false] at h
  rcases h with ⟨rfl, rfl, rfl⟩ | ⟨rfl, rfl, rfl⟩
  · have hstands := groupRecord_stands (g := .stress) hrises hstart
    rw [hnotice.cfg] at hstands
    exact groupRecord_writes.stands 0 _ _ (by decide) hstands
  · obtain ⟨j, -, hnext⟩ := (groupRecord_writes (g := .stress) (a := .shear) (b := .bending) (r := r)
      (before := s.lsl.classBands)).next m hstart hroom
    obtain ⟨before, e, behind, hlog, hlen, hk, hps⟩ := groupRecord_stands (g := .berth) hrises hnext
    rw [(groupRecord_touch ..).cfg, hnotice.cfg] at hps
    exact ⟨before, e, behind, hlog, by omega, hk, hps⟩

/-- BERTH's notice where it has an event, else STRESS' (log entry 23). -/
theorem grouped_noticed {r : ConditionRecord} {s : State} (hen : s.lnk.enables 3 = true) :
    (r.rises s.lsl.classBands .draft .air = true →
        (s.grouped r).AlarmNoticed .berth (r.sourceOf .draft .air).code (r.alarmItem (r.sourceOf .draft .air)))
      ∧ (r.rises s.lsl.classBands .draft .air = false → r.rises s.lsl.classBands .shear .bending = true →
        (s.grouped r).AlarmNoticed .stress (r.sourceOf .shear .bending).code (r.alarmItem (r.sourceOf .shear .bending))) := by
  have hnotice := bandNotice_kept r s
  have hstress : (s.bandNotice r).lnk.enables 3 = true := (hnotice.enables 3).trans hen
  refine ⟨fun hrises => groupRecord_noticed hrises ((groupRecord_kept.enables 3).trans hstress), fun hcalm hrises => ?_⟩
  exact alarmNoticed_kept (groupRecord_noticed hrises hstress) (groupRecord_touch ..).cfg (groupRecord_quiet hcalm)

theorem holdBands_kept (r : ConditionRecord) (s : State) : Kept [] [] s (s.holdBands r) := .of_same rfl rfl

theorem limitsHandle_behind (r : ConditionRecord) (s : State) :
    Writes 1 (s.grouped r) (s.limitsHandle r) ∧ Kept [] [0] (s.grouped r) (s.limitsHandle r) := by
  rw [limitsHandle_eq]
  exact ⟨conditionRecord_writes.trans (.of_touches (holdBands_touch ..)), (conditionRecord_kept.trans (holdBands_kept ..)).mono⟩

theorem bandRise_consequent (r : ConditionRecord) (was : Band) (s : State) : Consequent 4 s (s.bandRise r was) :=
  .ite (permitEvent_consequent ..) (.refl s)

/-- What PMU makes of a record once LSL has handled it (R70, R75). -/
theorem limitsTake_consequent (r : ConditionRecord) (s : State) : Consequent 5 (s.limitsHandle r) (s.limitsTake r) :=
  (bandRise_consequent ..).trans (stopTaken_consequent ..)

end Sys2Proof.Machine
end

section
/-! PROOFS. A completed current record, taken whole: LSL, PMU, RCU and the engine's next choice (R43, R45, R69 to R72, R75, R79, R147, R175, R177, R179). -/

namespace Sys2Proof.Machine

/- One proof at a time: side by side they take a thread each. -/
set_option Elab.async false

open State

/-! ### PMU's counter and the ALARM notice (R70, R165, R168) -/

section Rise
variable {r : ConditionRecord} {s : State}

theorem limitsHandle_pmu : (s.limitsHandle r).pmu = s.pmu := (limitsHandle_touch r s).pmu

theorem bandRise_counter (was : Band) :
    (s.bandRise r was).pmu.counter =
      if r.overall ≠ .clear ∧ was = .clear ∧ s.pmu.unit ≠ .idle then s.pmu.counter - s.cfg.permit.badStep else s.pmu.counter := by
  unfold bandRise
  by_cases hrise : r.overall ≠ .clear ∧ was = .clear
  · obtain ⟨hover, hwas⟩ := hrise
    rw [if_pos ⟨hover, hwas⟩, permitEvent_counter]
    by_cases hidle : s.pmu.unit = .idle
    · rw [if_pos hidle, if_neg fun h => h.2.2 hidle]
    · rw [if_neg hidle, if_pos ⟨hover, hwas, hidle⟩]
  · rw [if_neg hrise, if_neg fun h => hrise ⟨h.1, h.2.1⟩]

theorem limitsTake_counter :
    (s.limitsTake r).pmu.counter =
      if r.overall ≠ .clear ∧ s.lsl.overallBand = .clear ∧ s.pmu.unit ≠ .idle then s.pmu.counter - s.cfg.permit.badStep
      else s.pmu.counter := by
  refine (stopTaken_counter ..).trans ((bandRise_counter ..).trans ?_)
  rw [limitsHandle_pmu, (limitsHandle_touch r s).cfg]

/-- Whether a record brings PACE's alarm event of counter-low (R70, R80, R168). -/
def State.paced (r : ConditionRecord) (s : State) : Bool :=
  decide (r.overall ≠ .clear ∧ s.lsl.overallBand = .clear ∧ s.pmu.unit ≠ .idle
    ∧ s.pmu.lowReported = false ∧ s.pmu.counter - s.cfg.permit.badStep < s.cfg.permit.lower)

theorem limitsHandle_badFallsLow : (s.limitsHandle r).badFallsLow = s.badFallsLow := by
  unfold badFallsLow
  rw [limitsHandle_pmu, (limitsHandle_touch r s).cfg]

theorem limitsHandle_kept : Kept [.stress, .berth] [0, 2, 35] s (s.limitsHandle r) :=
  ((grouped_kept r s).trans (limitsHandle_behind r s).2).mono

theorem limitsTake_paced (h : s.paced r = true) (hen : s.lnk.enables 3 = true) : (s.limitsTake r).AlarmNoticed .pace 21 255 := by
  obtain ⟨hover, hwas, hlow⟩ := of_decide_eq_true h
  have hrise : (s.limitsHandle r).bandRise r s.lsl.overallBand = (s.limitsHandle r).permitEvent false := if_pos ⟨hover, hwas⟩
  have hnoticed : ((s.limitsHandle r).permitEvent false).AlarmNoticed .pace 21 255 :=
    permitEvent_noticed (limitsHandle_badFallsLow.trans (decide_eq_true hlow)) ((limitsHandle_kept.enables 3).trans hen)
  unfold limitsTake
  rw [hrise]
  exact alarmNoticed_kept hnoticed (stopTaken_touch ..).cfg (stopTaken_kept ..)

theorem bandRise_quiet (h : s.paced r = false) :
    ((s.limitsHandle r).bandRise r s.lsl.overallBand).lnk.notices[Notice.alarm.place]
      = (s.limitsHandle r).lnk.notices[Notice.alarm.place] := by
  unfold bandRise
  split
  next hrise =>
    refine permitEvent_quiet (limitsHandle_badFallsLow.trans (decide_eq_false fun hlow => ?_))
    exact of_decide_eq_false h ⟨hrise.1, hrise.2, hlow⟩
  next => rfl

/-- Without PACE's event the ALARM notice stands as the groups left it (log entry 23). -/
theorem limitsTake_quiet (h : s.paced r = false) : Kept [.pace] [0, 1] (s.grouped r) (s.limitsTake r) := by
  have hafter := (((limitsHandle_behind r s).2.trans (limitsTake_consequent r s).kept).mono : Kept [.pace] [0, 1, 2] _ _)
  refine ⟨hafter.groups, fun p hp => ?_, hafter.enabled, hafter.tx⟩
  by_cases halarm : p = 2
  · subst halarm
    exact ((stopTaken_kept ..).notices 2 (by decide)).trans
      ((bandRise_quiet h).trans ((limitsHandle_behind r s).2.notices 2 (by decide)))
  · exact hafter.notices p (by simpa [halarm] using hp)

end Rise

/-! ### What LSL holds of a record, and its notices (R69 to R72, R79) -/

/-- What a record is taken against: LSL, the tables, PMU and the link as they stand before it. -/
structure LimitsView where
  lsl : Lsl
  cfg : ConfigTables
  pmu : Pmu
  lnk : Lnk

/-- The view of a state. -/
def State.limitsView (s : State) : LimitsView := ⟨s.lsl, s.cfg, s.pmu, s.lnk⟩

/-- Whether a record's bands differ from the ones held (R71). -/
def ConditionRecord.differs (r : ConditionRecord) (l : Lsl) : Bool := decide (r.overall ≠ l.overallBand ∨ r.bands ≠ l.classBands)

/-- The groups of two classes (R79). -/
def bandGroups : List (AlarmGroup × BandClass × BandClass) := [(.stress, .shear, .bending), (.berth, .draft, .air)]

/-- A record as LSL and PMU have taken it (R69 to R72, R79). -/
structure LimitsTaken (r : ConditionRecord) (v : LimitsView) (t : State) : Prop where
  classBands : t.lsl.classBands = r.bands
  overallBand : t.lsl.overallBand = r.overall
  bandSequence : t.lsl.bandSequence = r.sequence
  stopRun : t.lsl.stopRun = stopRunAfter r.overall v.lsl.stopRun
  condition : t.lsl.causes.condition
    = conditionCause r.overall (stopRunAfter r.overall v.lsl.stopRun) v.cfg.stop.tolerance v.lsl.causes.condition
  line : t.lsl.causes.condition = true → t.lsl.line = true
  counter : t.pmu.counter =
    if r.overall ≠ .clear ∧ v.lsl.overallBand = .clear ∧ v.pmu.unit ≠ .idle then v.pmu.counter - v.cfg.permit.badStep
    else v.pmu.counter
  bandKept : r.differs v.lsl = false ∨ v.lnk.enables 5 = false →
    t.lnk.notices[Notice.conditionBand.place] = v.lnk.notices[Notice.conditionBand.place]
  bandNoticed : r.differs v.lsl = true → v.lnk.enables 5 = true →
    (t.lnk.notices[Notice.conditionBand.place]).map (·.content) = some r.bandContent
  groups : ∀ g a b, (g, a, b) ∈ bandGroups → t.lsl.groups[g.ix] =
    ⟨r.bands[a.ix] != .clear || r.bands[b.ix] != .clear,
      v.lsl.groups[g.ix].unacknowledged || (r.rises v.lsl.classBands a b && !v.cfg.alarm.masked[g.ix])⟩
  paced : ∀ paced : Bool, paced = decide (r.overall ≠ .clear ∧ v.lsl.overallBand = .clear ∧ v.pmu.unit ≠ .idle
      ∧ v.pmu.lowReported = false ∧ v.pmu.counter - v.cfg.permit.badStep < v.cfg.permit.lower) → v.lnk.enables 3 = true →
    (paced = true → t.AlarmNoticed .pace 21 255)
    ∧ (paced = false → r.rises v.lsl.classBands .draft .air = true →
        t.AlarmNoticed .berth (r.sourceOf .draft .air).code (r.alarmItem (r.sourceOf .draft .air)))
    ∧ (paced = false → r.rises v.lsl.classBands .draft .air = false → r.rises v.lsl.classBands .shear .bending = true →
        t.AlarmNoticed .stress (r.sourceOf .shear .bending).code (r.alarmItem (r.sourceOf .shear .bending)))
  cfg : t.cfg = v.cfg
  tx : t.lnk.tx = v.lnk.tx

/-- The entries that LSL's handling of a record leaves in the log, with at most `d` behind each (R75, R78, R79). -/
structure LimitsLogged (d : Nat) (r : ConditionRecord) (v : LimitsView) (t : State) : Prop where
  stopOn : v.lsl.line = false → t.lsl.causes.condition = true →
    t.rcu.Stands d .stopOn #v[1, v.lsl.causes.counter.toNat, v.lsl.causes.emergency.toNat, 0]
  alarm : ∀ g a b, (g, a, b) ∈ bandGroups → r.rises v.lsl.classBands a b = true →
    t.rcu.Stands d .alarm #v[g.code, (r.sourceOf a b).code, r.alarmItem (r.sourceOf a b), v.cfg.alarm.masked[g.ix].toNat]

section Taken
variable {r : ConditionRecord} {s : State}

theorem bandNotice_place :
    (r.differs s.lsl = false ∨ s.lnk.enables 5 = false →
        (s.bandNotice r).lnk.notices[Notice.conditionBand.place] = s.lnk.notices[Notice.conditionBand.place])
      ∧ (r.differs s.lsl = true → s.lnk.enables 5 = true →
        ((s.bandNotice r).lnk.notices[Notice.conditionBand.place]).map (·.content) = some r.bandContent) := by
  unfold bandNotice
  split
  next hdiffers =>
    have htrue : r.differs s.lsl = true := decide_eq_true hdiffers
    refine ⟨fun h => ?_, fun _ hen => notify_enabled (n := .conditionBand) hen _⟩
    have hoff : s.lnk.enables 5 = false := h.resolve_left (by simp [htrue])
    rw [notify_disabled (n := .conditionBand) hoff]
  next hsame => exact ⟨fun _ => rfl, fun h => absurd (of_decide_eq_true h) hsame⟩

theorem limitsHandle_stop :
    (s.limitsHandle r).lsl.stopRun = stopRunAfter r.overall s.lsl.stopRun
      ∧ (s.limitsHandle r).lsl.causes.condition
        = conditionCause r.overall (stopRunAfter r.overall s.lsl.stopRun) s.cfg.stop.tolerance s.lsl.causes.condition := by
  obtain ⟨hrun, hcauses, -⟩ := grouped_stop r s
  obtain ⟨hstop, hcondition⟩ := conditionRecord_stop (r := r) (s := s.grouped r)
  rw [hrun] at hstop hcondition
  rw [hcauses, (grouped_touch r s).cfg] at hcondition
  exact ⟨hstop, hcondition⟩

theorem limitsHandle_line (h : (s.limitsHandle r).lsl.causes.condition = true) : (s.limitsHandle r).lsl.line = true :=
  conditionRecord_line (s := s.grouped r) h

theorem limitsTake_kept : Kept [.stress, .berth, .pace] [0, 1, 2] (s.bandNotice r) (s.limitsTake r) := by
  have hgroups : Kept [.stress, .berth] [2] (s.bandNotice r) (s.grouped r) := (groupRecord_kept.trans groupRecord_kept).mono
  exact (hgroups.trans ((limitsHandle_behind r s).2.trans (limitsTake_consequent r s).kept)).mono

/-- LSL and PMU take a record (R69). -/
theorem limitsTake_taken : LimitsTaken r s.limitsView (s.limitsTake r) := by
  have hbands := (limitsTake_consequent r s).bands
  obtain ⟨hrun, hcondition⟩ := limitsHandle_stop (r := r) (s := s)
  obtain ⟨hsame, hnoticed⟩ := bandNotice_place (r := r) (s := s)
  have hplace := (limitsTake_kept (r := r) (s := s)).notices Notice.conditionBand.place (by decide)
  have hgroups : Kept [.pace] [0, 1, 2] (s.grouped r) (s.limitsTake r) :=
    ((limitsHandle_behind r s).2.trans (limitsTake_consequent r s).kept).mono
  have hcfg : (s.limitsTake r).cfg = (s.grouped r).cfg := (limitsTake_touch r s).cfg.trans (grouped_touch r s).cfg.symm
  refine
    { classBands := hbands.classBands, overallBand := hbands.overallBand, bandSequence := hbands.bandSequence
      stopRun := hbands.stopRun.trans hrun, condition := hbands.condition.trans hcondition, line := fun h => ?line
      counter := limitsTake_counter, bandKept := fun h => hplace.trans (hsame h)
      bandNoticed := fun h hen => by rw [hplace]; exact hnoticed h hen
      groups := fun g a b h => ?groups, paced := fun paced hpaced hen => ?paced
      cfg := (limitsTake_touch r s).cfg, tx := ((bandNotice_kept r s).trans limitsTake_kept).tx }
  case line =>
    rw [hbands.condition] at h
    exact hbands.line h (limitsHandle_line h)
  case groups =>
    have hnot : g ∉ [AlarmGroup.pace] := by
      rintro hpace
      obtain rfl := List.mem_singleton.mp hpace
      simp [bandGroups] at h
    exact (hgroups.groups g hnot).trans (grouped_group h r s)
  case paced =>
    obtain rfl : paced = s.paced r := hpaced
    obtain ⟨hberth, hstress⟩ := grouped_noticed (r := r) hen
    refine ⟨fun h => limitsTake_paced h hen, fun h hrises => ?_, fun h hcalm hrises => ?_⟩
    · exact alarmNoticed_kept (hberth hrises) hcfg (limitsTake_quiet h)
    · exact alarmNoticed_kept (hstress hcalm hrises) hcfg (limitsTake_quiet h)

theorem limitsTake_writes : Writes 8 s (s.limitsTake r) :=
  (grouped_writes r s).trans ((limitsHandle_behind r s).1.trans (limitsTake_consequent r s).writes)

theorem limitsTake_logged {m : Nat} (hm : s.rcu.nextSequence = some m) (hroom : m + 8 ≤ Config.maxU32) :
    LimitsLogged 8 r s.limitsView (s.limitsTake r) where
  stopOn hoff hon := by
    obtain ⟨j, hj, hnext⟩ := (grouped_writes r s).next m hm (by omega)
    obtain ⟨-, hcauses, hline⟩ := grouped_stop r s
    rw [(limitsTake_consequent r s).bands.condition] at hon
    have hstands := conditionRecord_stands (r := r) (hline.trans hoff) hon hnext
    rw [hcauses] at hstands
    have hhandled : (s.limitsHandle r).rcu.Stands 0 .stopOn
        #v[1, s.lsl.causes.counter.toNat, s.lsl.causes.emergency.toNat, 0] := hstands
    obtain ⟨before, e, behind, hlog, hlen, hk, hps⟩ :=
      (limitsTake_consequent r s).writes.stands 0 _ _ (by decide) hhandled
    exact ⟨before, e, behind, hlog, by omega, hk, hps⟩
  alarm g a b h hrises := by
    have hstands := grouped_stands h hrises hm (by omega)
    obtain ⟨before, e, behind, hlog, hlen, hk, hps⟩ :=
      ((limitsHandle_behind r s).1.trans (limitsTake_consequent r s).writes).stands 1 _ _ (by decide) hstands
    exact ⟨before, e, behind, hlog, by omega, hk, hps⟩

end Taken

/-! ### What RCU takes of a record (R175, R177, R179) -/

section Records
variable {r : ConditionRecord} {s : State}

/-- A record as RCU has taken it (R175, R177, R179). -/
structure RecordTaken (r : ConditionRecord) (old : Rcu) (new : Rcu) : Prop where
  bands : new.memoryBands = r.bands
  overall : new.memoryOverall = r.overall
  peaks : new.peaks = old.peaks.take r
  arrival : new.arrival = old.arrival.resolve r

theorem recordTaken_of_records {old old' new new' : Rcu} (h : RecordTaken r old new) (hold : old.records = old'.records)
    (hnew : new'.records = new.records) : RecordTaken r old' new' where
  bands := by have : new'.records.memoryBands = new.records.memoryBands := congrArg Rcu.memoryBands hnew; exact this.trans h.bands
  overall := by have : new'.records.memoryOverall = new.records.memoryOverall := congrArg Rcu.memoryOverall hnew; exact this.trans h.overall
  peaks := by
    have hn : new'.records.peaks = new.records.peaks := congrArg Rcu.peaks hnew
    have ho : old.records.peaks = old'.records.peaks := congrArg Rcu.peaks hold
    exact hn.trans (h.peaks.trans (congrArg (Peaks.take r) ho))
  arrival := by
    have hn : new'.records.arrival = new.records.arrival := congrArg Rcu.arrival hnew
    have ho : old.records.arrival = old'.records.arrival := congrArg Rcu.arrival hold
    exact hn.trans (h.arrival.trans (congrArg (Arrival.resolve r) ho))

/-- The entry of a change of bands, where there is one (R175). -/
def State.bandEntry (r : ConditionRecord) (s : State) : State :=
  if decide (r.bands ≠ s.rcu.memoryBands ∨ r.overall ≠ s.rcu.memoryOverall) then
    s.log .bandChange [r.sequence, r.overall.code, r.worstClass.code, r.figures[r.worstClass.ix]]
  else s

theorem bandEntry_writes : Writes 1 s (s.bandEntry r) :=
  .ite (log_writes ..) (Writes.mono (.of_touches (.refl [] s)) (Nat.zero_le 1))

theorem recordsTake_few : Few 1 s (s.recordsTake r) := by
  have hheld : Few 0 (s.bandEntry r) (s.recordsTake r) := .of_log rfl rfl
  exact bandEntry_writes.toFew.trans hheld

theorem recordsTake_taken : RecordTaken r s.rcu (s.recordsTake r).rcu := by
  have h : RecordTaken r (s.bandEntry r).rcu (s.recordsTake r).rcu := ⟨rfl, rfl, rfl, rfl⟩
  exact recordTaken_of_records h bandEntry_writes.records rfl

theorem recordsTake_view : (s.recordsTake r).limitsView = s.limitsView := by
  have h := recordsTake_touch r s
  rw [limitsView, h.lsl, h.cfg, h.pmu, h.lnk, limitsView]

/-- What LSL has taken stands when RCU takes the record after it. -/
theorem limitsTaken_of_touches {v : LimitsView} {t u : State} (h : LimitsTaken r v t) (ht : Touches [.rcu] t u) : LimitsTaken r v u := by
  obtain ⟨h₁, h₂, h₃, h₄, h₅, h₆, h₇, h₈, h₉, h₁₀, h₁₁, h₁₂, h₁₃⟩ := h
  have hnoticed (g : AlarmGroup) (a b : Nat) : u.AlarmNoticed g a b ↔ t.AlarmNoticed g a b := by
    unfold AlarmNoticed
    rw [ht.lnk, ht.cfg, ht.lsl]
  constructor
  case paced => simpa only [hnoticed] using h₁₁
  all_goals simp only [ht.lsl, ht.lnk, ht.pmu, ht.cfg]; assumption

end Records

theorem limitsLogged_of_few {r : ConditionRecord} {v : LimitsView} {t u : State} (h : LimitsLogged 8 r v t) (hf : Few 1 t u)
    (hlsl : u.lsl = t.lsl) : LimitsLogged 9 r v u where
  stopOn hoff hon := hf.stands 8 _ _ (by decide) (h.stopOn hoff (hlsl ▸ hon))
  alarm g a b hg hrises := hf.stands 8 _ _ (by decide) (h.alarm g a b hg hrises)

/-- Whichever takes it first, LSL and RCU take the record, and few entries are written (R45, log entry 23). -/
theorem deliver_taken (r : ConditionRecord) (s : State) :
    LimitsTaken r s.limitsView (s.deliver r) ∧ RecordTaken r s.rcu (s.deliver r).rcu
      ∧ ∀ m, s.rcu.nextSequence = some m → m + 16 ≤ Config.maxU32 → LimitsLogged 9 r s.limitsView (s.deliver r) := by
  let u : State := { s with choices := s.choices + 1 }
  have hdeliver : s.deliver r =
    if Config.recordsFirst s.choices then (u.recordsTake r).limitsTake r else (u.limitsTake r).recordsTake r := rfl
  rw [hdeliver]
  split
  case isTrue =>
    have hview : (u.recordsTake r).limitsView = s.limitsView := recordsTake_view
    refine ⟨hview ▸ limitsTake_taken, recordTaken_of_records (recordsTake_taken (s := u)) rfl limitsTake_writes.records,
      fun m hm hroom => ?_⟩
    obtain ⟨j, hj, hnext⟩ := (recordsTake_few (r := r) (s := u)).next m hm (by omega)
    have hlogged := limitsTake_logged (r := r) hnext (by omega)
    rw [hview] at hlogged
    exact limitsLogged_of_few hlogged ((Few.of_touches (.refl [] _)).mono (Nat.zero_le 1)) rfl
  case isFalse =>
    have hview : u.limitsView = s.limitsView := rfl
    refine ⟨hview ▸ limitsTaken_of_touches limitsTake_taken (recordsTake_touch ..),
      recordTaken_of_records recordsTake_taken (limitsTake_writes (s := u)).records rfl, fun m hm hroom => ?_⟩
    have hlogged := limitsTake_logged (r := r) (s := u) hm (by omega)
    exact limitsLogged_of_few hlogged recordsTake_few (recordsTake_touch ..).lsl

/-! ### The engine goes on (R43, R45) -/

/-- What the engine does next, once the record is in place (R43, R45). -/
theorem completed_cen (r : ConditionRecord) (s : State) :
    ((s.putRecord r).chooseNext true).cen.current = some r ∧ ((s.putRecord r).chooseNext true).cen.sequence = r.sequence
      ∧ (∀ q l, s.cen.queue = q :: l → (∃ next, ((s.putRecord r).chooseNext true).cen.inFlight = some (.prediction q next))
          ∧ ((s.putRecord r).chooseNext true).cen.queue = l
          ∧ ((s.putRecord r).chooseNext true).cen.pendingCurrent = s.cen.pendingCurrent)
      ∧ (s.cen.queue = [] → s.cen.pendingCurrent = true →
          (∃ next, ((s.putRecord r).chooseNext true).cen.inFlight = some (.current next))
          ∧ ((s.putRecord r).chooseNext true).cen.queue = [] ∧ ((s.putRecord r).chooseNext true).cen.pendingCurrent = false)
      ∧ (s.cen.queue = [] → s.cen.pendingCurrent = false →
          ((s.putRecord r).chooseNext true).cen.inFlight = none ∧ ((s.putRecord r).chooseNext true).cen.queue = []) := by
  have hput := putRecord_cen r s
  have hqueue : (s.putRecord r).cen.queue = s.cen.queue := by rw [hput]
  have hpending : (s.putRecord r).cen.pendingCurrent = s.cen.pendingCurrent := by rw [hput]
  rcases chooseNext_cases true (s.putRecord r) with ⟨q, l, snap, hq, -, hcen⟩ | ⟨hp, hq, snap, hcen⟩ | ⟨hq, hp, hcen⟩
  · rw [hqueue] at hq
    rw [hcen, hput]
    refine ⟨rfl, rfl, fun q' l' hql => ?_, fun hnil => ?_, fun hnil => ?_⟩
    · obtain ⟨rfl, rfl⟩ := List.cons.inj (hq.symm.trans hql)
      exact ⟨⟨snap, rfl⟩, rfl, rfl⟩
    all_goals exact absurd (hq.symm.trans hnil) (List.cons_ne_nil q l)
  · have hnil : s.cen.queue = [] := hqueue.symm.trans (hq rfl)
    rw [hpending] at hp
    rw [hcen, hput]
    exact ⟨rfl, rfl, fun q l hql => absurd (hnil.symm.trans hql) (List.cons_ne_nil q l).symm, fun _ _ => ⟨⟨snap, rfl⟩, hnil, rfl⟩,
      fun _ hoff => absurd (hp.symm.trans hoff) Bool.true_eq_false.mp⟩
  · rw [hqueue] at hq
    rw [hpending] at hp
    rw [hcen, hput]
    exact ⟨rfl, rfl, fun q l hql => absurd (hq.symm.trans hql) (List.cons_ne_nil q l).symm,
      fun _ hon => absurd (hon.symm.trans hp) Bool.true_eq_false.mp, fun _ _ => ⟨rfl, hq⟩⟩

/-- The record in place, before it is delivered (R45, R147). -/
def State.recordPlaced (r : ConditionRecord) (s : State) : State :=
  { s with cen := { s.cen with current := some r, sequence := r.sequence }, ptr := { s.ptr with start := s.ptr.start.resolve r } }

theorem putRecord_taken (r : ConditionRecord) (s : State) :
    LimitsTaken r s.limitsView (s.putRecord r) ∧ RecordTaken r s.rcu (s.putRecord r).rcu
      ∧ ∀ m, s.rcu.nextSequence = some m → m + 16 ≤ Config.maxU32 → LimitsLogged 9 r s.limitsView (s.putRecord r) :=
  deliver_taken r (s.recordPlaced r)

theorem putRecord_ptr (r : ConditionRecord) (s : State) :
    (s.putRecord r).ptr = { s.ptr with start := s.ptr.start.resolve r } := (deliver_touch r (s.recordPlaced r)).ptr

/-- The completion of the current recompute in flight: the record in place, the next computation begun, and the link settled. -/
theorem currentRecompute_runs {s : State} {snap : Snapshot} {r : ConditionRecord} (hp : s.powered = true)
    (hflight : s.cen.inFlight = some (.current snap)) (hr : s.completedRecord snap = r) :
    let u := s.putRecord r
    ∃ t, exec .currentRecomputeComplete s = .next t ∧ t.cen = (u.chooseNext true).cen
      ∧ Touches [.cen, .ptr, .choices, .pmu, .lsl, .rcu, .lnk] s t ∧ Touches [.cen, .lnk] u t
      ∧ (u.lnk.tx ≠ .idle → t.lnk = u.lnk) := by
  intro u
  have hcomplete : s.completeCurrent = u.chooseNext true := by
    unfold State.completeCurrent
    rw [hflight]
    exact congrArg (fun x => (s.putRecord x).chooseNext true) hr
  have hchoose := chooseNext_touch true u
  have hsent := transmit_touch (u.chooseNext true)
  refine ⟨(u.chooseNext true).transmit, congrArg Host.Outcome.next ((event_powered hp).trans (congrArg State.transmit hcomplete)),
    hsent.cen, ((putRecord_touch ..).seq (hchoose.seq hsent)).mono, hchoose.seq hsent, fun hbusy => ?_⟩
  rw [transmit_busy (by rw [hchoose.lnk]; exact hbusy), hchoose.lnk]

theorem limitsLogged_of_same {d : Nat} {r : ConditionRecord} {v : LimitsView} {t u : State} (h : LimitsLogged d r v t)
    (hrcu : u.rcu = t.rcu) (hlsl : u.lsl = t.lsl) : LimitsLogged d r v u where
  stopOn hoff hon := by
    rw [hrcu]
    exact h.stopOn hoff (hlsl ▸ hon)
  alarm g a b hg hrises := by
    rw [hrcu]
    exact h.alarm g a b hg hrises

theorem resolve_still {r : ConditionRecord} {x : StartSnapshot} (h : ∀ volumes, x ≠ .pending volumes) : x.resolve r = x := by
  cases x with
  | pending volumes => exact absurd rfl (h volumes)
  | absent | taken => rfl

theorem conditionCause_iff (overall : Band) (n tolerance : Nat) (was : Bool) :
    conditionCause overall (stopRunAfter overall n) tolerance was = true
      ↔ overall = .stop ∧ (was = true ∨ tolerance ≤ min 8 (n + 1)) := by
  unfold conditionCause stopRunAfter satAdd
  by_cases h : overall = .stop
  · simp [h]
  · simp [h]

theorem exists_of_stands {r : Rcu} {d : Nat} {k : EntryKind} {ps : Vector Nat 4} (h : r.Stands d k ps) :
    ∃ e ∈ r.log, e.kind = k ∧ e.params = ps := by
  obtain ⟨before, e, behind, hlog, -, hk, hps⟩ := h
  exact ⟨e, by rw [hlog]; simp, hk, hps⟩

end Sys2Proof.Machine

namespace Sys2Proof

/- One proof at a time: side by side they take a thread each. -/
set_option Elab.async false

open Machine

/-- Settles O32: the record in place, taken by LSL, PMU, PTR and RCU, and the engine's next choice. -/
theorem currentRecordTaken : Obligations.CurrentRecordTaken := by
  intro s snap hp hflight n r
  obtain ⟨hlimits, hrecords, hlogged⟩ := putRecord_taken r s
  obtain ⟨hcurrent, hsequence, hprediction, hpending, hidle⟩ := completed_cen r s
  obtain ⟨t, hexec, hcen, htouch, hsame, hbusy⟩ := currentRecompute_runs (r := r) hp hflight rfl
  have hlsl : t.lsl = (s.putRecord r).lsl := hsame.lsl
  have hcfg : t.cfg = s.cfg := hsame.cfg.trans hlimits.cfg
  have hentries (m : Nat) (hm : s.rcu.nextSequence = some m) (hroom : m + 16 ≤ Config.maxU32) : LimitsLogged 9 r s.limitsView t :=
    limitsLogged_of_same (hlogged m hm hroom) hsame.rcu hlsl
  have hnotices (h : s.lnk.tx ≠ .idle) : t.lnk = (s.putRecord r).lnk := hbusy (by rw [hlimits.tx]; exact h)
  have hnoticed {g : AlarmGroup} {a b : Nat} (h : s.lnk.tx ≠ .idle) (hput : (s.putRecord r).AlarmNoticed g a b) :
      (t.lnk.notices[Notice.alarm.place]).map (·.content) = some (u8 g.code ++ u8 a ++ u8 b
        ++ flag s.cfg.alarm.masked[g.ix] ++ flag (!s.cfg.alarm.masked[g.ix])
        ++ flag t.lsl.groups[g.ix].causePresent ++ flag t.lsl.groups[g.ix].unacknowledged) := by
    unfold State.AlarmNoticed at hput
    rw [hlimits.cfg] at hput
    rw [hnotices h, hlsl]
    exact hput
  refine ⟨t, hexec, by rw [hcen]; exact hcurrent, by rw [hcen]; exact hsequence, by rw [hcen]; exact hprediction,
    by rw [hcen]; exact hpending, by rw [hcen]; exact hidle, by rw [hlsl]; exact hlimits.classBands,
    by rw [hlsl]; exact hlimits.overallBand, by rw [hlsl]; exact hlimits.bandSequence, by rw [hlsl]; exact hlimits.stopRun,
    ?condition, fun hoff hon m hm hroom => ⟨?line, ?stopOn⟩, by rw [hsame.pmu]; exact hlimits.counter, ⟨?kept, ?noticed⟩,
    ⟨fun g a b hg => ⟨?cause, ?unacknowledged, ?alarm⟩, fun hen h => ?alarms⟩, by rw [hsame.rcu]; exact hrecords.bands,
    by rw [hsame.rcu]; exact hrecords.overall, ?shear, ?peaks, ?arrival, ?start, ?still, htouch⟩
  case condition =>
    rw [hlsl, hlimits.condition]
    exact conditionCause_iff ..
  case line =>
    rw [hlsl] at hon ⊢
    exact hlimits.line hon
  case stopOn => exact exists_of_stands ((hentries m hm hroom).stopOn hoff hon)
  case kept =>
    intro h hbusy
    rw [hnotices hbusy]
    exact hlimits.bandKept h
  case noticed =>
    intro h hen hbusy
    rw [hnotices hbusy]
    exact hlimits.bandNoticed h hen
  case cause =>
    rw [hlsl, hlimits.groups g a b hg]
  case unacknowledged =>
    rw [hlsl, hlimits.groups g a b hg]
    rfl
  case alarm =>
    intro hrises m hm hroom
    exact exists_of_stands ((hentries m hm hroom).alarm g a b hg hrises)
  case alarms =>
    obtain ⟨hpace, hberth, hstress⟩ := hlimits.paced _ rfl hen
    exact ⟨fun hp => hnoticed h (hpace hp), fun hp hr => hnoticed h (hberth hp hr), fun hp hc hr => hnoticed h (hstress hp hc hr)⟩
  case shear =>
    rw [hsame.rcu, hrecords.peaks]
    rfl
  case peaks =>
    rw [hsame.rcu, hrecords.peaks]
    exact ⟨rfl, rfl, rfl, rfl⟩
  case arrival =>
    intro time h
    rw [hsame.rcu, hrecords.arrival, h]
    rfl
  case start =>
    intro volumes h
    rw [hsame.ptr, putRecord_ptr, h]
    rfl
  case still =>
    intro h
    rw [hsame.ptr, putRecord_ptr]
    rw [resolve_still h]

end Sys2Proof
end
section
/-! PROOFS. ALARM and the group flags over every step (R79 to R82). -/

namespace Sys2Proof

/- One proof at a time: side by side they take a thread each. -/
set_option Elab.async false

open Machine

/-- A state that AlarmSafe admits as it is written. The test under its first `any` reaches to the end of the definition, so that its third clause makes STRESS present exactly when a STRESS class is not CLEAR and BERTH is what the clauses behind it make it. Here all classes are in CAUTION, BERTH is absent though it should be present, and EQUIPMENT is present over an empty fault set: the two errors cancel. Pump 0 is in its STARTING watch. -/
def crossedAlarms : State :=
  { State.reset with
    lsl := { State.reset.lsl with
      classBands := Vector.replicate 7 .caution
      groups := #v[⟨true, false⟩, ⟨false, false⟩, ⟨false, false⟩, ⟨true, false⟩]
      alarmLine := alarmLine State.reset.cfg.alarm #v[⟨true, false⟩, ⟨false, false⟩, ⟨false, false⟩, ⟨true, false⟩] none }
    pva := { State.reset.pva with pumps := State.reset.pva.pumps.set 0 { State.reset.pva.pumps[0] with watch := .starting 0 } }
    pending := [.pumpStartTimeout 0] }

/-- The expiry of the watch puts the pump's fault in the set, and EQUIPMENT is right again: BERTH alone is wrong now. -/
def uncrossedAlarms : State := State.event (fun s => (s.startTimeout 0).grants) { crossedAlarms with pending := [] }

theorem crossedAlarms_safe : AlarmSafe crossedAlarms := by decide

theorem uncrossedAlarms_unsafe : ¬ AlarmSafe uncrossedAlarms := by decide

/-- Refutes O8: AlarmSafe, as its clauses nest, holds in a state whose errors cancel, and a pump fault mends one of the two. -/
theorem not_linesKept : ¬ Obligations.LinesKept := by
  intro h
  have hstep : step crossedAlarms = .next uncrossedAlarms := rfl
  obtain ⟨-, halarm⟩ := h _ _ hstep
  exact uncrossedAlarms_unsafe (halarm crossedAlarms_safe)

end Sys2Proof
end

section
/-! PROOFS. STOP_ACK and ALARM_ACK (R75, R76, R82, R83). -/

namespace Sys2Proof.Machine

/- One proof at a time: side by side they take a thread each. -/
set_option Elab.async false

open State

/-! ### STOP_ACK -/

/-- An evaluation that leaves LOADER STOP as it was writes no entry: it changes LSL and gives notice at most (R75). -/
theorem stopChange_still {f : Lsl → Lsl} {s : State} (h : (s.lsl.evaluated (f s.lsl)).line = s.lsl.line) :
    Touches [.lsl, .lnk] s (s.stopChange f) := by
  have hline : (s.stopEvaluated f).lsl.line = s.lsl.line := by rw [stopEvaluated_lsl, h]
  have htaken : s.stopChange f = s.stopEvaluated f := if_pos hline
  rw [htaken]
  unfold stopEvaluated
  extract_lets old l s₁ s₂
  have hsame : l.line = old.line := h
  have hquiet : s₂ = s₁ := by
    unfold s₂
    rw [hsame, if_neg (by simp), if_neg (by simp)]
  rw [hquiet]
  exact (touch_lsl s l).seq (.ite (notify_touch ..) (.refl _ s₁))

/-- A stop acknowledged, as STOP_ACK does it (R76). -/
def Lsl.acknowledge (l : Lsl) : Lsl := { l with acknowledged := true }

/-- Acknowledged while ON, the line stays ON for an active cause alone (R76). -/
theorem acknowledge_lsl {s : State} (hon : s.lsl.line = true) :
    (s.stopChange Lsl.acknowledge).lsl = { s.lsl with acknowledged := true, line := s.lsl.causes.any } := by
  rw [stopChange_lsl]
  simp [Lsl.evaluated, Lsl.acknowledge, stopLine, hon]

theorem judgeStopAck_off {s : State} (h : s.lsl.line = false) : judgeStopAck s = refuse .state s := by simp [judgeStopAck, h]

theorem judgeStopAck_again {s : State} (hon : s.lsl.line = true) (hack : s.lsl.acknowledged = true) : judgeStopAck s = taken s := by
  simp [judgeStopAck, hon, hack]

theorem judgeStopAck_first {s : State} (hon : s.lsl.line = true) (hack : s.lsl.acknowledged = false) :
    judgeStopAck s = taken (s.stopChange Lsl.acknowledge) := by
  simp only [judgeStopAck, hon, hack, Bool.not_true, Bool.false_eq_true, if_false]
  rfl

/-- An evaluation that finds the stop acknowledged and no cause active releases the line (R75, R76). -/
theorem stopChange_releases {f : Lsl → Lsl} {s : State} (hack : (f s.lsl).acknowledged = true) (hnone : (f s.lsl).causes.any = false) :
    (s.stopChange f).lsl.line = false := by
  rw [stopChange_lsl, evaluated_line, hack, hnone]
  simp

/-! ### ALARM_ACK -/

/-- Two states that differ in LSL and the link alone. -/
theorem Touches.lsl_lnk_eq {s t : State} (h : Touches [.lsl, .lnk] s t) (l : Lnk) (x : Lsl) :
    { t with lnk := l, lsl := x } = { s with lnk := l, lsl := x } := by
  rw [h.powered, h.cfg, h.berth, h.fcu, h.tanks, h.ptr, h.cen, h.tsq, h.pva, h.pmu, h.rcu, h.sst, h.ccl, h.pins, h.now,
    h.choices, h.pending]

theorem takeAlarmAck_lsl (s : State) : (takeAlarmAck s).lsl = { s.lsl with
    groups := Vector.ofFn fun g : Fin 4 => { s.lsl.groups[g] with unacknowledged := false }
    pulseUntil := none
    alarmLine := alarmLine s.cfg.alarm (Vector.ofFn fun g : Fin 4 => { s.lsl.groups[g] with unacknowledged := false }) none } := rfl

theorem takeAlarmAck_touch (s : State) : Touches [.lsl] s (takeAlarmAck s) := touch_lsl s _

/-- With no group unacknowledged and no pulse running there is nothing to acknowledge (R83). -/
theorem takeAlarmAck_idle {s : State} (halarm : AlarmSafe s) (hnone : ∀ g : Fin 4, s.lsl.groups[g].unacknowledged = false)
    (hpulse : s.lsl.pulseUntil = none) : (takeAlarmAck s).lsl = s.lsl := by
  obtain ⟨hline, -⟩ := halarm
  have hgroups : (Vector.ofFn fun g : Fin 4 => { s.lsl.groups[g] with unacknowledged := false }) = s.lsl.groups := by
    refine Vector.ext fun i hi => ?_
    rw [Vector.getElem_ofFn, ← hnone ⟨i, hi⟩]
    rfl
  rw [takeAlarmAck_lsl, hgroups, ← hpulse, ← hline]

end Sys2Proof.Machine

namespace Sys2Proof

/- One proof at a time: side by side they take a thread each. -/
set_option Elab.async false

open Machine

/-- Settles O34: STOP_ACK by the line and the acknowledgement it finds. -/
theorem stopAcknowledged : Obligations.StopAcknowledged := by
  refine fun s tag hs => ⟨fun body hbody => ?format, fun hoff => ?off, fun hon hack => ?again, fun hon hack => ?first,
    fun f _ hack hnone => stopChange_releases hack hnone⟩
  case format =>
    exact ⟨_, rfl, replied_of_kept hs fun r => anyPhase_format (by simpa [lengthIs] using hbody)⟩
  case off => exact ⟨_, rfl, replied_of_kept hs fun r => judgeStopAck_off (s := s.opened r 0x41 tag) hoff⟩
  case again => exact ⟨_, rfl, replied_of_kept hs fun r => judgeStopAck_again (s := s.opened r 0x41 tag) hon hack⟩
  case first =>
    obtain ⟨t, r, hexec, ht, ha⟩ := taken_of_judge (c := .stopAck tag []) rfl hs (f := State.stopChange Lsl.acknowledge)
      (fun r => judgeStopAck_first (s := s.opened r 0x41 tag) hon hack) fun r => stopChange_steady ..
    refine ⟨t, hexec, ht.lsl.trans (acknowledge_lsl (s := s.opened r 0x41 tag) hon),
      ((opened_touch r 0x41 tag s).seq ((stopChange_touch ..).seq ht)).mono, ha, fun hany => ?_⟩
    have hstill : Touches [.lsl, .lnk] (s.opened r 0x41 tag) ((s.opened r 0x41 tag).stopChange Lsl.acknowledge) :=
      stopChange_still (by rw [evaluated_line]; exact (Bool.or_eq_true_iff.mpr (.inl hany)).trans hon.symm)
    exact (((opened_touch r 0x41 tag s).seq (hstill.seq ht)).mono (m := [.lsl, .lnk])).lsl_lnk_eq s.lnk s.lsl

/-- Settles O35: LSL as ALARM_ACK leaves it, its flags cleared and ALARM evaluated. -/
theorem alarmAcknowledged : Obligations.AlarmAcknowledged := by
  refine fun s tag hs => ⟨fun body hbody => ?format, ?taken⟩
  case format =>
    exact ⟨_, rfl, replied_of_kept hs fun r => anyPhase_format (by simpa [lengthIs] using hbody)⟩
  case taken =>
    obtain ⟨t, r, hexec, ht, hq, ha⟩ := taken_quietly (c := .alarmAck tag []) rfl hs (f := takeAlarmAck)
      (fun _ => rfl) fun _ => rfl
    have hlsl := ht.lsl.trans (takeAlarmAck_lsl (s.opened r 0x43 tag))
    have htouch : Touches [.lsl, .lnk] s t := ((opened_touch r 0x43 tag s).seq ((takeAlarmAck_touch _).seq ht)).mono
    refine ⟨t, hexec, htouch.lsl_lnk_eq s.lnk s.lsl, fun g => ?_, by rw [hlsl], ?_, by rw [hlsl]; rfl, fun halarm hnone hpulse => ?_,
      hq, ha⟩
    · rw [hlsl]
      simp [State.opened]
    · rw [hlsl, alarmLine_eq]
      cases hmode : s.cfg.alarm.mode <;> simp [State.opened, hmode]
    · have hsame : t.lsl = s.lsl := ht.lsl.trans (takeAlarmAck_idle (s := s.opened r 0x43 tag) halarm hnone hpulse)
      calc { t with lnk := s.lnk } = { s with lnk := s.lnk, lsl := t.lsl } := htouch.lsl_lnk_eq s.lnk t.lsl
        _ = s := by rw [hsame]

end Sys2Proof
end

section
/-! PROOFS. Bands, the hysteresis state, the expected answer and the seed generator (R66, R156, R157, R167). -/

namespace Sys2Proof.Machine

/- One proof at a time: side by side they take a thread each. -/
set_option Elab.async false

/-- A usage's band is no lower than that of a lesser one, the thresholds being in order (R66). -/
theorem placeBand_mono {x : Thresholds} (hx : x.caution ≤ x.stop) {u w : Nat} (h : u ≤ w) :
    (placeBand x u).above (placeBand x w) = false := by
  have hrank (v : Nat) : (placeBand x v).code = (if x.caution ≤ v then 1 else 0) + if x.stop ≤ v then 1 else 0 := by
    unfold placeBand
    split_ifs <;> first | rfl | omega
  rw [Band.above, decide_eq_false_iff_not, hrank, hrank]
  split_ifs <;> omega

theorem hysteresisAfter_high {c : PermitConfig} {n : Nat} (h : c.upper ≤ n) (held : Bool) : hysteresisAfter c n held = true := if_pos h

theorem hysteresisAfter_low {c : PermitConfig} {n : Nat} (hlegal : c.legal) (h : n < c.lower) (held : Bool) :
    hysteresisAfter c n held = false := by
  obtain ⟨-, -, -, -, -, -, ⟨horder, -⟩, -⟩ := hlegal
  rw [hysteresisAfter, if_neg (by omega), if_pos h]

theorem hysteresisAfter_between {c : PermitConfig} {n : Nat} (hlow : c.lower ≤ n) (hhigh : n < c.upper) (held : Bool) :
    hysteresisAfter c n held = held := by
  rw [hysteresisAfter, if_neg (by omega), if_neg (by omega)]

/-- The hysteresis state evaluated twice is as it was evaluated once (R167). -/
theorem hysteresisAfter_twice (c : PermitConfig) (n : Nat) (held : Bool) :
    hysteresisAfter c n (hysteresisAfter c n held) = hysteresisAfter c n held := by
  unfold hysteresisAfter
  split_ifs <;> rfl

/-- Every bit inverted and the two bytes exchanged (R157). -/
theorem expectedAnswer_bytes (seed : BitVec 16) :
    expectedAnswer seed = (~~~seed).extractLsb' 0 8 ++ (~~~seed).extractLsb' 8 8 := by
  refine BitVec.eq_of_getLsbD_eq fun i hi => ?_
  rw [BitVec.getLsbD_append]
  simp only [expectedAnswer, BitVec.getLsbD_or, BitVec.getLsbD_shiftLeft, BitVec.getLsbD_ushiftRight, BitVec.getLsbD_extractLsb']
  by_cases h : i < 8
  · simp [h]
  · have hhigh : (~~~seed).getLsbD (8 + i) = false := BitVec.getLsbD_of_ge _ _ (by omega)
    simp [h, hhigh, hi, show i - 8 < 8 by omega]

/-- Each place takes the one below it, and place 0 the exclusive-or of places 14 and 13 (R156). -/
theorem seedStep_bit (x : BitVec 15) {i : Nat} (hi : i < 15) :
    (seedStep x).getLsbD i = if i = 0 then x.getLsbD 14 ^^ x.getLsbD 13 else x.getLsbD (i - 1) := by
  simp only [seedStep, BitVec.getLsbD_or, BitVec.getLsbD_shiftLeft, BitVec.getLsbD_setWidth, BitVec.getLsbD_ofBool]
  by_cases h : i = 0
  · subst h
    simp
  · simp [h, hi, show ¬i < 1 by omega]

/-- Places 0 to 13 stand one place up after the step, and place 14 follows from place 13 and the new place 0. -/
theorem seedStep_injective {x y : BitVec 15} (h : seedStep x = seedStep y) : x = y := by
  have hlow (i : Nat) (hi : i < 14) : x.getLsbD i = y.getLsbD i := by
    have hbit := congrArg (fun z : BitVec 15 => z.getLsbD (i + 1)) h
    simpa [seedStep_bit x (show i + 1 < 15 by omega), seedStep_bit y (show i + 1 < 15 by omega)] using hbit
  have hzero := congrArg (fun z : BitVec 15 => z.getLsbD 0) h
  simp only [seedStep_bit _ (show 0 < 15 by omega), if_true, hlow 13 (by omega)] at hzero
  refine BitVec.eq_of_getLsbD_eq fun i hi => ?_
  by_cases h14 : i = 14
  · subst h14
    simpa using hzero
  · exact hlow i (by omega)

end Sys2Proof.Machine

namespace Sys2Proof

open Machine

/-- Settles O50: each figure by its own rule. -/
theorem lineFigures : Obligations.LineFigures := by
  refine ⟨fun x u => ⟨?_, ?_, fun hx => ?_, fun w hx h => placeBand_mono hx h⟩,
    fun c n held hlegal => ⟨fun h => hysteresisAfter_high h held, fun h => hysteresisAfter_low hlegal h held,
      fun hlow hhigh => hysteresisAfter_between hlow hhigh held, hysteresisAfter_twice c n held⟩,
    expectedAnswer_bytes, fun x i hi => seedStep_bit x hi, fun _ _ => seedStep_injective, fun x hx h => ?_⟩
  · unfold placeBand
    split_ifs <;> simp <;> omega
  · unfold placeBand
    split_ifs <;> simp <;> omega
  · unfold placeBand
    split_ifs <;> simp <;> omega
  · have hzero : seedStep 0 = 0 := by decide
    exact hx (seedStep_injective (h.trans hzero.symm))

end Sys2Proof
end

section
/-! PROOFS. What the consequences of a counter's change leave: of the permit unit its check and its counter, of LSL its PACE group, of RCU the attendance count (R80, R164, R165, R168, R169). -/

namespace Sys2Proof.Machine

/- One proof at a time: side by side they take a thread each. -/
set_option Elab.async false

open State

/-! ### The permit unit -/

/-- The consequences of a counter's change leave the check, the counter and every flag set as they are; the hysteresis state is the one given, and a counter of 0 sets COUNTER_ZERO (R165). -/
structure CounterKept (hysteresis : Bool) (s t : State) : Prop where
  unit : t.pmu.unit = s.pmu.unit
  seed : t.pmu.seed = s.pmu.seed
  trips : t.pmu.trips = s.pmu.trips
  counter : t.pmu.counter = s.pmu.counter
  hysteresis : t.pmu.hysteresis = hysteresis
  flags : ∀ i : Fin 9, s.pmu.flags[i] = true → t.pmu.flags[i] = true
  zero : s.pmu.counter = 0 → t.pmu.flags[StatusFlag.counterZero.ix] = true

/-- Only LOADER PERMIT of the permit unit may differ. -/
def PermitAlone (s t : State) : Prop := ∃ permit, t.pmu = { s.pmu with permit := permit }

theorem PermitAlone.of_touches {l : List Part} {s t : State} (h : Touches l s t) (hl : Part.pmu ∉ l := by decide) :
    PermitAlone s t := ⟨s.pmu.permit, h.pmu hl⟩

theorem PermitAlone.trans {s t u : State} (h : PermitAlone s t) (g : PermitAlone t u) : PermitAlone s u := by
  obtain ⟨permit, hpermit⟩ := h
  obtain ⟨permit', hpermit'⟩ := g
  exact ⟨permit', by rw [hpermit', hpermit]⟩

theorem evalPermit_permitAlone (c : PermitCause) (s : State) : PermitAlone s (s.evalPermit c) := ⟨_, evalPermit_pmu c s⟩

theorem permitSettled_permitAlone (b line : Bool) (s : State) : PermitAlone s (s.permitSettled b line) := by
  have hturned : PermitAlone s (if b then s.evalPermit .counter else s) := by
    split
    · exact evalPermit_permitAlone ..
    · exact .of_touches (.refl [] s)
  refine hturned.trans ?_
  by_cases h : (if b then s.evalPermit .counter else s).lsl.line = line
  · exact ⟨_, (stopTaken_pmu ..).trans (if_pos h)⟩
  · exact ⟨_, (stopTaken_pmu ..).trans (if_neg h)⟩

theorem reportConditions_pmu (s : State) : s.reportConditions.pmu = s.conditionsNoted.pmu := by
  have hlow : s.lowHeard.pmu = s.conditionsNoted.pmu := by
    unfold lowHeard
    split
    · rfl
    · exact (counterLowReport_touch ..).pmu
  rw [reportConditions_eq]
  split
  · exact hlow
  · exact (counterCause_touch ..).pmu.trans hlow

theorem setFlag_flag (f : StatusFlag) (s : State) (i : Fin 9) :
    (s.setFlag f).pmu.flags[i] = (decide (f.ix = i) || s.pmu.flags[i]) := by
  simp only [setFlag, Fin.getElem_fin, Vector.getElem_set, Fin.ext_iff]
  split <;> simp [*]

theorem counterSettled_counterKept (h : Bool) (s : State) : CounterKept h s (s.counterSettled h) := by
  obtain ⟨permit, hpermit⟩ := permitSettled_permitAlone (!decide (h = s.pmu.hysteresis)) s.lsl.line (s.counterNoted h).reportConditions
  have hpmu : (s.counterSettled h).pmu = { (s.counterNoted h).conditionsNoted.pmu with permit := permit } := by
    rw [counterSettled_eq, hpermit, reportConditions_pmu]
  have hflag (i : Fin 9) : (s.counterSettled h).pmu.flags[i] = if s.pmu.counter = 0 then (s.setFlag .counterZero).pmu.flags[i] else s.pmu.flags[i] := by
    rw [hpmu]
    simp only [conditionsNoted, counterNoted]
    split <;> rfl
  have hcheck : (s.counterNoted h).pmu.unit = s.pmu.unit ∧ (s.counterNoted h).pmu.seed = s.pmu.seed
      ∧ (s.counterNoted h).pmu.trips = s.pmu.trips := by
    simp only [counterNoted]
    split <;> exact ⟨rfl, rfl, rfl⟩
  obtain ⟨hunit, hseed, htrips⟩ := hcheck
  refine ⟨by rw [hpmu]; exact hunit, by rw [hpmu]; exact hseed, by rw [hpmu]; exact htrips, counterSettled_counter h s,
    by rw [hpmu]; rfl, fun i hi => ?_, fun hzero => ?_⟩
  · rw [hflag, setFlag_flag, hi]
    simp
  · rw [hflag, if_pos hzero, setFlag_flag]
    simp

/-! ### The PACE group, the ALARM notice and the attendance count -/

/-- What follows an event of the permit unit: few entries and no attendance bad event; the PACE group is unacknowledged as before, or unmasked and so made; its cause-present flag, where it said what its rule says, does so still; and an ALARM notice stays pending (R78, R80). -/
structure Aftermath (m : Nat) (s t : State) : Prop where
  adds : Adds m s t
  cfg : t.cfg = s.cfg
  unacknowledged : t.lsl.groups[AlarmGroup.pace.ix].unacknowledged = s.lsl.groups[AlarmGroup.pace.ix].unacknowledged
    ∨ t.lsl.groups[AlarmGroup.pace.ix].unacknowledged
        = (s.lsl.groups[AlarmGroup.pace.ix].unacknowledged || !s.cfg.alarm.masked[AlarmGroup.pace.ix])
  cause : s.lsl.groups[AlarmGroup.pace.ix].causePresent = (s.lsl.paceLagging || s.lsl.counterLow) →
    t.lsl.groups[AlarmGroup.pace.ix].causePresent = (t.lsl.paceLagging || t.lsl.counterLow)
  lagging : t.lsl.paceLagging = s.lsl.paceLagging
  alarm : s.lnk.notices[Notice.alarm.place] ≠ none → t.lnk.notices[Notice.alarm.place] ≠ none
  bad : t.rcu.counts.attendanceBad = s.rcu.counts.attendanceBad

namespace Aftermath

variable {m m' : Nat} {s t u : State}

/-- Nothing of PACE, of the ALARM notice or of the count changes. -/
theorem of_same (ha : Adds m s t) (hcfg : t.cfg = s.cfg) (hgroups : t.lsl.groups = s.lsl.groups) (hlag : t.lsl.paceLagging = s.lsl.paceLagging)
    (hlow : t.lsl.counterLow = s.lsl.counterLow) (hn : t.lnk.notices[Notice.alarm.place] = s.lnk.notices[Notice.alarm.place])
    (hbad : t.rcu.counts.attendanceBad = s.rcu.counts.attendanceBad) : Aftermath m s t :=
  ⟨ha, hcfg, .inl (by rw [hgroups]), fun h => by rw [hgroups, hlag, hlow, h], hlag, fun h => by rw [hn]; exact h, hbad⟩

theorem of_touches {l : List Part} (h : Touches l s t) (hc : Part.cfg ∉ l := by decide) (hl : Part.lsl ∉ l := by decide)
    (hr : Part.rcu ∉ l := by decide) (hq : Part.tsq ∉ l := by decide) (hk : Part.lnk ∉ l := by decide) : Aftermath 0 s t :=
  of_same (.of_touches h hr hq) (h.cfg hc) (by rw [h.lsl hl]) (by rw [h.lsl hl]) (by rw [h.lsl hl]) (by rw [h.lnk hk]) (by rw [h.rcu hr])

theorem trans (h : Aftermath m s t) (g : Aftermath m' t u) : Aftermath (m + m') s u where
  adds := h.adds.trans g.adds
  cfg := g.cfg.trans h.cfg
  unacknowledged := by
    rcases h.unacknowledged with hs | hs <;> rcases g.unacknowledged with ht | ht <;> rw [ht, hs]
    · exact .inl rfl
    · rw [h.cfg]; exact .inr rfl
    · exact .inr rfl
    · rw [h.cfg, Bool.or_assoc, Bool.or_self]; exact .inr rfl
  cause hc := g.cause (h.cause hc)
  lagging := g.lagging.trans h.lagging
  alarm hn := g.alarm (h.alarm hn)
  bad := g.bad.trans h.bad

theorem mono (h : Aftermath m s t) (hm : m ≤ m') : Aftermath m' s t :=
  ⟨h.adds.mono hm, h.cfg, h.unacknowledged, h.cause, h.lagging, h.alarm, h.bad⟩

theorem ite {c : Prop} [Decidable c] (h : Aftermath m s t) (g : Aftermath m s u) : Aftermath m s (if c then t else u) := by
  split <;> assumption

theorem refl (s : State) : Aftermath 0 s s := of_touches (.refl [] s)

end Aftermath

/-- An entry that is no attendance bad event leaves their count (R180). -/
theorem entry_attendanceBad {k : EntryKind} (hk : k ≠ .attendanceBad) (ps : List Nat) (c : Counts) :
    (c.entry k ps).attendanceBad = c.attendanceBad := by
  cases k
  case attendanceBad => exact absurd rfl hk
  case permitChange =>
    simp only [Counts.entry]
    split <;> rfl
  case pourEnd =>
    simp only [Counts.entry]
    split <;> split <;> rfl
  all_goals rfl

theorem log_aftermath {k : EntryKind} (hk : k ≠ .attendanceBad) (ps : List Nat) (s : State) : Aftermath 1 s (s.log k ps) :=
  .of_same (log_adds k ps s) rfl rfl rfl rfl rfl (entry_attendanceBad hk ps _)

/-- A notice of another kind leaves the pending ALARM notice (R194). -/
theorem notify_aftermath {n : Notice} (hn : n.place ≠ Notice.alarm.place) (c : List Byte) (s : State) : Aftermath 0 s (s.notify n c) := by
  have h := notify_touch n c s
  refine .of_same (.of_touches h) h.cfg (by rw [h.lsl]) (by rw [h.lsl]) (by rw [h.lsl]) ?_ (by rw [h.rcu])
  exact (notify_kept n c s).notices _ fun hm => hn (List.mem_singleton.mp hm).symm

theorem withdraw_aftermath {n : Notice} (hn : n.place ≠ Notice.alarm.place) (s : State) : Aftermath 0 s (s.withdraw n) := by
  have h := withdraw_touch n s
  refine .of_same (.of_touches h) rfl rfl rfl rfl ?_ rfl
  exact Vector.getElem_set_ne n.place.isLt Notice.alarm.place.isLt fun e => hn (Fin.ext e)

theorem evalPermit_aftermath (c : PermitCause) (s : State) : Aftermath 1 s (s.evalPermit c) :=
  .ite ((Aftermath.refl s).mono (by decide)) ((Aftermath.of_touches (touch_pmu s _)).trans
    ((log_aftermath (by decide) ..).trans (notify_aftermath (n := .permitChanged) (by decide) ..)))

theorem stopTaken_aftermath (b : Bool) (s : State) : Aftermath 1 s (s.stopTaken b) :=
  .ite ((Aftermath.refl s).mono (by decide)) (evalPermit_aftermath ..)

theorem counterCause_aftermath (b : Bool) (s : State) : Aftermath 1 s (s.counterCause b) := by
  unfold counterCause stopEvaluated
  extract_lets old l s₁ s₂
  have h₁ : Aftermath 0 s s₁ := .of_same (.of_touches (touch_lsl s _)) rfl rfl rfl rfl rfl rfl
  have h₂ : Aftermath 1 s₁ s₂ :=
    .ite (log_aftermath (by decide) ..) (.ite (log_aftermath (by decide) ..) ((Aftermath.refl _).mono (by decide)))
  exact h₁.trans (h₂.trans (Aftermath.ite (notify_aftermath (n := .stopChanged) (by decide) ..) (.refl _)))

theorem alarmEvent_causePresent (g : AlarmGroup) (source item : Nat) (s : State) :
    (s.alarmEvent g source item).lsl.groups[g.ix].causePresent = s.lsl.groups[g.ix].causePresent := by
  rw [alarmEvent_group]

/-- An alarm event leaves pace lagging and counter low as they are (R80). -/
theorem alarmEvent_paceState (g : AlarmGroup) (source item : Nat) (s : State) :
    (s.alarmEvent g source item).lsl.paceLagging = s.lsl.paceLagging
      ∧ (s.alarmEvent g source item).lsl.counterLow = s.lsl.counterLow := by
  cases hm : s.cfg.alarm.masked[g.ix] with
  | true =>
    rw [alarmEvent_masked g source item s hm]
    exact ⟨rfl, rfl⟩
  | false =>
    rw [alarmEvent_unmasked g source item s hm]
    exact ⟨rfl, rfl⟩

theorem alarmEvent_adds (g : AlarmGroup) (source item : Nat) (s : State) : Adds 1 s (s.alarmEvent g source item) where
  more _ _ hn he hfew := by
    rw [alarmEvent_rcu, (alarmEvent_touch ..).tsq]
    exact ⟨[_], Nat.le_refl _, he.log (by omega) hn ..⟩

/-- With the kind enabled the ALARM notice is pending after an alarm event (R78). -/
theorem alarmEvent_pending {s : State} (h : s.lnk.enables 3 = true) (g : AlarmGroup) (source item : Nat) :
    (s.alarmEvent g source item).lnk.notices[Notice.alarm.place] ≠ none := by
  intro hnone
  have hnotice := alarmEvent_notice (g := g) (source := source) (item := item) h
  rw [hnone] at hnotice
  exact absurd hnotice (by simp)

/-- Without the kind enabled an alarm event makes no notice (R195). -/
theorem alarmEvent_silent {s : State} (h : s.lnk.enables 3 = false) (g : AlarmGroup) (source item : Nat) :
    (s.alarmEvent g source item).lnk = s.lnk := by
  unfold alarmEvent
  extract_lets masked s₁ s₂ s₃ s₄
  have h₂ : Touches [.lsl, .rcu] s s₂ := ((Touches.ite (.refl [.lsl] s) (touch_lsl s _)).seq (log_touch ..)).mono
  have h₃ : s₃ = s₂ := by
    refine if_neg ?_
    rw [h₂.lnk]
    exact Bool.eq_false_iff.mp h
  have h₄ : Touches [.lsl] s₃ s₄ := .ite (.refl _ _) (startPulse_touch _)
  rw [(evalAlarm_touch s₄).lnk, h₄.lnk, h₃, h₂.lnk]

theorem alarmEvent_aftermath (source item : Nat) (s : State) : Aftermath 1 s (s.alarmEvent .pace source item) := by
  obtain ⟨hlag, hlow⟩ := alarmEvent_paceState .pace source item s
  refine ⟨alarmEvent_adds .., (alarmEvent_touch ..).cfg, .inr (by rw [alarmEvent_group]), fun h => ?_, hlag, fun h => ?_, ?_⟩
  · rw [alarmEvent_causePresent, hlag, hlow, h]
  · cases hen : s.lnk.enables 3 with
    | true => exact alarmEvent_pending hen .pace source item
    | false => rw [alarmEvent_silent hen]; exact h
  · rw [alarmEvent_rcu]
    exact (log_aftermath (k := .alarm) (by decide) ..).bad

theorem lowNoted_aftermath (low : Bool) (s : State) : Aftermath 0 s (s.lowNoted low) where
  adds := .of_touches (lowNoted_touch low s)
  cfg := rfl
  unacknowledged := .inl (by simp [lowNoted, paceCause, setCause_lsl])
  cause _ := by simp [lowNoted, paceCause, setCause_lsl]
  lagging := rfl
  alarm h := h
  bad := rfl

theorem counterLowReport_aftermath (low : Bool) (s : State) : Aftermath 1 s (s.counterLowReport low) := by
  rw [counterLowReport_eq]
  exact .ite ((lowNoted_aftermath low s).trans (alarmEvent_aftermath ..)) ((lowNoted_aftermath low s).mono (by decide))

theorem reportConditions_aftermath (s : State) : Aftermath 2 s s.reportConditions := by
  have hnoted : Aftermath 0 s s.conditionsNoted := .of_touches (conditionsNoted_touch s)
  have hlow : Aftermath 1 s s.lowHeard :=
    .ite (hnoted.mono (by decide)) (hnoted.trans (counterLowReport_aftermath ..))
  rw [reportConditions_eq]
  exact .ite (hlow.mono (by decide)) (hlow.trans (counterCause_aftermath ..))

theorem counterSettled_aftermath (h : Bool) (s : State) : Aftermath 4 s (s.counterSettled h) := by
  have hsettled (b line : Bool) (u : State) : Aftermath 2 u (u.permitSettled b line) :=
    (Aftermath.ite (evalPermit_aftermath ..) ((Aftermath.refl u).mono (by decide))).trans (stopTaken_aftermath ..)
  rw [counterSettled_eq]
  exact (Aftermath.of_touches (counterNoted_touch h s)).trans ((reportConditions_aftermath _).trans (hsettled ..))

theorem permitEvent_aftermath (good : Bool) (s : State) : Aftermath 4 s (s.permitEvent good) :=
  .ite ((Aftermath.refl s).mono (by decide))
    ((Aftermath.of_touches (setCounter_touch ..)).trans (counterSettled_aftermath ..))

/-! ### The challenge timer and its notice -/

theorem challengeDue_aftermath (s : State) : Aftermath 0 s s.challengeDue := by
  unfold challengeDue
  split
  · exact (Aftermath.of_touches (touch_pmu s _)).trans (notify_aftermath (n := .challengeDue) (by decide) ..)
  · exact .refl s

theorem startChallengeTimer_aftermath (s : State) : Aftermath 0 s s.startChallengeTimer :=
  (Aftermath.of_touches (touch_pmu s _)).trans (Aftermath.ite (challengeDue_aftermath _) (.refl _))

theorem challengeDue_pmu {s : State} {since : Nat} {opened : Bool} (h : s.pmu.unit = .awaitChallenge since opened) :
    s.challengeDue.pmu = { s.pmu with unit := .awaitChallenge since true } := by
  simp only [challengeDue, h]
  exact (notify_touch ..).pmu

/-- The challenge timer starts from now, its R_open moment taken at once where R_open is 0 (R159, R161). -/
theorem startChallengeTimer_pmu (s : State) :
    s.startChallengeTimer.pmu = { s.pmu with unit := .awaitChallenge s.now (decide (s.cfg.permit.rOpen = 0)) } := by
  unfold startChallengeTimer
  extract_lets _ s₁
  by_cases h : s.cfg.permit.rOpen = 0
  · have hopen : (if s₁.cfg.permit.rOpen = 0 then s₁.challengeDue else s₁) = s₁.challengeDue := if_pos h
    rw [hopen, challengeDue_pmu (since := s.now) (opened := false) rfl, decide_eq_true h]
  · have hshut : (if s₁.cfg.permit.rOpen = 0 then s₁.challengeDue else s₁) = s₁ := if_neg h
    rw [hshut, decide_eq_false h]

end Sys2Proof.Machine
end

section
/-! PROOFS. The events of the attendance check, and an attendance bad event taken (R80, R156, R164, R165). -/

namespace Sys2Proof.Machine

/- One proof at a time: side by side they take a thread each. -/
set_option Elab.async false

open State

/-! ### Good events and attendance bad events -/

/-- A good event of a running check raises the counter (R165). -/
theorem permitEvent_running {s : State} (hrun : s.pmu.unit ≠ .idle) (good : Bool) :
    s.permitEvent good = (s.setCounter (counterAfter s.cfg.permit good s.pmu.counter)).counterSettled
      (hysteresisAfter s.cfg.permit (counterAfter s.cfg.permit good s.pmu.counter) s.pmu.hysteresis) := if_neg hrun

theorem permitEvent_counterKept {s : State} (hrun : s.pmu.unit ≠ .idle) (good : Bool) :
    CounterKept (hysteresisAfter s.cfg.permit (counterAfter s.cfg.permit good s.pmu.counter) s.pmu.hysteresis)
      (s.setCounter (counterAfter s.cfg.permit good s.pmu.counter)) (s.permitEvent good) := by
  rw [permitEvent_running hrun]
  exact counterSettled_counterKept ..

/-- The flag of an attendance bad event set and the counter lowered (R164, R165). -/
def State.lowered (f : StatusFlag) (s : State) : State :=
  (s.setFlag f).setCounter (counterAfter s.cfg.permit false s.pmu.counter)

theorem lowered_touch (f : StatusFlag) (s : State) : Touches [.pmu] s (s.lowered f) :=
  (setFlag_touch f s).trans (setCounter_touch ..)

theorem attendanceEvent_counterKept (f : StatusFlag) (e : Nat) (s : State) :
    CounterKept (hysteresisAfter s.cfg.permit (s.pmu.counter - s.cfg.permit.badStep) s.pmu.hysteresis)
      (s.lowered f) (s.attendanceEvent f e) := by
  have hbad := attendanceBad_touch f e false (s.lowered f)
  have hnow : ((s.lowered f).attendanceBad f e false).hysteresisNow =
      hysteresisAfter s.cfg.permit (s.pmu.counter - s.cfg.permit.badStep) s.pmu.hysteresis := by
    rw [hysteresisNow, hbad.pmu, hbad.cfg]
    rfl
  have h := counterSettled_counterKept (((s.lowered f).attendanceBad f e false).hysteresisNow) ((s.lowered f).attendanceBad f e false)
  rw [hnow] at h
  obtain ⟨hunit, hseed, htrips, hcounter, hhyst, hflags, hzero⟩ := h
  rw [hbad.pmu] at hunit hseed htrips hcounter hflags hzero
  have heq : s.attendanceEvent f e = ((s.lowered f).attendanceBad f e false).counterSettled
      (hysteresisAfter s.cfg.permit (s.pmu.counter - s.cfg.permit.badStep) s.pmu.hysteresis) := by
    rw [← hnow]
    rfl
  rw [heq]
  exact ⟨hunit, hseed, htrips, hcounter, hhyst, hflags, hzero⟩

theorem attendanceEvent_flag (f : StatusFlag) (e : Nat) (s : State) : (s.attendanceEvent f e).pmu.flags[f.ix] = true := by
  refine (attendanceEvent_counterKept f e s).flags f.ix ?_
  have h : (s.lowered f).pmu.flags = (s.setFlag f).pmu.flags := rfl
  rw [h, setFlag_flag]
  simp

theorem attendanceEvent_aftermath (f : StatusFlag) (e : Nat) (s : State) :
    Aftermath 4 ((s.lowered f).attendanceBad f e false) (s.attendanceEvent f e) := counterSettled_aftermath ..

/-! ### An attendance bad event taken by LSL and RCU -/

/-- The entries of an attendance bad event: ALARM before ATTENDANCE_BAD (log entry 23). -/
theorem attendanceBad_rcu (f : StatusFlag) (e : Nat) (b : Bool) (s : State) :
    (s.attendanceBad f e b).rcu =
      ((s.alarmEntry .pace (10 + f.code) 255).log .attendanceBad [f.code, e, s.pmu.counter, b.toNat]).rcu := by
  have h := attendanceReport_touch f s
  exact log_congr (alarmEvent_rcu ..) h.ccl ..

/-- An attendance bad event reported and logged at once, before any other entry, is taken (R80, R164). -/
theorem attendanceTaken_of_aftermath {s s₁ u t : State} {f : StatusFlag} {e m : Nat} {b : Bool} (h₁ : Touches [.pmu, .lnk] s s₁)
    (henabled : s₁.lnk.enabled = s.lnk.enabled) (hu : Aftermath m (s₁.attendanceBad f e b) u) (hm : m ≤ 30)
    (hflag : u.pmu.flags[f.ix] = true) (hcounter : u.pmu.counter = s₁.pmu.counter) (ht : Touches [.lnk] u t)
    (hnotices : s.lnk.tx ≠ .idle → t.lnk.notices = u.lnk.notices) : AttendanceTaken s t f e b := by
  have hbad := attendanceBad_touch f e b s₁
  have hrcu := attendanceBad_rcu f e b s₁
  have hgroup : (s₁.attendanceBad f e b).lsl.groups[AlarmGroup.pace.ix].unacknowledged =
      (s.lsl.groups[AlarmGroup.pace.ix].unacknowledged || !s.cfg.alarm.masked[AlarmGroup.pace.ix]) := by
    have hlsl : (s₁.attendanceBad f e b).lsl = (s₁.alarmEvent .pace (10 + f.code) 255).lsl := rfl
    rw [hlsl, alarmEvent_group, h₁.lsl, h₁.cfg]
  refine ⟨by rw [ht.pmu]; exact hflag, ?_, fun hen hbusy => ?_, ?_, fun hsafe n hnext hroom => ?_⟩
  · rw [ht.lsl]
    rcases hu.unacknowledged with h | h <;> rw [h, hgroup]
    rw [hbad.cfg, h₁.cfg, Bool.or_assoc, Bool.or_self]
  · rw [hnotices hbusy]
    have hen₁ : s₁.lnk.enables 3 = true := by rw [Lnk.enables, henabled]; exact hen
    exact hu.alarm (alarmEvent_pending hen₁ .pace (10 + f.code) 255)
  · rw [ht.rcu, hu.bad, hrcu]
    have hcount : s₁.rcu.counts.attendanceBad = s.rcu.counts.attendanceBad := by rw [h₁.rcu]
    rw [← hcount]
    rfl
  · have hfirst : Entered n [] s₁.rcu := by rw [h₁.rcu]; exact Entered.start hsafe hnext
    have hsecond := (hfirst.log (s := s₁) (by decide) hroom .alarm
      [AlarmGroup.pace.code, 10 + f.code, 255, s₁.cfg.alarm.masked[AlarmGroup.pace.ix].toNat]).log
        (s := s₁.alarmEntry .pace (10 + f.code) 255) (by simp) hroom .attendanceBad [f.code, e, s₁.pmu.counter, b.toNat]
    rw [← hrcu] at hsecond
    have hheld := heldCount_le (s₁.attendanceBad f e b).tsq
    obtain ⟨more, -, hdone⟩ := hu.adds.more n _ hroom hsecond (by simp; omega)
    rw [ht.rcu, ht.pmu, hcounter, hdone.entries, entryOf_four, entryOf_four, h₁.cfg]
    exact List.prefix_append ..

/-- An attendance bad event of a running check is taken, whatever timer starts behind it. -/
theorem attendanceTaken_of_event {s s₁ u t : State} {f : StatusFlag} {e : Nat} (h₁ : Touches [.lnk] s s₁)
    (henabled : s₁.lnk.enabled = s.lnk.enabled) (hu : Aftermath 0 (s₁.attendanceEvent f e) u)
    (hflags : u.pmu.flags = (s₁.attendanceEvent f e).pmu.flags) (hcounter : u.pmu.counter = (s₁.attendanceEvent f e).pmu.counter)
    (ht : Touches [.lnk] u t) (hnotices : s.lnk.tx ≠ .idle → t.lnk.notices = u.lnk.notices) : AttendanceTaken s t f e false :=
  attendanceTaken_of_aftermath (s₁ := s₁.lowered f) (h₁.seq (lowered_touch f s₁)).mono henabled
    ((attendanceEvent_aftermath f e s₁).trans hu) (by decide) (by rw [hflags]; exact attendanceEvent_flag f e s₁)
    (hcounter.trans (attendanceEvent_counterKept f e s₁).counter) ht hnotices

end Sys2Proof.Machine
end

section
/-! PROOFS. CHALLENGE and ANSWER (R156 to R159, R161, R163 to R165, R167). -/

namespace Sys2Proof.Machine

/- One proof at a time: side by side they take a thread each. -/
set_option Elab.async false

open State

/-! ### A request answered by what it has done -/

/-- A request answered at once, by a body that what it has done may settle: the notices are those its judgement left. -/
theorem judged_of_serve {c : Instr} {s : State} {kind : Byte} {tag : Tag} {judge : ReplyNo → State → Judged}
    (hexec : exec c s = .next (s.serve kind tag judge)) (h : s.serving) {f : State → State} {st : Status}
    {body : ReplyNo → List Byte} (hj : ∀ r, judge r (s.opened r kind tag) = (f (s.opened r kind tag), some ⟨st, body r⟩))
    (hst : ∀ r, Steady (s.opened r kind tag) (f (s.opened r kind tag))) :
    ∃ t r, exec c s = .next t ∧ Touches [.lnk] (f (s.opened r kind tag)) t
      ∧ t.lnk.notices = (f (s.opened r kind tag)).lnk.notices ∧ Answered s t kind tag st (body r) := by
  obtain ⟨r, hr⟩ := h.slot
  have hslot : (f (s.opened r kind tag)).lnk.slots[r] = .reserved kind tag := by
    rw [(hst r).slots]
    exact Vector.getElem_set_self ..
  refine ⟨_, r, hexec, serve_touch h.1 hr (hj r), ?_, answered_of_steady h.1 hr (hj r) (hst r)⟩
  rw [serve_eq h.1 hr, hj]
  simp only []
  rw [reply_reserved hslot]
  exact transmit_notices (by simp)

theorem opened_enabled (r : ReplyNo) (kind : Byte) (tag : Tag) (s : State) : (s.opened r kind tag).lnk.enabled = s.lnk.enabled := rfl

/-! ### CHALLENGE by the unit state -/

section Challenge
variable {s : State} {since : Nat} {opened : Bool}

theorem takeChallenge_idle (h : s.pmu.unit = .idle) : takeChallenge s = (s.startCheck, .none) := by simp only [takeChallenge, h]

theorem takeChallenge_answering (h : s.pmu.unit = .awaitAnswer since) :
    takeChallenge s = ((s.attendanceEvent .earlyChallenge (s.elapsed since)).startAnswerTimer, .early) := by
  simp only [takeChallenge, h]

/-- A CHALLENGE in AWAIT_CHALLENGE, its judgement brought and the notice withdrawn (R161). -/
theorem takeChallenge_waiting (h : s.pmu.unit = .awaitChallenge since opened) :
    takeChallenge s = (((s.challengeEvent (judgeChallenge s.cfg.permit (s.elapsed since)) (s.elapsed since)).withdraw
      .challengeDue).startAnswerTimer, judgeChallenge s.cfg.permit (s.elapsed since)) := by simp only [takeChallenge, h]

theorem takeChallenge_judged {j : Judgement} (h : s.pmu.unit = .awaitChallenge since opened)
    (hj : judgeChallenge s.cfg.permit (s.elapsed since) = j) :
    takeChallenge s = (((s.challengeEvent j (s.elapsed since)).withdraw .challengeDue).startAnswerTimer, j) :=
  hj ▸ takeChallenge_waiting h

/-- The check starts with the counter at its initial value (R158). -/
theorem startCheck_counterKept (s : State) :
    CounterKept (decide (s.cfg.permit.upper ≤ s.cfg.permit.initial)) (s.setCounter s.cfg.permit.initial)
      ((s.setCounter s.cfg.permit.initial).counterSettled (decide (s.cfg.permit.upper ≤ s.cfg.permit.initial))) :=
  counterSettled_counterKept ..

theorem startCheck_eq (s : State) :
    s.startCheck = ((s.setCounter s.cfg.permit.initial).counterSettled
      (decide (s.cfg.permit.upper ≤ s.cfg.permit.initial))).startAnswerTimer := by
  have h : hysteresisAfter s.cfg.permit s.cfg.permit.initial false = decide (s.cfg.permit.upper ≤ s.cfg.permit.initial) := by
    unfold hysteresisAfter
    split_ifs <;> simp [*]
  rw [← h]
  rfl

/-- What brings a challenge its judgement leaves the seed (R156). -/
theorem challengeEvent_seed (hrun : s.pmu.unit ≠ .idle) (j : Judgement) (e : Nat) : (s.challengeEvent j e).pmu.seed = s.pmu.seed := by
  cases j with
  | early => exact (attendanceEvent_counterKept .earlyChallenge e s).seed
  | late => exact (attendanceEvent_counterKept .lateChallenge e s).seed
  | good => exact (permitEvent_counterKept hrun true).seed
  | none => rfl
  | wrong => rfl

/-- A changed counter has its hysteresis state evaluated (R167). -/
theorem challengeEvent_hysteresis (hrun : s.pmu.unit ≠ .idle) (j : Judgement) (e : Nat) :
    (s.challengeEvent j e).pmu.counter ≠ s.pmu.counter →
      (s.challengeEvent j e).pmu.hysteresis = hysteresisAfter s.cfg.permit (s.challengeEvent j e).pmu.counter s.pmu.hysteresis := by
  have hbad (f : StatusFlag) : (s.attendanceEvent f e).pmu.hysteresis =
      hysteresisAfter s.cfg.permit (s.attendanceEvent f e).pmu.counter s.pmu.hysteresis := by
    have h := attendanceEvent_counterKept f e s
    rw [h.hysteresis, h.counter]
    rfl
  cases j with
  | early => exact fun _ => hbad .earlyChallenge
  | late => exact fun _ => hbad .lateChallenge
  | good =>
    have h := permitEvent_counterKept hrun true
    intro _
    exact h.hysteresis.trans (by rw [show (s.challengeEvent .good e).pmu.counter = _ from h.counter]; rfl)
  | none => exact fun h => absurd rfl h
  | wrong => exact fun h => absurd rfl h

theorem takeChallenge_unit (s : State) : (takeChallenge s).1.pmu.unit = .awaitAnswer s.now := by
  have htimer {l : List Part} {t : State} (h : Touches l s t) (hl : Part.now ∉ l := by decide) :
      t.startAnswerTimer.pmu.unit = .awaitAnswer s.now := congrArg UnitState.awaitAnswer (h.now hl)
  cases hunit : s.pmu.unit with
  | idle =>
    rw [takeChallenge_idle hunit, startCheck_eq]
    exact htimer ((setCounter_touch ..).seq (counterSettled_touch ..))
  | awaitAnswer since =>
    rw [takeChallenge_answering hunit]
    exact htimer (attendanceEvent_touch ..)
  | awaitChallenge since opened =>
    rw [takeChallenge_waiting hunit]
    exact htimer ((challengeEvent_touch ..).seq (withdraw_touch ..))

theorem takeChallenge_seed (s : State) : (takeChallenge s).1.pmu.seed = s.pmu.seed := by
  cases hunit : s.pmu.unit with
  | idle =>
    rw [takeChallenge_idle hunit, startCheck_eq]
    exact (startCheck_counterKept s).seed
  | awaitAnswer since =>
    rw [takeChallenge_answering hunit]
    exact (attendanceEvent_counterKept ..).seed
  | awaitChallenge since opened =>
    rw [takeChallenge_waiting hunit]
    exact challengeEvent_seed (by rw [hunit]; exact UnitState.noConfusion) ..

theorem takeChallenge_hysteresis (hrun : s.pmu.unit ≠ .idle) :
    (takeChallenge s).1.pmu.counter ≠ s.pmu.counter → (takeChallenge s).1.pmu.hysteresis =
      hysteresisAfter s.cfg.permit (takeChallenge s).1.pmu.counter s.pmu.hysteresis := by
  cases hunit : s.pmu.unit with
  | idle => exact absurd hunit hrun
  | awaitAnswer since =>
    rw [takeChallenge_answering hunit]
    exact challengeEvent_hysteresis hrun .early (s.elapsed since)
  | awaitChallenge since opened =>
    rw [takeChallenge_waiting hunit]
    exact challengeEvent_hysteresis hrun (judgeChallenge s.cfg.permit (s.elapsed since)) (s.elapsed since)

theorem takeChallenge_steady (s : State) : Steady s (takeChallenge s).1 := by
  cases hunit : s.pmu.unit with
  | idle =>
    rw [takeChallenge_idle hunit]
    exact startCheck_steady s
  | awaitAnswer since =>
    rw [takeChallenge_answering hunit]
    exact (attendanceEvent_steady ..).trans (.of_touches (startAnswerTimer_touch _))
  | awaitChallenge since opened =>
    rw [takeChallenge_waiting hunit]
    exact (challengeEvent_steady ..).trans ((withdraw_steady ..).trans (.of_touches (startAnswerTimer_touch _)))

/-- Once the check has run on, the reply gives the seed, AWAIT_ANSWER and the counter (R158, R163). -/
theorem takeChallenge_body (s : State) :
    (takeChallenge s).1.challengeBody (takeChallenge s).2 =
      u16 s.pmu.seed.toNat ++ u8 1 ++ u8 (takeChallenge s).2.challengeCode ++ u8 (takeChallenge s).1.pmu.counter := by
  have hseed : (seedOf (takeChallenge s).1.pmu.seed).toNat = s.pmu.seed.toNat := by
    rw [takeChallenge_seed, seedOf, BitVec.toNat_setWidth, Nat.mod_eq_of_lt (by omega)]
  rw [challengeBody, hseed, takeChallenge_unit]
  rfl

theorem judgeChallenge_unchecked {c : PermitConfig} (h : c.challengeCheck = false) (e : Nat) : judgeChallenge c e = .none := by
  simp [judgeChallenge, h]

/-- A checked challenge is EARLY before R_open, LATE behind the window and GOOD within it (R161). -/
theorem judgeChallenge_checked {c : PermitConfig} (h : c.challengeCheck = true) (e : Nat) :
    judgeChallenge c e = if e < c.rOpen then .early else if e ≤ c.rOpen + c.rWidth then .good else .late := by
  simp only [judgeChallenge, h, if_true, windowPlace]
  split_ifs <;> rfl

end Challenge

end Sys2Proof.Machine

namespace Sys2Proof

/- One proof at a time: side by side they take a thread each. -/
set_option Elab.async false

open Machine State

/-- Settles O52: the check started, an early challenge, or one judged by its window. -/
theorem challengeTaken : Obligations.ChallengeTaken := by
  intro s tag hs
  obtain ⟨t, r, hexec, ht, hnotices, ha⟩ := judged_of_serve (c := .challenge tag []) (kind := 0x82) (tag := tag) rfl hs
    (f := fun s => (takeChallenge s).1) (fun _ => rfl) fun r => takeChallenge_steady (s.opened r 0x82 tag)
  have hopened : Touches [.lnk] s (s.opened r 0x82 tag) := opened_touch ..
  rw [takeChallenge_body, ← ht.pmu] at ha
  have hbad {f : StatusFlag} {e : Nat} {u : State} (hu : Aftermath 0 ((s.opened r 0x82 tag).attendanceEvent f e) u)
      (hpmu : u.pmu = { ((s.opened r 0x82 tag).attendanceEvent f e).pmu with unit := .awaitAnswer s.now })
      (htake : (takeChallenge (s.opened r 0x82 tag)).1 = u) :
      t.pmu.counter = s.pmu.counter - s.cfg.permit.badStep ∧ t.pmu.flags[f.ix] = true ∧ AttendanceTaken s t f e false := by
    have ht' : Touches [.lnk] u t := htake ▸ ht
    have htaken : AttendanceTaken s t f e false := attendanceTaken_of_event hopened rfl hu (by rw [hpmu]) (by rw [hpmu]) ht'
      fun _ => hnotices.trans (by rw [htake])
    refine ⟨?_, htaken.1, htaken⟩
    rw [ht'.pmu, hpmu]
    exact (attendanceEvent_counterKept f e _).counter
  refine ⟨t, (takeChallenge (s.opened r 0x82 tag)).2.challengeCode, hexec, ?unit, ?seed, ha, fun hidle => ?idle,
    fun since hunit => ?answering, fun since opened hunit => ?waiting, fun hrun hne => ?hysteresis, ?touches⟩
  case unit =>
    rw [ht.pmu]
    exact takeChallenge_unit _
  case seed =>
    rw [ht.pmu]
    exact takeChallenge_seed _
  case idle =>
    have htake := takeChallenge_idle (s := s.opened r 0x82 tag) hidle
    have hstart := startCheck_counterKept (s.opened r 0x82 tag)
    rw [ht.pmu, htake, startCheck_eq]
    exact ⟨rfl, hstart.counter, hstart.hysteresis⟩
  case answering =>
    have htake := takeChallenge_answering (s := s.opened r 0x82 tag) hunit
    refine ⟨by rw [htake]; rfl, hbad (.of_touches (startAnswerTimer_touch _)) ?_ (congrArg Prod.fst htake)⟩
    exact congrArg (fun n => { ((s.opened r 0x82 tag).attendanceEvent .earlyChallenge _).pmu with unit := .awaitAnswer n })
      (attendanceEvent_touch ..).now
  case waiting =>
    intro e
    have htimer {f : StatusFlag} : Aftermath 0 ((s.opened r 0x82 tag).attendanceEvent f e)
        ((((s.opened r 0x82 tag).attendanceEvent f e).withdraw .challengeDue).startAnswerTimer) :=
      (withdraw_aftermath (by decide) _).trans (.of_touches (startAnswerTimer_touch _))
    have hnow {f : StatusFlag} : ((((s.opened r 0x82 tag).attendanceEvent f e).withdraw .challengeDue).startAnswerTimer).pmu
        = { ((s.opened r 0x82 tag).attendanceEvent f e).pmu with unit := .awaitAnswer s.now } :=
      congrArg (fun n => { ((s.opened r 0x82 tag).attendanceEvent f e).pmu with unit := .awaitAnswer n })
        (attendanceEvent_touch ..).now
    split
    next hcheck =>
      have htake := takeChallenge_judged (s := s.opened r 0x82 tag) hunit (judgeChallenge_unchecked hcheck e)
      rw [ht.pmu, htake]
      exact ⟨rfl, rfl⟩
    next hcheck =>
      have hjudge := judgeChallenge_checked (Bool.eq_true_of_not_eq_false hcheck) e
      split
      next hearly =>
        have htake := takeChallenge_judged (s := s.opened r 0x82 tag) hunit (hjudge.trans (if_pos hearly))
        exact ⟨by rw [htake]; rfl, hbad htimer hnow (congrArg Prod.fst htake)⟩
      next hearly =>
        rw [if_neg hearly] at hjudge
        split
        next hgood =>
          have htake := takeChallenge_judged (s := s.opened r 0x82 tag) hunit (hjudge.trans (if_pos hgood))
          have hrun : (s.opened r 0x82 tag).pmu.unit ≠ .idle := by
            rw [show (s.opened r 0x82 tag).pmu.unit = _ from hunit]
            exact UnitState.noConfusion
          refine ⟨by rw [htake]; rfl, ?_, ?_⟩
          · rw [ht.pmu, htake]
            exact (permitEvent_counterKept hrun true).counter
          · rw [ht.rcu, htake]
            exact (permitEvent_aftermath true _).bad
        next hlate =>
          have htake := takeChallenge_judged (s := s.opened r 0x82 tag) hunit (hjudge.trans (if_neg hlate))
          exact ⟨by rw [htake]; rfl, hbad htimer hnow (congrArg Prod.fst htake)⟩
  case hysteresis =>
    rw [ht.pmu] at hne ⊢
    exact takeChallenge_hysteresis (s := s.opened r 0x82 tag) hrun hne
  case touches => exact (hopened.seq ((takeChallenge_touch _).seq ht)).mono

end Sys2Proof
end

section
/-! PROOFS. ANSWER (R156, R157, R159, R163 to R165, R167). -/

namespace Sys2Proof.Machine

/- One proof at a time: side by side they take a thread each. -/
set_option Elab.async false

open State

section Answer
variable {s : State} {since n : Nat} {opened : Bool}

theorem judgeAnswerRequest_idle (h : s.pmu.unit = .idle) : judgeAnswerRequest n s = refuse .state s := by
  simp only [judgeAnswerRequest, h]

theorem judgeAnswerRequest_waiting (h : s.pmu.unit = .awaitChallenge since opened) :
    judgeAnswerRequest n s = refuse .state (s.attendanceEvent .lateAnswer (s.elapsed since)) := by
  simp only [judgeAnswerRequest, h]

theorem judgeAnswerRequest_judged {j : Judgement} (h : s.pmu.unit = .awaitAnswer since)
    (hj : judgeAnswer s.cfg.permit s.pmu.seed n (s.elapsed since) = j) :
    judgeAnswerRequest n s = taken (s.answerEvent j (s.elapsed since)).startChallengeTimer
      (u8 j.answerCode ++ u8 (s.answerEvent j (s.elapsed since)).startChallengeTimer.pmu.counter) := by
  simp only [judgeAnswerRequest, h, hj]

/-- An answer is EARLY before A_open, LATE behind the window, and within it GOOD as the expected one, else WRONG (R159). -/
theorem judgeAnswer_eq (c : PermitConfig) (seed : BitVec 15) (value : BitVec 16) (e : Nat) :
    judgeAnswer c seed value.toNat e =
      if e < c.aOpen then .early else if c.aOpen + c.aWidth < e then .late
      else if value = expectedAnswer (seed.setWidth 16) then .good else .wrong := by
  simp only [judgeAnswer, windowPlace, seedOf, BitVec.toNat_inj]
  by_cases hearly : e < c.aOpen
  · simp only [hearly, if_true]
  · by_cases hlate : c.aOpen + c.aWidth < e
    · simp only [hearly, hlate, Nat.not_le.mpr hlate, if_false, if_true]
    · simp only [hearly, hlate, Nat.not_lt.mp hlate, if_false, if_true]

/-- A judged answer that is not good is an attendance bad event (R159). -/
theorem answerEvent_early (e : Nat) (s : State) : s.answerEvent .early e = s.attendanceEvent .earlyAnswer e := rfl
theorem answerEvent_late (e : Nat) (s : State) : s.answerEvent .late e = s.attendanceEvent .lateAnswer e := rfl
theorem answerEvent_wrong (e : Nat) (s : State) : s.answerEvent .wrong e = s.attendanceEvent .wrongAnswer e := rfl

/-- The seed advanced, before the good event (R156). -/
def State.seedAdvanced (s : State) : State := { s with pmu := { s.pmu with seed := seedStep s.pmu.seed } }

theorem answerEvent_good (e : Nat) (s : State) : s.answerEvent .good e = s.seedAdvanced.permitEvent true := rfl

theorem startChallengeTimer_behind {t : State} {l : List Part} (h : Touches l s t) (hc : Part.cfg ∉ l := by decide)
    (hn : Part.now ∉ l := by decide) :
    t.startChallengeTimer.pmu = { t.pmu with unit := .awaitChallenge s.now (decide (s.cfg.permit.rOpen = 0)) } := by
  rw [startChallengeTimer_pmu, h.cfg hc, h.now hn]

end Answer

/-- What an attendance bad event does to the permit unit beside its flag (R165, R167). -/
theorem attendanceEvent_pmu (f : StatusFlag) (e : Nat) (s : State) :
    (s.attendanceEvent f e).pmu.unit = s.pmu.unit ∧ (s.attendanceEvent f e).pmu.seed = s.pmu.seed
      ∧ (s.attendanceEvent f e).pmu.counter = s.pmu.counter - s.cfg.permit.badStep
      ∧ (s.attendanceEvent f e).pmu.hysteresis =
          hysteresisAfter s.cfg.permit (s.pmu.counter - s.cfg.permit.badStep) s.pmu.hysteresis := by
  have h := attendanceEvent_counterKept f e s
  exact ⟨h.unit, h.seed, h.counter, h.hysteresis⟩

/-- An ANSWER in AWAIT_ANSWER judged as `j`: its event, the challenge timer behind it, and its reply (R159). -/
structure AnsweredAs (s t w : State) (tag : Tag) (j : Judgement) (e : Nat) : Prop where
  opened : Touches [.lnk] s w
  enabled : w.lnk.enabled = s.lnk.enabled
  touch : Touches [.lnk] (w.answerEvent j e).startChallengeTimer t
  notices : t.lnk.notices = (w.answerEvent j e).startChallengeTimer.lnk.notices
  answered : Answered s t 0x83 tag .ok (u8 j.answerCode ++ u8 t.pmu.counter)

theorem answer_act (value : BitVec 16) (s : State) :
    anyPhase (lengthIs 2 (u16 value.toNat)) (some (field (u16 value.toNat) 0 2)) judgeAnswerRequest s
      = judgeAnswerRequest value.toNat s := by
  refine anyPhase_act (by simp [lengthIs]) ?_
  rw [field_u16, Nat.mod_eq_of_lt value.isLt]

theorem answer_judged {s : State} {value : BitVec 16} {since : Nat} {j : Judgement} (hs : s.serving) (tag : Tag)
    (hunit : s.pmu.unit = .awaitAnswer since) (hj : judgeAnswer s.cfg.permit s.pmu.seed value.toNat ((s.now - since) / 1000) = j) :
    ∃ t w, exec (.answer tag (u16 value.toNat)) s = .next t ∧ AnsweredAs s t w tag j ((s.now - since) / 1000) := by
  obtain ⟨t, r, hexec, ht, hnotices, ha⟩ := judged_of_serve (c := .answer tag (u16 value.toNat)) (kind := 0x83) (tag := tag) rfl hs
    (f := fun s => (s.answerEvent j (s.elapsed since)).startChallengeTimer)
    (fun r => (answer_act ..).trans (judgeAnswerRequest_judged (s := s.opened r 0x83 tag) hunit hj))
    fun r => (answerEvent_steady ..).trans (startChallengeTimer_steady _)
  exact ⟨t, _, hexec, opened_touch r 0x83 tag s, rfl, ht, hnotices, by rw [ht.pmu]; exact ha⟩

namespace AnsweredAs

variable {s t w : State} {tag : Tag} {j : Judgement} {e : Nat}

theorem pmu (h : AnsweredAs s t w tag j e) :
    t.pmu = { (w.answerEvent j e).pmu with unit := .awaitChallenge s.now (decide (s.cfg.permit.rOpen = 0)) } :=
  h.touch.pmu.trans (startChallengeTimer_behind (h.opened.seq (answerEvent_touch j e w)))

theorem touches (h : AnsweredAs s t w tag j e) : Touches [.pmu, .lsl, .rcu, .lnk] s t :=
  (h.opened.seq ((answerEvent_touch ..).seq ((startChallengeTimer_touch _).seq h.touch))).mono

/-- One judged bad is an attendance bad event of its flag, the seed as it was (R156, R159, R164). -/
theorem bad (h : AnsweredAs s t w tag j e) {f : StatusFlag} (hevent : w.answerEvent j e = w.attendanceEvent f e) :
    t.pmu.counter = s.pmu.counter - s.cfg.permit.badStep
      ∧ t.pmu.hysteresis = hysteresisAfter s.cfg.permit t.pmu.counter s.pmu.hysteresis ∧ t.pmu.seed = s.pmu.seed
      ∧ t.pmu.flags[f.ix] = true ∧ AttendanceTaken s t f e false := by
  obtain ⟨-, hseed, hcounter, hhysteresis⟩ := attendanceEvent_pmu f e w
  have hpmu := h.pmu
  have htouch := h.touch
  have hnotices := h.notices
  rw [hevent] at hpmu htouch hnotices
  have htimer := startChallengeTimer_pmu (w.attendanceEvent f e)
  have htaken : AttendanceTaken s t f e false :=
    attendanceTaken_of_event h.opened h.enabled (startChallengeTimer_aftermath _) (by rw [htimer]) (by rw [htimer]) htouch
      fun _ => hnotices
  rw [h.opened.pmu] at hseed hcounter hhysteresis
  rw [h.opened.cfg] at hcounter hhysteresis
  rw [hpmu]
  exact ⟨hcounter, by rw [hhysteresis, hcounter], hseed, hpmu ▸ htaken.1, htaken⟩

/-- A good one raises the counter and advances the seed, and is not counted as a bad event (R156, R159). -/
theorem good (h : AnsweredAs s t w tag .good e) (hrun : s.pmu.unit ≠ .idle) :
    t.pmu.counter = min 15 (s.pmu.counter + s.cfg.permit.goodStep)
      ∧ t.pmu.hysteresis = hysteresisAfter s.cfg.permit t.pmu.counter s.pmu.hysteresis ∧ t.pmu.seed = seedStep s.pmu.seed
      ∧ t.rcu.counts.attendanceBad = s.rcu.counts.attendanceBad := by
  have hrun' : w.seedAdvanced.pmu.unit ≠ .idle := by
    rw [show w.seedAdvanced.pmu.unit = w.pmu.unit from rfl, h.opened.pmu]
    exact hrun
  have hkept := permitEvent_counterKept hrun' true
  have hcounter : (w.answerEvent .good e).pmu.counter = min 15 (s.pmu.counter + s.cfg.permit.goodStep) := by
    rw [← h.opened.pmu, ← h.opened.cfg]
    exact hkept.counter
  have hbad := ((permitEvent_aftermath true w.seedAdvanced).trans (startChallengeTimer_aftermath _)).bad
  refine ⟨by rw [h.pmu]; exact hcounter, ?_, ?_, ?_⟩
  · rw [h.pmu]
    refine hkept.hysteresis.trans ?_
    rw [hcounter, ← h.opened.pmu, ← h.opened.cfg]
    rfl
  · rw [h.pmu, ← h.opened.pmu]
    exact hkept.seed
  · rw [h.touch.rcu, ← h.opened.rcu]
    exact hbad

end AnsweredAs

end Sys2Proof.Machine

namespace Sys2Proof

/- One proof at a time: side by side they take a thread each. -/
set_option Elab.async false

open Machine State

/-- Settles O53: an answer without a check, a late one in AWAIT_CHALLENGE, or one judged by its window and value. -/
theorem answerJudged : Obligations.AnswerJudged := by
  intro s tag value hs
  cases hunit : s.pmu.unit with
  | idle =>
    have hj (r : ReplyNo) := (answer_act value (s.opened r 0x83 tag)).trans (judgeAnswerRequest_idle hunit)
    obtain ⟨t, r, hexec, ht, -⟩ := judged_of_serve (c := .answer tag (u16 value.toNat)) (kind := 0x83) (tag := tag) rfl hs (f := id)
      hj fun r => .refl _
    have hreplied := replied_of_kept (kind := 0x83) (tag := tag) hs hj
    refine ⟨_, rfl, ?_, fun _ => hreplied, fun _ _ h => UnitState.noConfusion h, fun _ h => UnitState.noConfusion h⟩
    exact Host.Outcome.next.inj hexec ▸ ((opened_touch r 0x83 tag s).seq ht).mono
  | awaitChallenge since opened =>
    obtain ⟨t, r, hexec, ht, hnotices, ha⟩ := judged_of_serve (c := .answer tag (u16 value.toNat)) (kind := 0x83) (tag := tag) rfl hs
      (f := fun s => s.attendanceEvent .lateAnswer (s.elapsed since))
      (fun r => (answer_act ..).trans (judgeAnswerRequest_waiting (s := s.opened r 0x83 tag) hunit)) fun r => attendanceEvent_steady ..
    have hopened := opened_touch r 0x83 tag s
    refine ⟨t, hexec, (hopened.seq ((attendanceEvent_touch ..).seq ht)).mono, fun h => UnitState.noConfusion h, fun since' opened' h => ?_,
      fun _ h => UnitState.noConfusion h⟩
    obtain ⟨rfl, rfl⟩ := UnitState.awaitChallenge.inj h
    obtain ⟨hkept, hseed, hcounter, -⟩ := attendanceEvent_pmu .lateAnswer ((s.now - since) / 1000) (s.opened r 0x83 tag)
    have htaken : AttendanceTaken s t .lateAnswer ((s.now - since) / 1000) false :=
      attendanceTaken_of_event hopened rfl (.refl _) rfl rfl ht fun _ => hnotices
    rw [ht.pmu]
    exact ⟨hkept.trans hunit, hseed, hcounter, ht.pmu ▸ htaken.1, htaken, ha⟩
  | awaitAnswer since =>
    have hjudge := judgeAnswer_eq s.cfg.permit s.pmu.seed value ((s.now - since) / 1000)
    obtain ⟨t, w, hexec, hanswer⟩ := answer_judged hs tag hunit hjudge
    refine ⟨t, hexec, hanswer.touches, fun h => UnitState.noConfusion h, fun _ _ h => UnitState.noConfusion h, fun since' h => ?_⟩
    obtain rfl := UnitState.awaitAnswer.inj h
    intro c e early late good
    refine ⟨by rw [hanswer.pmu], ?_⟩
    by_cases hearly : e < c.aOpen
    · rw [if_pos hearly] at hanswer
      have hnot : good = false := by simp [good, early, hearly]
      have hyes : early = true := decide_eq_true hearly
      have hnever : late = false := decide_eq_false (by omega)
      obtain ⟨hcounter, hhysteresis, hseed, hflag, htaken⟩ := hanswer.bad (answerEvent_early ..)
      rw [hnot, hyes, hnever]
      exact ⟨hcounter, hhysteresis, hseed, fun _ => hflag, fun h => Bool.noConfusion h, fun h => Bool.noConfusion h, htaken, hanswer.answered⟩
    rw [if_neg hearly] at hanswer
    have hno : early = false := decide_eq_false hearly
    by_cases hlate : c.aOpen + c.aWidth < e
    · rw [if_pos hlate] at hanswer
      have hnot : good = false := by simp [good, late, hlate]
      have hyes : late = true := decide_eq_true hlate
      obtain ⟨hcounter, hhysteresis, hseed, hflag, htaken⟩ := hanswer.bad (answerEvent_late ..)
      rw [hnot, hyes, hno]
      exact ⟨hcounter, hhysteresis, hseed, fun h => Bool.noConfusion h, fun _ => hflag, fun _ h => Bool.noConfusion h, htaken,
        hanswer.answered⟩
    rw [if_neg hlate] at hanswer
    have hin : late = false := decide_eq_false hlate
    by_cases hright : value = expectedAnswer (s.pmu.seed.setWidth 16)
    · rw [if_pos hright] at hanswer
      have hyes : good = true := by simp only [good, hno, hin, hright, beq_self_eq_true, Bool.not_false, Bool.and_true]
      obtain ⟨hcounter, hhysteresis, hseed, hcount⟩ := hanswer.good (by rw [hunit]; exact UnitState.noConfusion)
      rw [hyes, hno, hin]
      exact ⟨hcounter, hhysteresis, hseed, fun h => Bool.noConfusion h, fun h => Bool.noConfusion h,
        fun _ _ h => Bool.noConfusion h, hcount, hanswer.answered⟩
    · rw [if_neg hright] at hanswer
      have hnot : good = false := by simp [good, hright]
      obtain ⟨hcounter, hhysteresis, hseed, hflag, htaken⟩ := hanswer.bad (answerEvent_wrong ..)
      rw [hnot, hno, hin]
      exact ⟨hcounter, hhysteresis, hseed, fun h => Bool.noConfusion h, fun h => Bool.noConfusion h, fun _ _ _ => hflag, htaken,
        hanswer.answered⟩

end Sys2Proof
end

section
/-! PROOFS. The timeouts of the attendance check, its window notice and its status (R160 to R162, R164, R165, R170). -/

namespace Sys2Proof.Machine

/- One proof at a time: side by side they take a thread each. -/
set_option Elab.async false

open State

/-- The check ended by a trip, before its consequences: IDLE, one trip more, the flag set, the counter 0 (R160, R162). -/
def State.tripped (f : StatusFlag) (s : State) : State :=
  State.setCounter 0 (State.setFlag f { s with pmu := { s.pmu with unit := .idle, trips := satAdd 15 s.pmu.trips 1 } })

theorem tripped_touch (f : StatusFlag) (s : State) : Touches [.pmu] s (s.tripped f) :=
  (touch_pmu s _).trans ((setFlag_touch ..).trans (setCounter_touch ..))

theorem tripCheck_eq (f : StatusFlag) (figure : Nat) (s : State) :
    s.tripCheck f figure = ((s.tripped f).attendanceBad f figure true).counterSettled false := rfl

theorem tripCheck_counterKept (f : StatusFlag) (figure : Nat) (s : State) : CounterKept false (s.tripped f) (s.tripCheck f figure) := by
  obtain ⟨hunit, hseed, htrips, hcounter, hhyst, hflags, hzero⟩ :=
    counterSettled_counterKept false ((s.tripped f).attendanceBad f figure true)
  rw [(attendanceBad_touch ..).pmu] at hunit hseed htrips hcounter hflags hzero
  exact ⟨hunit, hseed, htrips, hcounter, hhyst, hflags, hzero⟩

/-- A timeout of the check as the rules put it, whatever timer it belongs to (R160, R162). -/
structure TimedOut (s t : State) (f : StatusFlag) (figure : Nat) (again : UnitState) : Prop where
  touches : Touches [.pmu, .lsl, .rcu, .lnk] s t
  flag : t.pmu.flags[f.ix] = true
  seed : t.pmu.seed = s.pmu.seed
  taken : AttendanceTaken s t f figure s.cfg.permit.timeoutTrip
  check : if s.cfg.permit.timeoutTrip then
      t.pmu.unit = .idle ∧ t.pmu.counter = 0 ∧ t.pmu.hysteresis = false ∧ t.pmu.trips = min 15 (s.pmu.trips + 1)
        ∧ t.pmu.flags[StatusFlag.counterZero.ix] = true
    else t.pmu.unit = again ∧ t.pmu.counter = s.pmu.counter - s.cfg.permit.badStep ∧ t.pmu.trips = s.pmu.trips

section Timeout
variable {s u : State} {f : StatusFlag} {figure : Nat} {again : UnitState}

/-- A timeout with the trip on, and a notice withdrawn at most behind it. -/
theorem timedOut_trip (htrip : s.cfg.permit.timeoutTrip = true) (hu : Aftermath 0 (s.tripCheck f figure) u)
    (hpmu : u.pmu = (s.tripCheck f figure).pmu) (htouch : Touches [.pmu, .lsl, .rcu, .lnk] s u) (htx : u.lnk.tx = s.lnk.tx) :
    TimedOut s u.transmit f figure again := by
  obtain ⟨hunit, hseed, htrips, hcounter, hhyst, hflags, hzero⟩ := tripCheck_counterKept f figure s
  have hset : (s.tripped f).pmu.flags[f.ix] = true := by
    have hsame : (s.tripped f).pmu.flags = (s.setFlag f).pmu.flags := rfl
    rw [hsame, setFlag_flag]
    simp
  have htaken : AttendanceTaken s u.transmit f figure true :=
    attendanceTaken_of_aftermath (s₁ := s.tripped f) (tripped_touch f s).mono rfl ((counterSettled_aftermath ..).trans hu) (by decide)
      (by rw [hpmu]; exact hflags f.ix hset) (by rw [hpmu]; exact hcounter) (transmit_touch u)
      fun hbusy => by rw [transmit_busy (by rw [htx]; exact hbusy)]
  have hlast := (transmit_touch u).pmu.trans hpmu
  refine ⟨htouch.trans (transmit_touch u).mono, htaken.1, by rw [hlast]; exact hseed, by rw [htrip]; exact htaken, ?_⟩
  rw [if_pos htrip, hlast]
  exact ⟨hunit, hcounter, hhyst, htrips, hzero rfl⟩

/-- A timeout with the trip off, and the timer started again behind its bad event. -/
theorem timedOut_again (htrip : s.cfg.permit.timeoutTrip = false) (hu : Aftermath 0 (s.attendanceEvent f figure) u)
    (hpmu : u.pmu = { (s.attendanceEvent f figure).pmu with unit := again }) (htouch : Touches [.pmu, .lsl, .rcu, .lnk] s u)
    (htx : u.lnk.tx = s.lnk.tx) : TimedOut s u.transmit f figure again := by
  obtain ⟨-, hseed, hcounter, -⟩ := attendanceEvent_pmu f figure s
  have htaken : AttendanceTaken s u.transmit f figure false :=
    attendanceTaken_of_event (Touches.refl [.lnk] s) rfl hu (by rw [hpmu]) (by rw [hpmu]) (transmit_touch u)
      fun hbusy => by rw [transmit_busy (by rw [htx]; exact hbusy)]
  have hlast := (transmit_touch u).pmu.trans hpmu
  refine ⟨htouch.trans (transmit_touch u).mono, htaken.1, by rw [hlast]; exact hseed, by rw [htrip]; exact htaken, ?_⟩
  rw [if_neg (by rw [htrip]; exact Bool.false_ne_true), hlast]
  exact ⟨rfl, hcounter, (attendanceEvent_counterKept f figure s).trips⟩

end Timeout

/-! ### The two timers -/

section Timers
variable {s : State} {since : Nat} {opened : Bool}

theorem tripCheck_steady (f : StatusFlag) (figure : Nat) (s : State) : Steady s (s.tripCheck f figure) :=
  (Steady.of_touches (tripped_touch f s)).trans (((alarmEvent_steady ..).trans (log_steady ..)).trans (counterSettled_steady ..))

theorem answerExpiry_running (h : s.pmu.unit = .awaitAnswer since) :
    s.answerExpiry = if s.cfg.permit.timeoutTrip then s.tripCheck .timeoutAnswer s.cfg.permit.answerTimeout
      else (s.attendanceEvent .timeoutAnswer s.cfg.permit.answerTimeout).startAnswerTimer := by
  simp only [answerExpiry, h]

theorem challengeExpiry_running (h : s.pmu.unit = .awaitChallenge since opened) :
    s.challengeExpiry = if s.cfg.permit.timeoutTrip then
        (s.tripCheck .timeoutChallenge s.cfg.permit.challengeTimeout).withdraw .challengeDue
      else (s.attendanceEvent .timeoutChallenge s.cfg.permit.challengeTimeout).startChallengeTimer := by
  simp only [challengeExpiry, h]

theorem answerExpiry_timedOut (h : s.pmu.unit = .awaitAnswer since) :
    TimedOut s s.answerExpiry.transmit .timeoutAnswer s.cfg.permit.answerTimeout (.awaitAnswer s.now) := by
  rw [answerExpiry_running h]
  cases htrip : s.cfg.permit.timeoutTrip with
  | true => exact timedOut_trip htrip (.refl _) rfl (tripCheck_touch ..) (tripCheck_steady ..).tx
  | false =>
    have hevent := attendanceEvent_touch .timeoutAnswer s.cfg.permit.answerTimeout s
    refine timedOut_again htrip (.of_touches (startAnswerTimer_touch _)) ?_ (hevent.seq (startAnswerTimer_touch _)).mono
      (attendanceEvent_steady ..).tx
    exact congrArg (fun n => { (s.attendanceEvent .timeoutAnswer s.cfg.permit.answerTimeout).pmu with unit := .awaitAnswer n }) hevent.now

theorem challengeExpiry_timedOut (h : s.pmu.unit = .awaitChallenge since opened) :
    TimedOut s s.challengeExpiry.transmit .timeoutChallenge s.cfg.permit.challengeTimeout
      (.awaitChallenge s.now (decide (s.cfg.permit.rOpen = 0))) := by
  rw [challengeExpiry_running h]
  cases htrip : s.cfg.permit.timeoutTrip with
  | true =>
    exact timedOut_trip htrip (withdraw_aftermath (by decide) _) (withdraw_touch ..).pmu
      ((tripCheck_touch ..).seq (withdraw_touch ..)).mono (tripCheck_steady ..).tx
  | false =>
    have hevent := attendanceEvent_touch .timeoutChallenge s.cfg.permit.challengeTimeout s
    exact timedOut_again htrip (startChallengeTimer_aftermath _) (startChallengeTimer_behind hevent)
      (hevent.seq (startChallengeTimer_touch _)).mono ((attendanceEvent_steady ..).trans (startChallengeTimer_steady _)).tx

theorem answerExpiry_absent (h : ∀ since, s.pmu.unit ≠ .awaitAnswer since) : s.answerExpiry = s := by
  unfold answerExpiry
  split
  next since hunit => exact absurd hunit (h since)
  next => rfl

theorem challengeExpiry_absent (h : ∀ since opened, s.pmu.unit ≠ .awaitChallenge since opened) : s.challengeExpiry = s := by
  unfold challengeExpiry
  split
  next since opened hunit => exact absurd hunit (h since opened)
  next => rfl

theorem windowOpens_absent (h : ∀ since, s.pmu.unit ≠ .awaitChallenge since false) : s.windowOpens = s := by
  unfold windowOpens
  split
  next since hunit => exact absurd hunit (h since)
  next => rfl

/-- The window notice at R_open: the moment taken, and the notice made (R161). -/
theorem windowOpens_due (h : s.pmu.unit = .awaitChallenge since false) :
    s.windowOpens = State.notify .challengeDue (u8 s.cfg.permit.rWidth ++ u8 (s.cfg.permit.rWidth + s.cfg.permit.rExtra))
      { s with pmu := { s.pmu with unit := .awaitChallenge since true } } := by
  simp only [windowOpens, challengeDue, h]

end Timers

/-- An event that finds nothing to do, with the link settled. -/
theorem event_absent {f : State → State} {s : State} (hp : s.powered = true) (hset : Settled s) (h : f s = s) : s.event f = s :=
  (event_settled hp hset (by rw [h])).trans h

end Sys2Proof.Machine

namespace Sys2Proof

/- One proof at a time: side by side they take a thread each. -/
set_option Elab.async false

open Machine State

/-- Settles O54: each timer's expiry with the trip on and off, the window notice, and the status read. -/
theorem attendanceTimeouts : Obligations.AttendanceTimeouts := by
  refine ⟨fun s hp => ⟨fun since hunit => ?answer, fun since opened hunit => ?challenge, fun hset => ⟨fun hno => ?noAnswer, fun hno => ?noChallenge⟩⟩,
    fun s since hp hunit hbusy => ?due, fun s hp hset hno => ?notDue, fun s tag hs => ?status⟩
  case answer =>
    obtain ⟨htouches, hflag, hseed, htaken, hcheck⟩ := answerExpiry_timedOut hunit
    exact ⟨_, congrArg Host.Outcome.next (event_powered hp), htouches, hflag, hseed, htaken, hcheck⟩
  case challenge =>
    obtain ⟨htouches, hflag, hseed, htaken, hcheck⟩ := challengeExpiry_timedOut hunit
    exact ⟨_, congrArg Host.Outcome.next (event_powered hp), htouches, hflag, hseed, htaken, hcheck⟩
  case noAnswer => exact congrArg Host.Outcome.next (event_absent hp hset (answerExpiry_absent hno))
  case noChallenge => exact congrArg Host.Outcome.next (event_absent hp hset (challengeExpiry_absent hno))
  case notDue => exact congrArg Host.Outcome.next (event_absent hp hset (windowOpens_absent hno))
  case due =>
    have hdue := windowOpens_due hunit
    have hnotified := notify_touch .challengeDue (u8 s.cfg.permit.rWidth ++ u8 (s.cfg.permit.rWidth + s.cfg.permit.rExtra))
      { s with pmu := { s.pmu with unit := .awaitChallenge since true } }
    have hstill : s.windowOpens.transmit = s.windowOpens :=
      transmit_busy (by rw [hdue, (notify_steady ..).tx]; exact hbusy)
    refine ⟨_, congrArg Host.Outcome.next ((event_powered hp).trans (hstill.trans hdue)), hnotified.lnk_eq s.lnk, fun hoff => ?_, fun hon => ?_⟩
    · rw [State.notify, if_neg (by rw [show Notice.challengeDue.code = 7 from rfl]; exact Bool.eq_false_iff.mp hoff)]
    · exact notify_enabled hon _
  case status =>
    obtain ⟨t, r, hexec, ht, hq, ha⟩ := taken_quietly (c := .permitStatus tag []) (kind := 0x84) (tag := tag) (body := s.permitBody)
      rfl hs (f := State.clearFlags) (fun _ => rfl) fun _ => rfl
    exact ⟨t, hexec, (ht.lnk_eq s.lnk).trans rfl, hq, ha⟩

end Sys2Proof
end

section
/-! PROOFS. FAULT_CLEAR (R81, R116, R126, R132). -/

namespace Sys2Proof.Machine

/- One proof at a time: side by side they take a thread each. -/
set_option Elab.async false

open State

/-! ### A pump through the grants (R116, R117) -/

/-- A property that each grant to a step that can use the pump keeps is kept by the grant decisions (R115, R116). -/
theorem grants_keeps_canUse {P : State → Prop}
    (hgrant : ∀ p k y c t, P t → t.tsq.slots[k] = some y → t.canUse p y c = true → P (t.grant p k)) {s : State} (h : P s) : P s.grants := by
  have hdecide (p : PumpNo) (t : State) (ht : P t) : P (t.decidePump (fun _ => false) p) := by
    unfold decidePump
    split
    · exact ht
    next k hk =>
      obtain ⟨⟨j, y, c⟩, he, rfl⟩ := winnerBut_usable hk
      obtain ⟨hlist, hcond⟩ := List.mem_filter.mp he
      obtain ⟨-, huse⟩ := Bool.and_eq_true_iff.mp hcond
      exact hgrant p j y c t ht (mem_candidateList hlist).1 huse
  have hall (t : State) (ht : P t) : P (t.decideAll fun _ => false) := hdecide 2 _ (hdecide 1 _ (hdecide 0 t ht))
  exact hall _ (hall _ (hall s h))

/-- A pump that stands as it stood, or that was FREE and is BUSY at a grant, the emergency stop input inactive (R116). -/
structure StandsOrGranted (emergency : Bool) (y z : Pump) : Prop where
  meter : z.meter = y.meter
  noFlow : z.noFlowUntil = y.noFlowUntil
  state : z.state = y.state ∨ emergency = false ∧ y.state = .free ∧ z.state = .busy ∧ z.granted ≠ none

theorem StandsOrGranted.of_unfair {b : Bool} {x y z : Pump} (h : StandsOrGranted b x y) (hz : z.unfair = y.unfair) : StandsOrGranted b x z := by
  have hmeter : z.meter = y.meter := by have := congrArg Pump.meter hz; exact this
  have hflow : z.noFlowUntil = y.noFlowUntil := by have := congrArg Pump.noFlowUntil hz; exact this
  have hstate : z.state = y.state := by have := congrArg Pump.state hz; exact this
  exact ⟨hmeter.trans h.meter, hflow.trans h.noFlow, by rw [hstate, unfair_granted hz]; exact h.state⟩

/-- The pump of a grant was FREE, the emergency stop input inactive, and is BUSY with its other timers and marks as they were (R115, R116). -/
theorem grant_freed {p : PumpNo} {k : SlotNo} {x : StepRec} {c : Candidate} {s : State} (hx : s.tsq.slots[k] = some x)
    (huse : s.canUse p x c = true) :
    s.pins.emergency = false ∧ s.pva.pumps[p].state = .free
      ∧ (s.grant p k).pva.pumps[p].state = .busy ∧ (s.grant p k).pva.pumps[p].meter = s.pva.pumps[p].meter
      ∧ (s.grant p k).pva.pumps[p].noFlowUntil = s.pva.pumps[p].noFlowUntil := by
  obtain ⟨hpumps, -, -⟩ := grant_pva (p := p) hx
  have hold := beforeGrant_pump s.pva p
  have hset : (s.grant p k).pva.pumps[p] = { s.pva.beforeGrant.pumps[p] with
      state := .busy, granted := some x.number, fairness := some (x.cls, s.pva.beforeGrant.grants + 1) } := by
    rw [hpumps]
    exact Vector.getElem_set_self ..
  simp only [canUse, Bool.and_eq_true, Bool.not_eq_true', beq_iff_eq] at huse
  obtain ⟨⟨⟨⟨⟨⟨⟨-, hfree⟩, -⟩, -⟩, -⟩, -⟩, -⟩, hoff⟩ := huse
  rw [hset]
  exact ⟨hoff, hfree, rfl, by have := congrArg Pump.meter hold; exact this, by have := congrArg Pump.noFlowUntil hold; exact this⟩

theorem grants_standsOrGranted (s : State) (p : PumpNo) : StandsOrGranted s.pins.emergency s.pva.pumps[p] s.grants.pva.pumps[p] := by
  refine (grants_keeps_canUse (s := s)
    (P := fun t => t.pins = s.pins ∧ ∀ q : PumpNo, StandsOrGranted s.pins.emergency s.pva.pumps[q] t.pva.pumps[q])
    (fun q k x c t ⟨hpins, hpumps⟩ hx huse => ⟨(grant_touch ..).pins.trans hpins, fun i => ?_⟩)
    ⟨rfl, fun q => ⟨rfl, rfl, .inl rfl⟩⟩).2 p
  obtain ⟨hmeter, hflow, hstate⟩ := hpumps i
  by_cases hi : i = q
  · subst hi
    obtain ⟨hoff, hfree, hbusy, hmeter', hflow'⟩ := grant_freed hx huse
    have hwas : s.pva.pumps[i].state = .free := hstate.elim (fun h => h.symm.trans hfree) fun ⟨_, h, _⟩ => h
    exact ⟨hmeter'.trans hmeter, hflow'.trans hflow,
      .inr ⟨hpins ▸ hoff, hwas, hbusy, by rw [grant_granted hx]; exact Option.some_ne_none _⟩⟩
  · exact (hpumps i).of_unfair (grant_pump hx hi)

/-! ### A fault withdrawn (R81) -/

theorem faultWithdraw_has (e : Equipment) (s : State) : (s.faultWithdraw e).lsl.faults.has e = false := by
  unfold faultWithdraw
  split
  · rw [setCause_lsl]
    exact (put_has s.lsl.faults false e e).trans (if_pos rfl)
  next h => exact Bool.eq_false_iff.mpr h

/-! ### The judgement -/

section Judged
variable {item : ClearItem} {s t : State}

theorem judgeFaultClear_refused (h : s.clearFault item = none) : judgeFaultClear item s = refuse .state s := by
  simp only [judgeFaultClear, h]

theorem judgeFaultClear_cleared (h : s.clearFault item = some t) : judgeFaultClear item s = taken t.grants := by
  simp only [judgeFaultClear, h]

/-- A FAULT_CLEAR that clears: its answer, and what it leaves (R132). -/
theorem faultClear_taken {tag : Tag} {body : List Byte} {f : State → State} (hs : s.serving) (hlen : lengthIs 2 body = true)
    (hparse : parseFaultClear body = some item)
    (hclear : ∀ r, (s.opened r 0x62 tag).clearFault item = some (f (s.opened r 0x62 tag)))
    (hsteady : ∀ r, Steady (s.opened r 0x62 tag) (f (s.opened r 0x62 tag))) :
    ∃ t r, exec (.faultClear tag body) s = .next t ∧ Touches [.lnk] (f (s.opened r 0x62 tag)).grants t
      ∧ Answered s t 0x62 tag .ok [] :=
  taken_of_judge (c := .faultClear tag body) rfl hs (f := fun s => (f s).grants)
    (fun r => (anyPhase_act hlen hparse).trans (judgeFaultClear_cleared (hclear r)))
    fun r => (hsteady r).trans (grants_steady _)

/-- A FAULT_CLEAR whose condition does not hold is refused (R132). -/
theorem faultClear_refused {tag : Tag} {body : List Byte} (hs : s.serving) (hlen : lengthIs 2 body = true)
    (hparse : parseFaultClear body = some item) (hclear : ∀ r, (s.opened r 0x62 tag).clearFault item = none) :
    ∃ t, exec (.faultClear tag body) s = .next t ∧ Replied s t 0x62 tag .state [] :=
  ⟨_, rfl, replied_of_kept hs fun r => (anyPhase_act hlen hparse).trans (judgeFaultClear_refused (hclear r))⟩

end Judged

/-! ### The four kinds -/

theorem parseFaultClear_pump (p : PumpNo) : parseFaultClear (u8 0 ++ u8 p.val) = some (.pump p) := by
  have hmod : p.val % 256 = p.val := Nat.mod_eq_of_lt (by omega)
  simp [parseFaultClear, field_u8_behind (off := 0), hmod]

theorem parseFaultClear_meter (p : PumpNo) : parseFaultClear (u8 1 ++ u8 p.val) = some (.meter p) := by
  have hmod : p.val % 256 = p.val := Nat.mod_eq_of_lt (by omega)
  simp [parseFaultClear, field_u8_behind (off := 0), hmod]

theorem parseFaultClear_valve (v : ValveNo) : parseFaultClear (u8 2 ++ u8 v.val) = some (.valve v) := by
  have hmod : v.val % 256 = v.val := Nat.mod_eq_of_lt (by omega)
  simp [parseFaultClear, field_u8_behind (off := 0), hmod]

theorem parseFaultClear_trip : parseFaultClear (u8 3 ++ u8 0) = some .trip := by decide

theorem valve_agrees_iff (y : Valve) : y.agrees = true ↔ y.proved = if y.open_ then .opened else .closed := by
  unfold Valve.agrees
  cases y.open_ <;> simp

/-- A pump's fault cleared and withdrawn (R132). -/
def State.pumpCleared (p : PumpNo) (s : State) : State :=
  (s.setPump p { s.pva.pumps[p] with state := clearedState s.pins.emergency }).faultWithdraw (.pump p)

/-- The no-flow timer of a pump as a METER flag's clearing leaves it (R126). -/
def State.flowAfresh (p : PumpNo) (s : State) : Option Nat :=
  if (s.tsq.stepOn p).any fun kx => kx.2.state == .run then some (s.now + seconds s.cfg.pumps[p].noFlowTime)
  else s.pva.pumps[p].noFlowUntil

/-- A METER flag cleared and withdrawn (R126, R132). -/
def State.meterCleared (p : PumpNo) (s : State) : State :=
  (s.setPump p { s.pva.pumps[p] with meter := false, noFlowUntil := s.flowAfresh p }).faultWithdraw (.meter p)

/-- A valve's fault cleared and withdrawn (R132). -/
def State.valveCleared (v : ValveNo) (s : State) : State :=
  (s.setValve v { s.pva.valves[v] with faulted := false }).faultWithdraw (.valve v)

/-- Every TRIPPED pump FREE (R132). -/
def State.tripsCleared (s : State) : State :=
  { s with pva := { s.pva with pumps := Vector.ofFn fun p : Fin 3 =>
    if s.pva.pumps[p].state = .tripped then { s.pva.pumps[p] with state := .free } else s.pva.pumps[p] } }

theorem pumpCleared_touch (p : PumpNo) (s : State) : Touches [.pva, .lsl] s (s.pumpCleared p) :=
  (setPump_touch ..).seq (faultWithdraw_touch ..)
theorem meterCleared_touch (p : PumpNo) (s : State) : Touches [.pva, .lsl] s (s.meterCleared p) :=
  (setPump_touch ..).seq (faultWithdraw_touch ..)
theorem valveCleared_touch (v : ValveNo) (s : State) : Touches [.pva, .lsl] s (s.valveCleared v) :=
  (setValve_touch ..).seq (faultWithdraw_touch ..)
theorem tripsCleared_touch (s : State) : Touches [.pva] s s.tripsCleared := touch_pva s _

theorem pumpCleared_steady (p : PumpNo) (s : State) : Steady s (s.pumpCleared p) :=
  (setPump_steady (y := { s.pva.pumps[p] with state := clearedState s.pins.emergency }) rfl).trans
    (.of_touches (faultWithdraw_touch ..))
theorem meterCleared_steady (p : PumpNo) (s : State) : Steady s (s.meterCleared p) :=
  (setPump_steady (y := { s.pva.pumps[p] with meter := false, noFlowUntil := s.flowAfresh p }) rfl).trans
    (.of_touches (faultWithdraw_touch ..))
theorem valveCleared_steady (v : ValveNo) (s : State) : Steady s (s.valveCleared v) :=
  (setValve_steady (y := { s.pva.valves[v] with faulted := false }) rfl).trans (.of_touches (faultWithdraw_touch ..))
theorem tripsCleared_steady (s : State) : Steady s s.tripsCleared := by
  refine .of_lnk rfl (fun p => ?_) fun _ => rfl
  simp only [tripsCleared, Fin.getElem_fin, Vector.getElem_ofFn]
  split <;> rfl

theorem pumpCleared_pump (p : PumpNo) (s : State) :
    (s.pumpCleared p).pva.pumps[p] = { s.pva.pumps[p] with state := clearedState s.pins.emergency } := by
  rw [pumpCleared, (faultWithdraw_touch ..).pva]
  exact Vector.getElem_set_self ..

theorem meterCleared_pump (p : PumpNo) (s : State) :
    (s.meterCleared p).pva.pumps[p] = { s.pva.pumps[p] with meter := false, noFlowUntil := s.flowAfresh p } := by
  rw [meterCleared, (faultWithdraw_touch ..).pva]
  exact Vector.getElem_set_self ..

theorem valveCleared_valve (v : ValveNo) (s : State) :
    (s.valveCleared v).pva.valves[v] = { s.pva.valves[v] with faulted := false } := by
  rw [valveCleared, (faultWithdraw_touch ..).pva]
  exact setValve_same

section Kinds
variable {s : State}

theorem clearFault_pump {p : PumpNo} (h : s.pva.pumps[p].state = .faulted ∧ s.pva.pumps[p].proof ≠ .running) :
    s.clearFault (.pump p) = some (s.pumpCleared p) := if_pos h

theorem clearFault_meter {p : PumpNo} (h : s.pva.pumps[p].meter = true) : s.clearFault (.meter p) = some (s.meterCleared p) := if_pos h

theorem clearFault_valve {v : ValveNo}
    (h : s.pva.valves[v].faulted = true ∧ s.pva.valves[v].watch = .absent ∧ s.pva.valves[v].agrees = true) :
    s.clearFault (.valve v) = some (s.valveCleared v) := if_pos h

theorem trip_condition : (s.pins.emergency = false ∧ ((List.finRange 3).any fun p => s.pva.pumps[p].state == .tripped) = true)
    ↔ s.pins.emergency = false ∧ ∃ p : PumpNo, s.pva.pumps[p].state = .tripped := by
  simp

theorem clearFault_trip (h : s.pins.emergency = false ∧ ∃ p : PumpNo, s.pva.pumps[p].state = .tripped) :
    s.clearFault .trip = some s.tripsCleared := by
  refine (if_pos (trip_condition.mpr h)).trans (congrArg (fun v => some { s with pva := { s.pva with pumps := v } }) ?_)
  refine Vector.ext fun i hi => ?_
  rw [Vector.getElem_ofFn, Vector.getElem_ofFn]
  dsimp only
  split <;> rfl

end Kinds

end Sys2Proof.Machine

namespace Sys2Proof

/- One proof at a time: side by side they take a thread each. -/
set_option Elab.async false

open Machine State

/-- Settles O42: the four kinds, each by whether its condition holds. -/
theorem faultsCleared : Obligations.FaultsCleared := by
  have hlen (a b : Nat) : lengthIs 2 (u8 a ++ u8 b) = true := by simp [lengthIs]
  have htouches {s f t : State} {r : ReplyNo} {tag : Tag} (hf : Touches [.pva, .lsl] (s.opened r 0x62 tag) f)
      (ht : Touches [.lnk] f.grants t) : Touches [.pva, .tsq, .lsl, .lnk] s t :=
    ((opened_touch r 0x62 tag s).seq (hf.seq ((grants_touch f).seq ht))).mono
  refine fun s tag hs => ⟨fun p => ?pump, fun p => ?meter, fun v => ?valve, ?trip⟩
  case pump =>
    by_cases h : s.pva.pumps[p].state = .faulted ∧ s.pva.pumps[p].proof ≠ .running
    · obtain ⟨t, r, hexec, ht, ha⟩ := faultClear_taken (tag := tag) hs (hlen ..) (parseFaultClear_pump p)
        (fun r => clearFault_pump (s := s.opened r 0x62 tag) h) fun r => pumpCleared_steady ..
      have htouch := pumpCleared_touch p (s.opened r 0x62 tag)
      have hpump := (grants_standsOrGranted ((s.opened r 0x62 tag).pumpCleared p) p).state
      rw [pumpCleared_pump, htouch.pins, ← ht.pva] at hpump
      have hfault := faultWithdraw_has (.pump p) ((s.opened r 0x62 tag).setPump p
        { s.pva.pumps[p] with state := clearedState s.pins.emergency })
      refine ⟨t, hexec, (if_pos h).mpr ⟨?_, htouches htouch ht, ha, fun hon => ?_, ?_⟩⟩
      · rw [ht.lsl, (grants_touch _).lsl]
        exact hfault
      · rcases hpump with hstate | ⟨hoff, -⟩
        · exact hstate.trans (if_pos hon)
        · exact absurd (hoff.symm.trans hon) Bool.false_ne_true
      · exact hpump.symm.imp (fun ⟨_, _, hbusy, _⟩ => hbusy) id
    · obtain ⟨t, hexec, hreplied⟩ := faultClear_refused (tag := tag) hs (hlen ..) (parseFaultClear_pump p) fun r => if_neg h
      exact ⟨t, hexec, (if_neg h).mpr hreplied⟩
  case meter =>
    by_cases h : s.pva.pumps[p].meter = true
    · obtain ⟨t, r, hexec, ht, ha⟩ := faultClear_taken (tag := tag) hs (hlen ..) (parseFaultClear_meter p)
        (fun r => clearFault_meter (s := s.opened r 0x62 tag) h) fun r => meterCleared_steady ..
      have htouch := meterCleared_touch p (s.opened r 0x62 tag)
      obtain ⟨hmeter, hflow, -⟩ := grants_standsOrGranted ((s.opened r 0x62 tag).meterCleared p) p
      rw [meterCleared_pump, ← ht.pva] at hmeter hflow
      have hfault := faultWithdraw_has (.meter p) ((s.opened r 0x62 tag).setPump p
        { s.pva.pumps[p] with meter := false, noFlowUntil := (s.opened r 0x62 tag).flowAfresh p })
      refine ⟨t, hexec, (if_pos h).mpr ⟨hmeter, ?_, hflow.trans ?_, htouches htouch ht, ha⟩⟩
      · rw [ht.lsl, (grants_touch _).lsl]
        exact hfault
      · show (s.opened r 0x62 tag).flowAfresh p = _
        rw [State.flowAfresh, seconds, Nat.mul_comm]
        rfl
    · obtain ⟨t, hexec, hreplied⟩ := faultClear_refused (tag := tag) hs (hlen ..) (parseFaultClear_meter p) fun r => if_neg h
      exact ⟨t, hexec, (if_neg h).mpr hreplied⟩
  case valve =>
    by_cases h : s.pva.valves[v].faulted = true ∧ s.pva.valves[v].watch = .absent ∧ s.pva.valves[v].agrees = true
    · obtain ⟨t, r, hexec, ht, ha⟩ := faultClear_taken (tag := tag) hs (hlen ..) (parseFaultClear_valve v)
        (fun r => clearFault_valve (s := s.opened r 0x62 tag) h) fun r => valveCleared_steady ..
      have htouch := valveCleared_touch v (s.opened r 0x62 tag)
      have hvalve := (grantsBut_keepsShut (fun _ => false) ((s.opened r 0x62 tag).valveCleared v)).faulted v
      rw [valveCleared_valve] at hvalve
      have hfault := faultWithdraw_has (.valve v) ((s.opened r 0x62 tag).setValve v { s.pva.valves[v] with faulted := false })
      rw [valve_agrees_iff] at h
      refine ⟨t, hexec, (if_pos h).mpr ⟨?_, ?_, htouches htouch ht, ha⟩⟩
      · rw [ht.pva]
        exact hvalve
      · rw [ht.lsl, (grants_touch _).lsl]
        exact hfault
    · obtain ⟨t, hexec, hreplied⟩ := faultClear_refused (tag := tag) hs (hlen ..) (parseFaultClear_valve v) fun r => if_neg h
      rw [valve_agrees_iff] at h
      exact ⟨t, hexec, (if_neg h).mpr hreplied⟩
  case trip =>
    by_cases h : s.pins.emergency = false ∧ ∃ p : PumpNo, s.pva.pumps[p].state = .tripped
    · obtain ⟨t, r, hexec, ht, ha⟩ := faultClear_taken (tag := tag) (body := u8 3 ++ u8 0) hs (hlen ..) parseFaultClear_trip
        (fun r => clearFault_trip (s := s.opened r 0x62 tag) h) fun r => tripsCleared_steady _
      have htouch := tripsCleared_touch (s.opened r 0x62 tag)
      refine ⟨t, hexec, (if_pos h).mpr ?_⟩
      intro freed
      have hsame : (s.opened r 0x62 tag).tripsCleared.pva = freed.pva := rfl
      refine ⟨fun p => ?_, fun hnone => ?_, ?_, ha⟩
      · have hpump := (grants_standsOrGranted (s.opened r 0x62 tag).tripsCleared p).state
        rw [hsame, ← ht.pva] at hpump
        exact hpump.imp id fun ⟨_, hfree, hbusy, hgranted⟩ => ⟨hfree, hbusy, hgranted⟩
      · have hidle : (s.opened r 0x62 tag).tripsCleared.grants = (s.opened r 0x62 tag).tripsCleared := grants_none hnone
        rw [hidle] at ht
        exact ht.lnk_eq s.lnk
      · exact ((opened_touch r 0x62 tag s).seq (htouch.seq ((grants_touch _).seq ht))).mono
    · obtain ⟨t, hexec, hreplied⟩ := faultClear_refused (tag := tag) (body := u8 3 ++ u8 0) hs (hlen ..) parseFaultClear_trip
        fun r => if_neg (mt trip_condition.mp h)
      exact ⟨t, hexec, (if_neg h).mpr hreplied⟩

end Sys2Proof
end

section
/-! PROOFS. The emergency stop input: the plant and the steps at an activation (R107, R130). -/

namespace Sys2Proof.Machine

/- One proof at a time: side by side they take a thread each. -/
set_option Elab.async false

open State

/-! ### The plant at an activation -/

/-- Every pump halted and tripped (R130). -/
def State.plantTripped (s : State) : State := ((List.finRange 3).foldl (fun s p => s.haltPump p) s).tripPumps

/-- Every lineup valve of an active step commanded CLOSED (R130). -/
def State.lineupsShut (s : State) : State := s.tsq.active.foldl (fun s kx => s.closeValves kx.2.valves) s

theorem emergencyOn_eq (s : State) :
    s.emergencyOn = s.plantTripped.lineupsShut.tripSteps.reportEmergency s.pva.toTrip
      (s.tsq.active.filter fun kx => kx.2.state.running).length := rfl

theorem haltAll_pump (s : State) (p : PumpNo) :
    ((List.finRange 3).foldl (fun s p => s.haltPump p) s).pva.pumps[p] = s.pva.pumps[p].halted s.now s.cfg.pumps[p].startTime := by
  have hall : (List.finRange 3).foldl (fun s p => s.haltPump p) s = ((s.haltPump 0).haltPump 1).haltPump 2 := rfl
  rw [hall]
  match p with
  | 0 => rw [haltPump_other (by decide), haltPump_other (by decide), haltPump_same]
  | 1 =>
    rw [haltPump_other (by decide), haltPump_same, haltPump_other (by decide)]
    rfl
  | 2 =>
    rw [haltPump_same, haltPump_other (by decide), haltPump_other (by decide)]
    rfl

theorem plantTripped_touch (s : State) : Touches [.pva] s s.plantTripped :=
  (Touches.foldl (fun s p => haltPump_touch p s) _ s).trans (tripPumps_touch _)

theorem plantTripped_pump (s : State) (p : PumpNo) :
    s.plantTripped.pva.pumps[p] = (s.pva.pumps[p].halted s.now s.cfg.pumps[p].startTime).tripped := by
  have h : s.plantTripped.pva.pumps[p] = (((List.finRange 3).foldl (fun s p => s.haltPump p) s).pva.pumps[p]).tripped :=
    Vector.getElem_ofFn ..
  rw [h, haltAll_pump]

/-- A pump at an activation: at rest, and TRIPPED without a granted step unless it is FAULTED (R130). -/
structure Pump.Stopped (y z : Pump) : Prop where
  run : z.run = false
  gear : z.gear = .g0
  gearUntil : z.gearUntil = none
  state : if y.state = .faulted then z.state = .faulted else z.state = .tripped ∧ z.granted = none

theorem plantTripped_stopped (s : State) (p : PumpNo) : (s.pva.pumps[p]).Stopped s.plantTripped.pva.pumps[p] := by
  rw [plantTripped_pump]
  by_cases h : s.pva.pumps[p].state = .faulted
  · have htripped : (s.pva.pumps[p].halted s.now s.cfg.pumps[p].startTime).tripped
        = s.pva.pumps[p].halted s.now s.cfg.pumps[p].startTime := if_pos h
    rw [htripped]
    exact ⟨rfl, rfl, rfl, (if_pos h).mpr h⟩
  · have htripped : (s.pva.pumps[p].halted s.now s.cfg.pumps[p].startTime).tripped
        = { s.pva.pumps[p].halted s.now s.cfg.pumps[p].startTime with state := .tripped, granted := none } := if_neg h
    rw [htripped]
    exact ⟨rfl, rfl, rfl, (if_neg h).mpr ⟨rfl, rfl⟩⟩

theorem lineupsShut_touch (s : State) : Touches [.pva] s s.lineupsShut :=
  .foldl (fun s (kx : SlotNo × StepRec) => closeValves_touch kx.2.valves s) _ s

theorem lineupsShut_pumps (s : State) : s.lineupsShut.pva.pumps = s.pva.pumps :=
  List.foldlRecOn s.tsq.active _ (motive := fun t : State => t.pva.pumps = s.pva.pumps) rfl
    fun _ ht _ _ => (closeValves_pumps ..).trans ht

/-- Closing the lineups of steps leaves every valve of one of them commanded CLOSED. -/
theorem closeLineups_shut {l : List (SlotNo × StepRec)} {v : ValveNo} {s : State}
    (h : (∃ a ∈ l, v ∈ a.2.valves) ∨ s.pva.valves[v].open_ = false) :
    (l.foldl (fun s kx => s.closeValves kx.2.valves) s).pva.valves[v].open_ = false := by
  induction l generalizing s with
  | nil => exact h.resolve_left fun ⟨_, ha, _⟩ => List.not_mem_nil ha
  | cons a l ih =>
    refine ih ?_
    rcases h with ⟨b, hb, hv⟩ | hshut
    · rcases List.mem_cons.mp hb with rfl | hb
      · exact .inr (closeValves_shut hv s)
      · exact .inl ⟨b, hb, hv⟩
    · exact .inr (by rw [(closeValves_closes ..).shut v hshut]; exact hshut)

/-! ### The steps at an activation -/

/-- One active step at an activation (R107, R130). -/
def State.tripStep (k : SlotNo) (s : State) : State := (s.windDown k .tripped).checkClosed k

theorem tripSteps_eq (s : State) :
    s.tripSteps = s.tsq.order.foldl (State.atSlot (fun x => x.state.active) State.tripStep) s := rfl

theorem tripSteps_keep {P : State → Prop} (hstep : ∀ k t, P t → P (t.tripStep k)) {s : State} (h : P s) : P s.tripSteps := by
  rw [tripSteps_eq]
  exact atSlots_keep (fun t k _ ht => atSlot_cases P ht (hstep k t ht)) h

theorem tripStep_closes (k : SlotNo) (s : State) : Closes s (s.tripStep k) :=
  (windDown_closes ..).trans (checkClosed_closes ..)

/-- No pump is BUSY. -/
def NoneBusy (s : State) : Prop := ∀ p : PumpNo, s.pva.pumps[p].state ≠ .busy

section Pumps
variable {s t : State}

theorem NoneBusy.serves (h : NoneBusy s) (p : PumpNo) (x : StepRec) : (s.pva.pumps[p]).serves x = false := by
  have hstate : ((s.pva.pumps[p]).state == .busy) = false := beq_false_of_ne (h p)
  rw [Pump.serves, hstate, Bool.false_and]

theorem NoneBusy.congr (h : NoneBusy s) (hp : t.pva.pumps = s.pva.pumps) : NoneBusy t := fun p => by
  rw [hp]
  exact h p

theorem releasePump_idle (h : NoneBusy s) (x : StepRec) : s.releasePump x = s := by
  unfold releasePump
  split
  · rfl
  · exact if_neg (by rw [h.serves]; exact Bool.false_ne_true)

theorem checkClosed_pumps (h : NoneBusy s) (k : SlotNo) : (s.checkClosed k).pva.pumps = s.pva.pumps := by
  unfold checkClosed
  split
  · rfl
  next x _ =>
    split
    · extract_lets out s₁
      have h₁ : s₁.pva.pumps = s.pva.pumps := by
        have hremoved : (s.removeStep k x out (x.disposition out)).pva.pumps = s.pva.pumps := by rw [(removeStep_touch ..).pva]
        exact (congrArg (fun u : State => u.pva.pumps) (releasePump_idle (h.congr hremoved) x)).trans hremoved
      split
      · exact (settled_plant true s₁).1.trans h₁
      · exact h₁
    · rfl

theorem closeLineup_pumps (k : SlotNo) (s : State) : (s.closeLineup k).pva.pumps = s.pva.pumps := by
  unfold closeLineup
  split
  · rfl
  · exact closeValves_pumps ..

theorem windDown_pumps (h : NoneBusy s) (k : SlotNo) (out : StepOutcome) : (s.windDown k out).pva.pumps = s.pva.pumps := by
  unfold windDown
  split
  · rfl
  next x _ =>
    split
    · extract_lets x'
      have hentered : (s.enterState k x').pva.pumps = s.pva.pumps := by rw [(enterState_touch ..).pva]
      refine Eq.trans ?_ hentered
      have hidle := h.congr hentered
      unfold plantWindDown
      split
      · rfl
      next p _ =>
        have hlineup := closeLineup_pumps k (s.enterState k x')
        extract_lets y
        have hserves : y.serves x' = false := hidle.serves p x'
        rw [hserves, Bool.false_and, if_neg Bool.false_ne_true, checkClosed_pumps (hidle.congr hlineup), hlineup]
    · rfl

theorem tripStep_pumps (h : NoneBusy s) (k : SlotNo) : (s.tripStep k).pva.pumps = s.pva.pumps := by
  have hwound := windDown_pumps h k .tripped
  exact (checkClosed_pumps (h.congr hwound) k).trans hwound

/-- Where no pump is BUSY the steps' wind-downs leave the pumps as they are (R130). -/
theorem tripSteps_pumps (h : NoneBusy s) : s.tripSteps.pva.pumps = s.pva.pumps :=
  tripSteps_keep (P := fun t => t.pva.pumps = s.pva.pumps) (fun k _ ht => (tripStep_pumps (h.congr ht) k).trans ht) rfl

end Pumps

/-! ### Every active step in WIND_DOWN -/

/-- The step of a slot, where it is active, is in WIND_DOWN. -/
def WoundAt (k : SlotNo) (s : State) : Prop := ∀ x, s.tsq.slots[k] = some x → x.state.active = true → x.state = .windDown

section Wound
variable {k j : SlotNo} {s t : State}

theorem WoundAt.congr (h : WoundAt k s) (hslot : t.tsq.slots[k] = s.tsq.slots[k]) : WoundAt k t := fun x hx => h x (hslot.symm.trans hx)

theorem WoundAt.of_empty (h : s.tsq.slots[k] = none) : WoundAt k s := fun x hx => by
  rw [h] at hx
  cases hx

theorem WoundAt.checkClosed (h : WoundAt k s) : WoundAt k (s.checkClosed k) :=
  (checkClosed_slot k s).elim .of_empty h.congr

theorem windDown_woundAt (k : SlotNo) (out : StepOutcome) (s : State) : WoundAt k (s.windDown k out) := by
  cases hslot : s.tsq.slots[k] with
  | none => exact .of_empty ((windDown_actsOn k out s).empty hslot)
  | some x =>
    cases hrun : x.state.running with
    | true =>
      refine (windDown_slot out hslot hrun).elim .of_empty fun hwound y hy _ => ?_
      rw [← Option.some.inj (hwound.symm.trans hy)]
      rfl
    | false =>
      rw [windDown_still out hslot hrun]
      intro y hy hactive
      obtain rfl := Option.some.inj (hslot.symm.trans hy)
      cases hstate : x.state <;> simp [hstate, StepState.active, StepState.running] at hactive hrun ⊢

theorem tripStep_actsOn (k : SlotNo) (s : State) : ActsOn k s (s.tripStep k) := (windDown_actsOn ..).trans (checkClosed_actsOn ..)

theorem atSlot_woundAt (k : SlotNo) (s : State) : WoundAt k (s.atSlot (fun x => x.state.active) State.tripStep k) := by
  by_cases h : ∃ x, s.tsq.slots[k] = some x ∧ x.state.active = true
  · obtain ⟨x, hx, hactive⟩ := h
    rw [atSlot_picked hx hactive]
    exact (windDown_woundAt k .tripped s).checkClosed
  · have hnone : ∀ x, s.tsq.slots[k] = some x → x.state.active = false := fun x hx =>
      Bool.eq_false_iff.mpr fun hactive => h ⟨x, hx, hactive⟩
    rw [atSlot_passed hnone]
    exact fun x hx hactive => absurd hactive (by rw [hnone x hx]; exact Bool.false_ne_true)

theorem atSlot_actsOn (k : SlotNo) (s : State) : ActsOn k s (s.atSlot (fun x => x.state.active) State.tripStep k) :=
  atSlot_cases (ActsOn k s) (.refl s) (tripStep_actsOn k s)

theorem atSlot_keepsWound (h : WoundAt j s) (k : SlotNo) : WoundAt j (s.atSlot (fun x => x.state.active) State.tripStep k) := by
  by_cases hjk : j = k
  · exact hjk ▸ atSlot_woundAt k s
  · exact h.congr ((atSlot_actsOn k s).others j hjk)

theorem atSlots_wound {l : List SlotNo} (h : j ∈ l ∨ WoundAt j s) :
    WoundAt j (l.foldl (State.atSlot (fun x => x.state.active) State.tripStep) s) := by
  induction l generalizing s with
  | nil => exact h.resolve_left List.not_mem_nil
  | cons k l ih =>
    refine ih ?_
    rcases h with hj | hwound
    · rcases List.mem_cons.mp hj with rfl | hj
      · exact .inr (atSlot_woundAt j s)
      · exact .inl hj
    · exact .inr (atSlot_keepsWound hwound k)

/-- Every active step lies in the queue order (R86), so that every one is in WIND_DOWN after an activation (R130). -/
theorem tripSteps_wound (horder : ∀ k : SlotNo, k ∈ s.tsq.order ↔ s.tsq.holds k (fun x => x.state != .checking) = true)
    (a : SlotNo × StepRec) (ha : a ∈ s.tripSteps.tsq.active) : a.2.state = .windDown := by
  obtain ⟨k, x⟩ := a
  obtain ⟨-, hx, hactive⟩ := mem_active.mp ha
  rw [tripSteps_eq] at hx
  refine atSlots_wound (.inl ?_) x hx hactive
  by_contra hout
  have hstill : (s.tsq.order.foldl (State.atSlot (fun x => x.state.active) State.tripStep) s).tsq.slots[k] = s.tsq.slots[k] :=
    atSlots_keep (P := fun t => t.tsq.slots[k] = s.tsq.slots[k])
      (fun t j hj ht => ((atSlot_actsOn j t).others k fun e => hout (e ▸ hj)).trans ht) rfl
  have hheld : s.tsq.holds k (fun x => x.state != .checking) = true := by
    rw [Tsq.holds, ← hstill, hx]
    cases hstate : x.state <;> simp [hstate, StepState.active] at hactive ⊢
  exact hout ((horder k).mpr hheld)

end Wound

end Sys2Proof.Machine
end

section
/-! PROOFS. The emergency stop input: its entries, what LSL takes of it, and the commands (R74, R130, R131, R174, R180). -/

namespace Sys2Proof.Machine

/- One proof at a time: side by side they take a thread each. -/
set_option Elab.async false

open State

/-! ### The log behind an activation (R174) -/

/-- At most `m` entries and one for each step removed are written, none of them EMERGENCY_ON. -/
structure Spends (m : Nat) (s t : State) : Prop where
  next : ∀ n, s.rcu.nextSequence = some n → n + m + s.tsq.heldCount ≤ Config.maxU32 →
    ∃ j, t.rcu.nextSequence = some (n + j) ∧ j + t.tsq.heldCount ≤ m + s.tsq.heldCount
  trips : t.rcu.counts.emergencyTrips = s.rcu.counts.emergencyTrips

namespace Spends

variable {m m' : Nat} {s t u : State}

theorem of_few (h : Few m s t) (htsq : t.tsq = s.tsq) (htrips : t.rcu.counts.emergencyTrips = s.rcu.counts.emergencyTrips) :
    Spends m s t where
  next n hn hroom := by
    obtain ⟨j, hj, ht⟩ := h.next n hn (by omega)
    exact ⟨j, ht, by rw [htsq]; omega⟩
  trips := htrips

theorem of_rcu (hrcu : t.rcu = s.rcu) (hheld : t.tsq.heldCount ≤ s.tsq.heldCount) : Spends 0 s t where
  next n hn _ := ⟨0, by rw [hrcu]; exact hn, by omega⟩
  trips := by rw [hrcu]

theorem of_touches {l : List Part} (h : Touches l s t) (hr : Part.rcu ∉ l := by decide) (hq : Part.tsq ∉ l := by decide) :
    Spends 0 s t := of_rcu (h.rcu hr) (by rw [h.tsq hq])

theorem refl (s : State) : Spends 0 s s := of_rcu rfl (Nat.le_refl _)

theorem trans (h : Spends m s t) (g : Spends m' t u) : Spends (m + m') s u where
  next n hn hroom := by
    obtain ⟨j, ht, hj⟩ := h.next n hn (by omega)
    obtain ⟨j', hu, hj'⟩ := g.next (n + j) ht (by omega)
    exact ⟨j + j', by rw [hu, Nat.add_assoc], by omega⟩
  trips := g.trips.trans h.trips

theorem seq (h : Spends 0 s t) (g : Spends m t u) : Spends m s u := Nat.zero_add m ▸ h.trans g

theorem ite {c : Prop} [Decidable c] (h : Spends m s t) (g : Spends m s u) : Spends m s (if c then t else u) := by
  split <;> assumption

end Spends

/-- An entry of another kind leaves the count of emergency trips (R180). -/
theorem entry_emergencyTrips {k : EntryKind} (hk : k ≠ .emergencyOn) (ps : List Nat) (c : Counts) :
    (c.entry k ps).emergencyTrips = c.emergencyTrips := by
  cases k
  case emergencyOn => exact absurd rfl hk
  case permitChange =>
    simp only [Counts.entry]
    split <;> rfl
  case pourEnd =>
    simp only [Counts.entry]
    split <;> split <;> rfl
  all_goals rfl

theorem log_spends {k : EntryKind} (hk : k ≠ .emergencyOn) (ps : List Nat) (s : State) : Spends 1 s (s.log k ps) :=
  .of_few (log_few k ps s) rfl (entry_emergencyTrips hk ps _)

theorem evalPermit_spends (c : PermitCause) (s : State) : Spends 1 s (s.evalPermit c) := by
  refine .of_few (evalPermit_writes c s).toFew (evalPermit_touch c s).tsq ?_
  unfold evalPermit
  extract_lets line s₁ s₂
  split
  · rfl
  · exact (congrArg (fun r : Rcu => r.counts.emergencyTrips) (notify_touch ..).rcu).trans (entry_emergencyTrips (by decide) ..)

theorem stopTaken_spends (b : Bool) (s : State) : Spends 1 s (s.stopTaken b) :=
  .ite (.of_few (Few.mono (.of_touches (.refl [] s)) (Nat.zero_le 1)) rfl rfl) (evalPermit_spends ..)

theorem stopEvaluated_spends (f : Lsl → Lsl) (s : State) : Spends 1 s (s.stopEvaluated f) := by
  refine .of_few (stopEvaluated_writes f s).toFew (stopEvaluated_touch f s).tsq ?_
  unfold stopEvaluated
  extract_lets old l s₁ s₂
  have h₂ : s₂.rcu.counts.emergencyTrips = s.rcu.counts.emergencyTrips := by
    unfold s₂
    split
    · exact entry_emergencyTrips (by decide) ..
    · split
      · exact entry_emergencyTrips (by decide) ..
      · rfl
  split
  · exact (congrArg (fun r : Rcu => r.counts.emergencyTrips) (notify_touch ..).rcu).trans h₂
  · exact h₂

theorem stopChange_spends (f : Lsl → Lsl) (s : State) : Spends 2 s (s.stopChange f) :=
  (stopEvaluated_spends f s).trans (stopTaken_spends ..)

section Steps
variable {k : SlotNo} {x y : StepRec} {s : State}

theorem removeStep_spends (hy : s.tsq.slots[k] = some y) (x : StepRec) (out : StepOutcome) (d : Disposition) :
    Spends 0 s (s.removeStep k x out d) := by
  have hheld : (s.removeStep k x out d).tsq.heldCount + 1 = s.tsq.heldCount := by
    rw [removeStep_tsq]
    exact heldCount_none hy rfl
  have hrcu : (s.removeStep k x out d).rcu.nextSequence = (s.log .stepEnd [x.number, x.kind.code, out.code, d.code]).rcu.nextSequence
      ∧ (s.removeStep k x out d).rcu.counts.emergencyTrips = s.rcu.counts.emergencyTrips := by
    unfold removeStep
    rw [(notify_touch ..).rcu]
    refine ⟨rfl, ?_⟩
    cases d <;> rfl
  refine ⟨fun n hn hroom => ?_, hrcu.2⟩
  obtain ⟨j, hj, hnext⟩ := (log_few .stepEnd [x.number, x.kind.code, out.code, d.code] s).next n hn (by omega)
  exact ⟨j, hrcu.1.trans hnext, by omega⟩

theorem checkClosed_spends (k : SlotNo) (s : State) : Spends 0 s (s.checkClosed k) := by
  unfold checkClosed
  split
  · exact .refl s
  next x hx =>
    refine .ite ?_ (.refl s)
    extract_lets out s₁
    have h₁ : Spends 0 s s₁ := (removeStep_spends hx ..).seq (.of_touches (releasePump_touch ..))
    exact .ite (h₁.seq (.of_touches (settleMode_touch _))) h₁

theorem enterState_spends (hy : s.tsq.slots[k] = some y) (x : StepRec) : Spends 0 s (s.enterState k x) := by
  have hset : Spends 0 s (s.setStep k x) := .of_rcu rfl (heldCount_some hy rfl).le
  exact hset.seq (.of_touches (notify_touch ..))

theorem plantWindDown_spends (k : SlotNo) (x : StepRec) (s : State) : Spends 0 s (s.plantWindDown k x) := by
  unfold plantWindDown
  split
  · exact .refl s
  · exact .ite (.of_touches (setPump_touch ..)) ((Spends.of_touches (closeLineup_touch k s)).seq (checkClosed_spends k _))

theorem windDown_spends (k : SlotNo) (out : StepOutcome) (s : State) : Spends 0 s (s.windDown k out) := by
  unfold windDown
  split
  · exact .refl s
  next x hx => exact .ite ((enterState_spends hx _).seq (plantWindDown_spends ..)) (.refl s)

theorem tripSteps_spends (s : State) : Spends 0 s s.tripSteps :=
  tripSteps_keep (P := Spends 0 s) (fun k _ ht => ht.seq ((windDown_spends ..).seq (checkClosed_spends k _))) (.refl s)

end Steps

/-- An entry written to a log that is not EXHAUSTED is its last (R174). -/
theorem log_last {s : State} {n : Nat} (hn : s.rcu.nextSequence = some n) (k : EntryKind) (ps : List Nat) :
    ((s.log k ps).rcu.log.getLast?).map (fun e => (e.kind, e.params)) = some (entryOf k ps) := by
  simp only [State.log, Rcu.write, hn, List.getLast?_concat, Option.map_some]
  rfl

/-! ### What LSL takes of the input (R74) -/

theorem emergencyReport_lsl (b : Bool) (s : State) :
    (s.emergencyReport b).lsl.emergencyInput = b ∧ (s.emergencyReport b).lsl.causes.emergency = (b && s.cfg.stop.emergencyEnabled) := by
  unfold emergencyReport
  rw [stopChange_lsl]
  exact ⟨rfl, rfl⟩

/-! ### An activation -/

/-- The plant and the steps at an activation, before LSL is told (R130). -/
def State.activated (s : State) : State := s.plantTripped.lineupsShut.tripSteps

theorem activated_touch (s : State) : Touches [.pva, .tsq, .rcu, .lnk] s s.activated := by
  have htrip (u : State) : Touches [.tsq, .rcu, .lnk, .pva] u u.tripSteps :=
    forSteps_touch _ _ (fun k s => (windDown_touch k .tripped s).trans (checkClosed_touch k _)) u
  exact ((plantTripped_touch s).seq ((lineupsShut_touch _).seq (htrip _))).mono

theorem activated_stopped (s : State) (p : PumpNo) : (s.pva.pumps[p]).Stopped s.activated.pva.pumps[p] := by
  have hstopped := plantTripped_stopped s
  have hnone : NoneBusy s.plantTripped := by
    intro q hbusy
    have hstate := (hstopped q).state
    rw [hbusy] at hstate
    split at hstate
    · cases hstate
    · cases hstate.1
  have hshut := lineupsShut_pumps s.plantTripped
  rw [activated, tripSteps_pumps (hnone.congr hshut), hshut]
  exact hstopped p

theorem activated_wound {s : State} (h : QueueSafe s) (a : SlotNo × StepRec) (ha : a ∈ s.activated.tsq.active) :
    a.2.state = .windDown := by
  obtain ⟨-, -, horder, -⟩ := h
  have htsq : s.plantTripped.lineupsShut.tsq = s.tsq := ((plantTripped_touch s).trans (lineupsShut_touch _)).tsq
  exact tripSteps_wound (by rw [htsq]; exact horder) a ha

theorem activated_shut (s : State) {a : SlotNo × StepRec} (ha : a ∈ s.tsq.active) {v : ValveNo} (hv : v ∈ a.2.valves) :
    s.activated.pva.valves[v].open_ = false := by
  have htsq : s.plantTripped.tsq = s.tsq := (plantTripped_touch s).tsq
  have hshut : s.plantTripped.lineupsShut.pva.valves[v].open_ = false :=
    closeLineups_shut (.inl ⟨a, by rw [htsq]; exact ha, hv⟩)
  have hcloses : Closes s.plantTripped.lineupsShut s.activated :=
    tripSteps_keep (P := Closes _) (fun k _ ht => ht.trans (tripStep_closes k _)) (.refl _)
  rw [hcloses.shut v hshut]
  exact hshut

theorem activated_spends (s : State) : Spends 0 s s.activated :=
  (Spends.of_touches (plantTripped_touch s)).seq ((Spends.of_touches (lineupsShut_touch _)).seq (tripSteps_spends _))

/-- The entry of a report is the last, where the log is not near its last number. -/
theorem emergencyReport_last {s t : State} (h : Spends 0 s t) (b : Bool) (k : EntryKind) (ps : List Nat) {n : Nat}
    (hn : s.rcu.nextSequence = some n) (hroom : n + 64 ≤ Config.maxU32) :
    (((t.emergencyReport b).log k ps).rcu.log.getLast?).map (fun e => (e.kind, e.params)) = some (entryOf k ps) := by
  have hheld := heldCount_le s.tsq
  obtain ⟨j, hnext, -⟩ := (h.seq (stopChange_spends _ t)).next n hn (by omega)
  exact log_last hnext k ps

end Sys2Proof.Machine

namespace Sys2Proof

/- One proof at a time: side by side they take a thread each. -/
set_option Elab.async false

open Machine State

/-- Settles O43: the activation and the release, each by the input and the power it finds. -/
theorem emergencyInput : Obligations.EmergencyInput := by
  refine ⟨fun s hqueue => ⟨fun hon => if_pos hon, fun hoff hp => ?dead, fun hoff hp => ?activation⟩,
    fun s => ⟨fun hoff => if_neg (by rw [hoff]; exact Bool.false_ne_true), fun hon hp => ?deadRelease, fun hon hp => ?release⟩⟩
  case dead =>
    refine (if_neg (by rw [hoff]; exact Bool.false_ne_true)).trans (congrArg Host.Outcome.next ?_)
    exact if_neg (by rw [show _ = s.powered from rfl, hp]; exact Bool.false_ne_true)
  case deadRelease =>
    refine (if_pos hon).trans (congrArg Host.Outcome.next ?_)
    exact if_neg (by rw [show _ = s.powered from rfl, hp]; exact Bool.false_ne_true)
  case activation =>
    let s' : State := { s with pins := { s.pins with emergency := true } }
    let u := s'.activated
    have hu := activated_touch s'
    have hreport := (emergencyReport_touch true u).seq
      ((log_touch .emergencyOn [s'.pva.toTrip, (s'.tsq.active.filter fun kx => kx.2.state.running).length] _).seq (transmit_touch _))
    have hexec : exec .emergencyStopActivation s = .next (s'.emergencyOn).transmit :=
      (if_neg (by rw [hoff]; exact Bool.false_ne_true)).trans (congrArg Host.Outcome.next (event_powered hp))
    have hlsl := emergencyReport_lsl true u
    rw [hu.cfg] at hlsl
    refine ⟨_, hexec, ?_, fun p => ?_, fun a ha => ?_, fun a ha v hv => ?_, ?_, ?_, ?_, fun n hn hroom => ?_, ?_⟩
    · exact hreport.pins.trans hu.pins
    · rw [show (s'.emergencyOn).transmit.pva = u.pva from hreport.pva]
      obtain ⟨hrun, hgear, huntil, hstate⟩ := activated_stopped s' p
      exact ⟨hrun, hgear, huntil, hstate⟩
    · rw [show (s'.emergencyOn).transmit.tsq = u.tsq from hreport.tsq] at ha
      exact activated_wound (s := s') hqueue a ha
    · rw [show (s'.emergencyOn).transmit.pva = u.pva from hreport.pva]
      exact activated_shut s' ha hv
    · rw [(transmit_touch _).lsl]
      exact hlsl.1
    · rw [(transmit_touch _).lsl]
      exact hlsl.2
    · rw [(transmit_touch _).rcu]
      exact congrArg (fun n => min 65535 (n + 1)) ((activated_spends s').seq (stopChange_spends _ u)).trips
    · rw [(transmit_touch _).rcu]
      exact emergencyReport_last (activated_spends s') true .emergencyOn _ hn hroom
    · exact ((touch_pins s _).seq ((emergencyOn_touch s').seq (transmit_touch _))).mono
  case release =>
    let s' : State := { s with pins := { s.pins with emergency := false } }
    have htouch : Touches [.lsl, .rcu, .lnk, .pmu] s' s'.emergencyOff.transmit :=
      ((emergencyReport_touch false s').seq ((log_touch ..).seq (transmit_touch _))).mono
    have hexec : exec .emergencyStopRelease s = .next s'.emergencyOff.transmit :=
      (if_pos hon).trans (congrArg Host.Outcome.next (event_powered hp))
    have hlsl := emergencyReport_lsl false s'
    refine ⟨_, hexec, htouch.pins, ?_, ?_, fun n hn hroom => ?_, ((touch_pins s _).seq htouch).mono⟩
    · rw [(transmit_touch _).lsl]
      exact hlsl.1
    · rw [(transmit_touch _).lsl]
      exact hlsl.2
    · rw [(transmit_touch _).rcu]
      exact emergencyReport_last (Spends.refl s') false .emergencyOff _ hn hroom

end Sys2Proof
end

section
/-! PROOFS. Pumps through wind-downs and grants, and pump faults (R81, R101, R124 to R126). -/

namespace Sys2Proof.Machine

/- One proof at a time: side by side they take a thread each. -/
set_option Elab.async false

open State

/-! ### What a wind-down leaves of a pump (R102, R128) -/

/-- A pump through a wind-down: its run watch stands, a no-flow timer may go but none starts, and a FAULTED pump stands as it is. -/
structure Pump.Eases (y z : Pump) : Prop where
  watch : z.watch = y.watch
  noFlow : z.noFlowUntil = y.noFlowUntil ∨ z.noFlowUntil = none
  faulted : y.state = .faulted → z = y

/-- Every pump through a wind-down. -/
def PumpsEase (s t : State) : Prop := ∀ p : PumpNo, (s.pva.pumps[p]).Eases t.pva.pumps[p]

namespace PumpsEase

variable {s t u : State}

theorem of_pumps (h : t.pva.pumps = s.pva.pumps) : PumpsEase s t := fun p => by
  rw [h]
  exact ⟨rfl, .inl rfl, fun _ => rfl⟩

theorem of_touches {l : List Part} (h : Touches l s t) (hp : Part.pva ∉ l := by decide) : PumpsEase s t := of_pumps (by rw [h.pva hp])

theorem refl (s : State) : PumpsEase s s := of_pumps rfl

theorem trans (h : PumpsEase s t) (g : PumpsEase t u) : PumpsEase s u := fun p => by
  obtain ⟨hwatch, hflow, hfaulted⟩ := h p
  obtain ⟨hwatch', hflow', hfaulted'⟩ := g p
  refine ⟨hwatch'.trans hwatch, hflow'.elim (fun e => ?_) .inr, fun hy => ?_⟩
  · rw [e]
    exact hflow
  · have hsame := hfaulted hy
    rw [hfaulted' (by rw [hsame]; exact hy), hsame]

theorem ite {c : Prop} [Decidable c] (h : PumpsEase s t) (g : PumpsEase s u) : PumpsEase s (if c then t else u) := by
  split <;> assumption

/-- A BUSY pump's record is replaced by one with its watch. -/
theorem of_setPump {p : PumpNo} {y : Pump} (hbusy : s.pva.pumps[p].state = .busy) (hwatch : y.watch = s.pva.pumps[p].watch)
    (hflow : y.noFlowUntil = s.pva.pumps[p].noFlowUntil ∨ y.noFlowUntil = none) : PumpsEase s (s.setPump p y) := fun q => by
  by_cases hq : p = q
  · subst hq
    have hset : (s.setPump p y).pva.pumps[p] = y := Vector.getElem_set_self ..
    rw [hset]
    exact ⟨hwatch, hflow, fun hf => by rw [hbusy] at hf; cases hf⟩
  · have hset : (s.setPump p y).pva.pumps[q] = s.pva.pumps[q] := Vector.getElem_set_ne p.isLt q.isLt fun e => hq (Fin.ext e)
    rw [hset]
    exact ⟨rfl, .inl rfl, fun _ => rfl⟩

end PumpsEase

theorem busy_of_serves {y : Pump} {x : StepRec} (h : y.serves x = true) : y.state = .busy := by
  unfold Pump.serves at h
  exact beq_iff_eq.mp (Bool.and_eq_true_iff.mp h).1

theorem releasePump_ease (x : StepRec) (s : State) : PumpsEase s (s.releasePump x) := by
  unfold releasePump
  split
  · exact .refl s
  · extract_lets y
    split
    next hserves => exact .of_setPump (busy_of_serves hserves) rfl (.inl rfl)
    next => exact .refl s

theorem checkClosed_ease (k : SlotNo) (s : State) : PumpsEase s (s.checkClosed k) := by
  unfold checkClosed
  split
  · exact .refl s
  next x _ =>
    refine .ite ?_ (.refl s)
    extract_lets out s₁
    have h₁ : PumpsEase s s₁ := (PumpsEase.of_touches (removeStep_touch ..)).trans (releasePump_ease x _)
    exact .ite (h₁.trans (.of_pumps (settled_plant true s₁).1)) h₁

theorem closeLineup_ease (k : SlotNo) (s : State) : PumpsEase s (s.closeLineup k) := .of_pumps (closeLineup_pumps k s)

theorem plantWindDown_ease (k : SlotNo) (x : StepRec) (s : State) : PumpsEase s (s.plantWindDown k x) := by
  unfold plantWindDown
  split
  · exact .refl s
  · extract_lets y
    split
    next h => exact .of_setPump (busy_of_serves (Bool.and_eq_true_iff.mp h).1) rfl (.inr rfl)
    next =>
      exact PumpsEase.trans (closeLineup_ease k s) (checkClosed_ease k _)

theorem windDown_ease (k : SlotNo) (out : StepOutcome) (s : State) : PumpsEase s (s.windDown k out) := by
  unfold windDown
  split
  · exact .refl s
  · exact .ite ((PumpsEase.of_touches (enterState_touch ..)).trans (plantWindDown_ease k _ _)) (.refl s)

/-- A pump that is not FREE stands through the grants, but for its fairness memory (R115). -/
theorem grants_unfair {p : PumpNo} {s : State} (h : s.pva.pumps[p].state ≠ .free) :
    s.grants.pva.pumps[p].unfair = s.pva.pumps[p].unfair := by
  refine grants_keeps_canUse (P := fun t => t.pva.pumps[p].unfair = s.pva.pumps[p].unfair) (fun q k x c t ht hx huse => ?_) rfl
  by_cases hq : p = q
  · subst hq
    obtain ⟨-, hfree, -⟩ := grant_freed hx huse
    have hstate : t.pva.pumps[p].state = s.pva.pumps[p].state := by have := congrArg Pump.state ht; exact this
    exact absurd (hstate.symm.trans hfree) h
  · exact (grant_pump hx hq).trans ht

/-- A run watch stands through the grants (R115). -/
theorem grants_watch (p : PumpNo) (s : State) : s.grants.pva.pumps[p].watch = s.pva.pumps[p].watch := by
  refine grants_keeps_canUse (P := fun t => t.pva.pumps[p].watch = s.pva.pumps[p].watch) (fun q k x c t ht hx _ => ?_) rfl
  refine Eq.trans ?_ ht
  by_cases hq : p = q
  · subst hq
    obtain ⟨hpumps, -, -⟩ := grant_pva (p := p) hx
    have hold := beforeGrant_pump t.pva p
    have hset : (t.grant p k).pva.pumps[p].watch = t.pva.beforeGrant.pumps[p].watch := by
      rw [hpumps]
      simp [State.granting]
    rw [hset]
    have := congrArg Pump.watch hold
    exact this
  · have := congrArg Pump.watch (grant_pump hx hq)
    exact this

/-! ### A pump fault (R124, R125) -/

/-- A pump's fault found and reported, before its step is told (R124). -/
def State.pumpReported (p : PumpNo) (why : PumpCause) (s : State) : State :=
  ((s.setPump p s.pva.pumps[p].faulted).faultReport (.pump p)).log .pumpFault [p.val, why.code, s.pva.pumps[p].granted.getD 0]

/-- A step in WIND_DOWN that its pump's fault finds (R101). -/
def State.windDownMarked (k : SlotNo) (s : State) : State := ((s.markStep k).closeLineup k).checkClosed k

section Fault
variable {p : PumpNo} {why : PumpCause} {k : SlotNo} {x : StepRec} {s : State}

theorem pumpFault_alone (h : s.pva.pumps[p].granted = none) : s.pumpFault p why = s.pumpReported p why := by
  unfold pumpFault State.pumpReported
  rw [h]
  rfl

theorem pumpReported_tsq : (s.pumpReported p why).tsq = s.tsq := (log_touch ..).tsq.trans (faultReport_touch ..).tsq

theorem pumpFault_step (hn : s.pva.pumps[p].granted = some x.number) (hk : s.tsq.slotOf x.number = some k)
    (hx : s.tsq.slots[k] = some x) :
    s.pumpFault p why = if x.state = .windDown then (s.pumpReported p why).windDownMarked k
      else (s.pumpReported p why).windDown k .pump := by
  have hsame : (s.pumpReported p why).tsq.slots[k] = some x := by rw [pumpReported_tsq]; exact hx
  unfold pumpFault
  extract_lets number slot s₁ s₂
  have hslot : slot = some k := by
    unfold slot
    rw [hn]
    exact hk
  clear_value slot
  subst hslot
  have hs₂ : s₂ = s.pumpReported p why := rfl
  clear_value s₂
  subst hs₂
  simp only [hsame]
  rfl

/-- A property of the reported fault that telling its step keeps. -/
theorem pumpFault_from {P : State → Prop} (hreported : P (s.pumpReported p why)) (hmark : ∀ k t, P t → P (t.windDownMarked k))
    (hwind : ∀ k t, P t → P (t.windDown k .pump)) : P (s.pumpFault p why) := by
  unfold pumpFault
  extract_lets number slot s₁ s₂
  have hs₂ : P s₂ := hreported
  clear_value s₂ slot
  rcases slot with _ | k
  · exact hs₂
  · dsimp only
    split
    · exact hs₂
    · split
      · exact hmark _ _ hs₂
      · exact hwind _ _ hs₂

theorem windDownMarked_ease (k : SlotNo) (s : State) : PumpsEase s (s.windDownMarked k) :=
  (PumpsEase.of_touches (markStep_touch k s)).trans ((closeLineup_ease k _).trans (checkClosed_ease k _))

theorem windDownMarked_behind (k : SlotNo) (s : State) : Behind 0 s (s.windDownMarked k) :=
  (markStep_behind k s).seq ((closeLineup_behind ..).seq (checkClosed_behind ..))

theorem windDownMarked_touch (k : SlotNo) (s : State) : Touches [.tsq, .rcu, .lnk, .pva] s (s.windDownMarked k) :=
  ((markStep_touch k s).seq ((closeLineup_touch ..).seq (checkClosed_touch ..))).mono

/-- The pump is FAULTED and stopped, without watch or granted step, and the grants leave it so (R124). -/
theorem pumpFault_pump (p : PumpNo) (why : PumpCause) (s : State) :
    (s.pumpFault p why).grants.pva.pumps[p].unfair = s.pva.pumps[p].faulted.unfair := by
  have hset : (s.pumpReported p why).pva.pumps[p] = s.pva.pumps[p].faulted := by
    have hpva : (s.pumpReported p why).pva = (s.setPump p s.pva.pumps[p].faulted).pva :=
      (log_touch ..).pva.trans (faultReport_touch ..).pva
    rw [hpva]
    exact Vector.getElem_set_self ..
  have hease : PumpsEase (s.pumpReported p why) (s.pumpFault p why) :=
    pumpFault_from (P := PumpsEase (s.pumpReported p why)) (.refl _) (fun k t h => h.trans (windDownMarked_ease k t))
      fun k t h => h.trans (windDown_ease k .pump t)
  have hstands : (s.pumpFault p why).pva.pumps[p] = s.pva.pumps[p].faulted := by
    rw [(hease p).faulted (by rw [hset]; rfl), hset]
  rw [grants_unfair (by rw [hstands]; exact PumpState.noConfusion), hstands]

/-- The fields of a stopped pump. -/
theorem stopped_of_unfair {y z : Pump} (h : z.unfair = y.faulted.unfair) :
    z.state = .faulted ∧ z.granted = none ∧ z.run = false ∧ z.gear = .g0 ∧ z.gearUntil = none ∧ z.watch = .absent := by
  obtain ⟨hrun, hgear, huntil, hwatch⟩ := unfair_eq h
  have hstate : z.state = .faulted := by have := congrArg Pump.state h; exact this
  exact ⟨hstate, unfair_granted h, hrun, hgear, huntil, hwatch⟩

/-- The fault is present at LSL and taken, before anything else is written (R81). -/
theorem pumpFault_taken {s₀ : State} (p : PumpNo) (why : PumpCause) (h₀ : Touches [.fcu, .pva] s₀ s) (htx : s.lnk.tx = s₀.lnk.tx) :
    (s.pumpFault p why).grants.transmit.lsl.faults.pump[p] = true
      ∧ FaultTaken s₀ (s.pumpFault p why).grants.transmit (.pump p)
          (.pumpFault, #v[p.val, why.code, s.pva.pumps[p].granted.getD 0, 0]) := by
  have hbehind : Behind 0 (s.pumpReported p why) (s.pumpFault p why) :=
    pumpFault_from (P := Behind 0 (s.pumpReported p why)) (.refl _) (fun k t h => h.seq (windDownMarked_behind k t))
      fun k t h => h.seq (windDown_behind k .pump t)
  have hfaultLsl : (s.pumpFault p why).lsl = (s.pumpReported p why).lsl :=
    pumpFault_from (P := fun t => t.lsl = (s.pumpReported p why).lsl) rfl (fun k t h => (windDownMarked_touch k t).lsl.trans h)
      fun k t h => (windDown_touch k .pump t).lsl.trans h
  have hlsl : (s.pumpFault p why).grants.lsl = (s.pumpReported p why).lsl := (grants_touch _).lsl.trans hfaultLsl
  have hsteady : (s.pumpFault p why).grants.lnk.tx = s₀.lnk.tx :=
    ((pumpFault_steady ..).trans (grants_steady _)).tx.trans htx
  refine ⟨?_, faultTaken_of_behind (h₀.trans (setPump_touch ..).mono) (hbehind.seq (grants_behind _)) (Nat.zero_le _) hlsl hsteady⟩
  have hhas := faultReport_has (.pump p) (.pump p) (s.setPump p s.pva.pumps[p].faulted)
  rw [(transmit_touch _).lsl, hlsl]
  exact hhas.trans (by simp)

/-- The entries of a pump fault: that of its alarm event where the fault is new, then its own. -/
theorem pumpReported_rcu {s₀ : State} (h₀ : Touches [.fcu, .pva] s₀ s) (p : PumpNo) (why : PumpCause) :
    (s.pumpReported p why).rcu =
      ((if s₀.lsl.faults.pump[p] then s₀
        else s₀.log .alarm [3, 32, p.val, s₀.cfg.alarm.masked[AlarmGroup.equipment.ix].toNat]).log .pumpFault
          [p.val, why.code, s.pva.pumps[p].granted.getD 0]).rcu := by
  have h₁ : Touches [.fcu, .pva] s₀ (s.setPump p s.pva.pumps[p].faulted) := h₀.trans (setPump_touch ..).mono
  have hfaults : (s.setPump p s.pva.pumps[p].faulted).lsl.faults = s₀.lsl.faults := by rw [h₁.lsl]
  have hentry : ((s.setPump p s.pva.pumps[p].faulted).faultEntry (.pump p)).rcu = (if s₀.lsl.faults.pump[p] then s₀
      else s₀.log .alarm [3, 32, p.val, s₀.cfg.alarm.masked[AlarmGroup.equipment.ix].toNat]).rcu := by
    unfold faultEntry
    rw [hfaults]
    refine (apply_ite State.rcu ..).trans (Eq.trans ?_ (apply_ite State.rcu ..).symm)
    refine if_congr Iff.rfl h₁.rcu ?_
    rw [alarmEntry, h₁.cfg]
    exact log_congr h₁.rcu h₁.ccl ..
  have hccl : ((s.setPump p s.pva.pumps[p].faulted).faultReport (.pump p)).ccl = (if s₀.lsl.faults.pump[p] then s₀
      else s₀.log .alarm [3, 32, p.val, s₀.cfg.alarm.masked[AlarmGroup.equipment.ix].toNat]).ccl := by
    rw [(faultReport_touch ..).ccl, h₁.ccl]
    split <;> rfl
  exact log_congr ((faultReport_rcu ..).trans hentry) hccl ..

end Fault

/-! ### The step of a pump that faults (R101) -/

section Told
variable {p : PumpNo} {why : PumpCause} {k : SlotNo} {x : StepRec} {s t : State}

theorem stepOn_active (h : s.tsq.stepOn p = some (k, x)) : (k, x) ∈ s.tsq.active ∧ x.grantedPump = some p :=
  ⟨List.mem_of_find?_eq_some h, by simpa using List.find?_some h⟩

/-- A step's record replaced by one with its plan. -/
theorem setStep_actsOn {y : StepRec} (hx : s.tsq.slots[k] = some x) (hplan : x.plan = y.plan) : ActsOn k s (s.setStep k y) where
  others j hj := Vector.getElem_set_ne k.isLt j.isLt fun e => hj (Fin.ext e.symm)
  own z hz := by
    have hset : (s.setStep k y).tsq.slots[k] = some y := Vector.getElem_set_self ..
    rw [hset] at hz
    exact ⟨x, hx, Option.some.inj hz ▸ hplan⟩
  order _ _ h := h
  offered c hc := .inl ⟨c, hc, rfl⟩

/-- What an event does to an active step's slot, the grants behind it leave, so long as it does not make the step WAITING. -/
theorem grants_slot (hqueue : QueueSafe s) (hline : LineSafe s) (hx : (k, x) ∈ s.tsq.active) (ht : ActsOn k s t)
    (hr : Ungranted x.number t.tsq.slots[k]) : t.grants.tsq.slots[k] = t.tsq.slots[k] := by
  have haside := (Holding.start hqueue hline hx).aside.after (ungranted_active (mem_active.mp hx).2.2) ht
  exact (haside.grantsBut hr _).slot

theorem slotOf_held (hqueue : QueueSafe s) (hx : s.tsq.slots[k] = some x) : s.tsq.slotOf x.number = some k := by
  obtain ⟨-, -, -, -, halone, -⟩ := hqueue
  rcases h : s.tsq.slotOf x.number with _ | j
  · have hnone := List.find?_eq_none.mp h k (List.mem_finRange k)
    rw [hx] at hnone
    exact absurd (by simp) hnone
  · obtain ⟨y, hy, hnumber⟩ := slotOf_number h
    by_contra hne
    have hjk : j ≠ k := fun e => hne (congrArg some e)
    have := halone j k hjk
    simp [Tsq.holds, hy, hx, hnumber] at this

theorem pumpReported_actsOn (k : SlotNo) (p : PumpNo) (why : PumpCause) (s : State) : ActsOn k s (s.pumpReported p why) := by
  have hset : ActsOn k s (s.setPump p s.pva.pumps[p].faulted) := .of_same rfl rfl
  exact hset.trans ((ActsOn.of_touches (faultReport_touch ..)).trans (.of_touches (log_touch ..)))

/-- A pump BUSY for a step has that step on it (R96). -/
theorem busy_granted (hpump : PumpSafe s) (hx : s.tsq.stepOn p = some (k, x)) (hbusy : s.pva.pumps[p].state = .busy) :
    s.pva.pumps[p].granted = some x.number := by
  obtain ⟨hpumps, -⟩ := hpump
  obtain ⟨hgranted, hstep, -⟩ := hpumps p
  obtain ⟨n, hn⟩ := Option.isSome_iff_exists.mp (hgranted.mp hbusy)
  rw [hn, hx] at hstep
  simp at hstep
  rw [hn, hstep]

theorem idle_granted (hpump : PumpSafe s) (hidle : s.pva.pumps[p].state ≠ .busy) : s.pva.pumps[p].granted = none := by
  obtain ⟨hpumps, -⟩ := hpump
  obtain ⟨hgranted, -⟩ := hpumps p
  rw [← Option.not_isSome_iff_eq_none]
  exact fun h => hidle (hgranted.mpr h)

/-- A step in LINEUP, RAMP or RUN has its pump BUSY (R96). -/
theorem busy_of_running (hpump : PumpSafe s) (hx : s.tsq.stepOn p = some (k, x)) (hrun : x.state.running = true) :
    s.pva.pumps[p].state = .busy := by
  obtain ⟨hpumps, hsteps⟩ := hpump
  obtain ⟨hactive, hp⟩ := stepOn_active hx
  have hserved := hsteps (k, x) hactive hrun
  rw [hp] at hserved
  simp only [Option.all_some, Bool.and_eq_true, beq_iff_eq] at hserved
  exact (hpumps p).1.mpr (by rw [hserved.1]; rfl)

/-- The step its pump was BUSY for is gone, in WIND_DOWN with outcome PUMP, or has the fault mark (R101, R124). -/
theorem pumpFault_told (hqueue : QueueSafe s) (hline : LineSafe s) (hx : s.tsq.stepOn p = some (k, x))
    (hgranted : s.pva.pumps[p].granted = some x.number) (why : PumpCause) :
    (x.state.running = true → (s.pumpFault p why).grants.tsq.slots[k] = none
        ∨ (s.pumpFault p why).grants.tsq.slots[k] = some (x.wound .pump))
      ∧ (x.state = .windDown → (s.pumpFault p why).grants.tsq.slots[k] = none
        ∨ (s.pumpFault p why).grants.tsq.slots[k] = some { x with faultMark := true }) := by
  obtain ⟨hactive, -⟩ := stepOn_active hx
  have hslot := (mem_active.mp hactive).2.1
  have hreported : (s.pumpReported p why).tsq.slots[k] = some x := by rw [pumpReported_tsq]; exact hslot
  have hacts := pumpReported_actsOn k p why s
  rw [pumpFault_step hgranted (slotOf_held hqueue hslot) hslot]
  refine ⟨fun hrun => ?_, fun hwind => ?_⟩
  · rw [if_neg (fun h => by rw [h] at hrun; cases hrun)]
    have hcases := windDown_slot .pump hreported hrun
    rwa [grants_slot hqueue hline hactive (hacts.trans (windDown_actsOn ..))]
    rcases hcases with h | h <;> rw [h]
    · exact fun y hy => by cases hy
    · exact ungranted_active (x := x.wound .pump) rfl
  · rw [if_pos hwind]
    unfold State.windDownMarked
    have hmarked : ((s.pumpReported p why).markStep k).tsq.slots[k] = some { x with faultMark := true } := by
      rw [markStep_held hreported hwind]
      exact Vector.getElem_set_self ..
    have hset : ActsOn k (s.pumpReported p why) ((s.pumpReported p why).markStep k) := by
      rw [markStep_held hreported hwind]
      exact setStep_actsOn hreported rfl
    have hlineup : (((s.pumpReported p why).markStep k).closeLineup k).tsq = ((s.pumpReported p why).markStep k).tsq :=
      (closeLineup_touch ..).tsq
    have hcases := checkClosed_slot k (((s.pumpReported p why).markStep k).closeLineup k)
    rw [hlineup, hmarked] at hcases
    rwa [grants_slot hqueue hline hactive (hacts.trans (hset.trans ((closeLineup_actsOn ..).trans (checkClosed_actsOn ..))))]
    rcases hcases with h | h <;> rw [h]
    · exact fun y hy => by cases hy
    · exact ungranted_active (x := { x with faultMark := true }) (mem_active.mp hactive).2.2

/-- The step of a pump that is not BUSY is not told (R101). -/
theorem pumpFault_untold (hqueue : QueueSafe s) (hline : LineSafe s) (hx : s.tsq.stepOn p = some (k, x))
    (hgranted : s.pva.pumps[p].granted = none) (why : PumpCause) : (s.pumpFault p why).grants.tsq.slots[k] = some x := by
  obtain ⟨hactive, -⟩ := stepOn_active hx
  have hreported : (s.pumpReported p why).tsq.slots[k] = some x := by
    rw [pumpReported_tsq]
    exact (mem_active.mp hactive).2.1
  rw [pumpFault_alone hgranted, grants_slot hqueue hline hactive (pumpReported_actsOn ..), hreported]
  rw [hreported]
  exact ungranted_active (mem_active.mp hactive).2.2

end Told

end Sys2Proof.Machine
end

section
/-! PROOFS. A pump judged by its watch, its feedback and its flow (R124 to R126), and the obligation. -/

namespace Sys2Proof.Machine

/- One proof at a time: side by side they take a thread each. -/
set_option Elab.async false

open State

section Stopped
variable {p : PumpNo} {why : PumpCause} {k : SlotNo} {x : StepRec} {s s₀ : State}

/-- A pump has faulted: it is stopped, without watch or granted step, and its fault taken with its entry (R124, R125). -/
def State.Stopped (p : PumpNo) (cause : Nat) (number : Nat) (s t : State) : Prop :=
  t.pva.pumps[p].state = .faulted ∧ t.pva.pumps[p].granted = none ∧ t.pva.pumps[p].run = false
    ∧ t.pva.pumps[p].gear = .g0 ∧ t.pva.pumps[p].gearUntil = none ∧ t.pva.pumps[p].watch = .absent
    ∧ FaultTaken s t (.pump p) (.pumpFault, #v[p.val, cause, number, 0])

theorem pumpFault_stopped (p : PumpNo) (why : PumpCause) (h₀ : Touches [.fcu, .pva] s₀ s) (htx : s.lnk.tx = s₀.lnk.tx) :
    s₀.Stopped p why.code (s.pva.pumps[p].granted.getD 0) (s.pumpFault p why).grants.transmit
      ∧ (s.pumpFault p why).grants.transmit.lsl.faults.pump[p] = true := by
  obtain ⟨hpresent, htaken⟩ := pumpFault_taken p why h₀ htx
  obtain ⟨hstate, hgranted, hrun, hgear, huntil, hwatch⟩ := stopped_of_unfair (pumpFault_pump p why s)
  refine ⟨?_, hpresent⟩
  rw [← (transmit_touch (s.pumpFault p why).grants).pva] at hstate hgranted hrun hgear huntil hwatch
  exact ⟨hstate, hgranted, hrun, hgear, huntil, hwatch, htaken⟩

/-- An active step that is not winding down runs. -/
theorem running_of_active (hx : (k, x) ∈ s.tsq.active) (h : x.state ≠ .windDown) : x.state.running = true := by
  have hactive := (mem_active.mp hx).2.2
  cases hstate : x.state <;> simp_all [StepState.active, StepState.running]

/-- After a START fault the pump's step winds down or is gone (R101, R124). -/
theorem pumpFault_windsDown (hqueue : QueueSafe s) (hplant : PlantSafe s) (hx : s.tsq.stepOn p = some (k, x)) (why : PumpCause) :
    (s.pumpFault p why).grants.tsq.slots[k].all (·.state == .windDown) = true := by
  obtain ⟨hline, hpump, -⟩ := hplant
  by_cases hbusy : s.pva.pumps[p].state = .busy
  · obtain ⟨hruns, hwinds⟩ := pumpFault_told hqueue hline hx (busy_granted hpump hx hbusy) why
    by_cases hwind : x.state = .windDown
    · rcases hwinds hwind with h | h <;> simp [h, hwind]
    · rcases hruns (running_of_active (stepOn_active hx).1 hwind) with h | h <;> simp [h, StepRec.wound]
  · rw [pumpFault_untold hqueue hline hx (idle_granted hpump hbusy) why]
    have hwind : x.state = .windDown := by
      by_contra hne
      exact hbusy (busy_of_running hpump hx (running_of_active (stepOn_active hx).1 hne))
    simp [hwind]

end Stopped

/-! ### The watches and the no-flow timer (R124 to R126) -/

section Timeouts
variable {p : PumpNo} {u : Nat} {k : SlotNo} {x : StepRec} {s : State}

theorem startTimeout_watched (h : s.pva.pumps[p].watch = .starting u) : s.startTimeout p = s.pumpFault p .start := by
  unfold startTimeout
  rw [h]

theorem startTimeout_unwatched (h : ∀ u, s.pva.pumps[p].watch ≠ .starting u) : s.startTimeout p = s := by
  unfold startTimeout
  split
  next hwatch => exact absurd hwatch (h _)
  next => rfl

theorem stopTimeout_watched (h : s.pva.pumps[p].watch = .stopping u) : s.stopTimeout p = s.pumpFault p .stop := by
  unfold stopTimeout
  rw [h]

theorem stopTimeout_unwatched (h : ∀ u, s.pva.pumps[p].watch ≠ .stopping u) : s.stopTimeout p = s := by
  unfold stopTimeout
  split
  next hwatch => exact absurd hwatch (h _)
  next => rfl

theorem flowTimeout_absent (h : s.pva.pumps[p].noFlowUntil = none) : s.flowTimeout p = s := by
  unfold flowTimeout
  rw [h]

/-- The pump without its no-flow timer (R126). -/
def State.flowStopped (p : PumpNo) (s : State) : State := s.setPump p { s.pva.pumps[p] with noFlowUntil := none }

theorem flowStopped_pump : (s.flowStopped p).pva.pumps[p].noFlowUntil = none := by
  have hset : (s.flowStopped p).pva.pumps[p] = { s.pva.pumps[p] with noFlowUntil := none } := Vector.getElem_set_self ..
  rw [hset]

theorem flowTimeout_alone (h : s.pva.pumps[p].noFlowUntil = some u) (hx : s.tsq.stepOn p = none) :
    s.flowTimeout p = s.flowStopped p := by
  unfold flowTimeout
  rw [h, hx]
  rfl

theorem flowTimeout_step (h : s.pva.pumps[p].noFlowUntil = some u) (hx : s.tsq.stepOn p = some (k, x)) :
    s.flowTimeout p = (s.flowStopped p).windDown k .noFlow := by
  unfold flowTimeout
  rw [h, hx]
  rfl

/-- A no-flow timer that expires is removed (R126). -/
theorem flowTimeout_pump (h : s.pva.pumps[p].noFlowUntil = some u) : (s.flowTimeout p).pva.pumps[p].noFlowUntil = none := by
  rcases hx : s.tsq.stepOn p with _ | ⟨k, x⟩
  · rw [flowTimeout_alone h hx]
    exact flowStopped_pump
  · rw [flowTimeout_step h hx]
    exact (windDown_ease k .noFlow (s.flowStopped p) p).noFlow.elim (fun e => e.trans flowStopped_pump) id

end Timeouts

/-! ### A pump's feedback (R124, R125) -/

section Feedback
variable {p : PumpNo} {a : Bool} {u : Nat} {k : SlotNo} {x : StepRec} {s : State}

/-- A pump as a delivered state shows it, under a watch. -/
def State.ran (p : PumpNo) (a : Bool) (w : RunWatch) (s : State) : State :=
  s.setPump p { s.pva.pumps[p] with proof := .of a, watch := w }

theorem ran_pump {w : RunWatch} : (s.ran p a w).pva.pumps[p] = { s.pva.pumps[p] with proof := .of a, watch := w } :=
  Vector.getElem_set_self ..

theorem setPump_setPump (p : PumpNo) (y z : Pump) (s : State) : (s.setPump p y).setPump p z = s.setPump p z := by
  have hset : (s.pva.pumps.set p y).set p z = s.pva.pumps.set p z := Vector.set_set ..
  exact congrArg (fun l => { s with pva := { s.pva with pumps := l } }) hset

/-- A STARTING watch ends with the RUNNING proof, and the ramp may complete (R123, R124). -/
theorem runFeedback_starting {P : State → Prop} (hf : s.pva.pumps[p].state ≠ .faulted) (h : s.pva.pumps[p].watch = .starting u)
    (hran : P (s.ran p true .absent)) (hramp : ∀ k t, P t → P (t.checkRamp k)) : P (s.runFeedback p true) := by
  unfold runFeedback
  simp only [h, hf, if_false, if_true]
  rw [setPump_setPump]
  split
  · exact hramp _ _ hran
  · exact hran

/-- A pump commanded ON at rest loses its RUNNING proof (R125). -/
theorem runFeedback_lost (hf : s.pva.pumps[p].state ≠ .faulted) (h : s.pva.pumps[p].watch = .absent)
    (hrun : s.pva.pumps[p].run = true) (hproof : s.pva.pumps[p].proof ≠ .stopped) :
    s.runFeedback p false = (s.ran p false .absent).pumpFault p .lost := by
  have hshown : (s.pva.pumps[p].proof != .stopped) = true := bne_iff_ne.mpr hproof
  unfold runFeedback ran
  simp only [h, hf, hrun, hshown, if_false, if_true, Bool.not_false, Bool.and_self]

/-- A pump commanded OFF at rest proves RUNNING where no one commands it (R125). -/
theorem runFeedback_uncommanded (hf : s.pva.pumps[p].state ≠ .faulted) (h : s.pva.pumps[p].watch = .absent)
    (hrun : s.pva.pumps[p].run = false) (hproof : s.pva.pumps[p].proof ≠ .running)
    (huncommanded : (s.ran p true .absent).uncommanded p = true) :
    s.runFeedback p true = (s.ran p true .absent).pumpFault p .uncommanded := by
  have hshown : (s.pva.pumps[p].proof != .running) = true := bne_iff_ne.mpr hproof
  unfold ran at huncommanded
  simp only [hrun] at huncommanded
  unfold runFeedback ran
  simp only [h, hf, hrun, hshown, huncommanded, if_false, if_true, Bool.false_eq_true, Bool.and_self]

theorem uncommanded_free (h : s.pva.pumps[p].state = .free ∨ s.pva.pumps[p].state = .tripped) : s.uncommanded p = true := by
  unfold State.uncommanded
  rcases h with h | h <;> rw [h]

theorem uncommanded_windDown (h : s.pva.pumps[p].state = .busy) (hx : s.tsq.stepOn p = some (k, x)) (hwind : x.state = .windDown) :
    s.uncommanded p = true := by
  unfold State.uncommanded
  rw [h, hx]
  simp [hwind]

theorem testStep_ease (k : SlotNo) (t : TankNo) (s : State) : PumpsEase s (s.testStep k t) := by
  unfold testStep
  split
  · exact .refl s
  · refine .ite ?_ (.refl s)
    split
    · exact windDown_ease k _ s
    · exact .refl s

theorem testSteps_ease (k : SlotNo) (l : List TankNo) (s : State) : PumpsEase s (l.foldl (fun s t => s.testStep k t) s) := by
  induction l generalizing s with
  | nil => exact .refl s
  | cons t l ih => exact PumpsEase.trans (testStep_ease k t s) (ih _)

/-- A completed ramp leaves every run watch (R123). -/
theorem checkRamp_watch (p : PumpNo) (k : SlotNo) (s : State) : (s.checkRamp k).pva.pumps[p].watch = s.pva.pumps[p].watch := by
  unfold checkRamp
  split
  · rfl
  next x _ =>
    split
    · rfl
    next q _ =>
      extract_lets y
      split
      next s₁ s₂ _ =>
        have h₁ : s₁.pva.pumps[p].watch = s.pva.pumps[p].watch := by
          unfold s₁
          split
          · rfl
          · by_cases hq : q = p
            · subst hq
              exact (congrArg Pump.watch (Vector.getElem_set_self (xs := s.pva.pumps) q.isLt)).trans rfl
            · exact congrArg Pump.watch (Vector.getElem_set_ne q.isLt p.isLt fun e => hq (Fin.ext e))
        have h₂ : PumpsEase s₁ s₂ := .of_touches (enterState_touch ..)
        exact ((h₂.trans (testSteps_ease k x.tanks s₂)) p).watch.trans h₁
      next => rfl

/-- A channel that one pump field names hands its state to that pump (R19). -/
theorem debounced_runFeedback {ch : ChannelNo} {debounce since : Nat} {notify : Bool} {was : Option Bool} {changed : Option Nat}
    (hc : s.cfg.channels[ch] = .switch debounce notify) (hr : s.fcu.channels[ch] = .switch was since changed)
    (hwas : was ≠ some s.pins.contacts[ch]) (hpumps : s.cfg.runPumps ch = [p]) (hvalves : s.cfg.boundValves ch = []) :
    s.debounced ch = ((s.debouncedTo ch since changed).runFeedback p s.pins.contacts[ch]).grants := by
  have hbound : s.cfg.plantBound ch = true := plantBound_of_run (p := p) (mem_runPumps.mp (by rw [hpumps]; simp))
  have hcfg : ((s.debouncedTo ch since changed).runFeedback p s.pins.contacts[ch]).grants.cfg = s.cfg :=
    (grants_touch _).cfg.trans (runFeedback_touch ..).cfg
  rw [debounced_eq hc hr hwas, if_pos hbound]
  unfold deliverSwitch
  simp only [show (s.debouncedTo ch since changed).cfg = s.cfg from rfl, hpumps, List.foldl_nil, List.foldl_cons, hcfg, hvalves]

/-- A pump proved RUNNING in its STARTING watch loses the watch, and LSL hears nothing (R124). -/
theorem starting_judged (hf : s.pva.pumps[p].state ≠ .faulted) (h : s.pva.pumps[p].watch = .starting u) :
    (s.runFeedback p true).grants.pva.pumps[p].watch = .absent ∧ (s.runFeedback p true).grants.lsl = s.lsl := by
  rw [grants_watch, (grants_touch _).lsl]
  refine runFeedback_starting (P := fun t => t.pva.pumps[p].watch = .absent ∧ t.lsl = s.lsl) hf h ?_ fun k t ht => ?_
  · rw [ran_pump]
    exact ⟨rfl, rfl⟩
  · rw [checkRamp_watch, (checkRamp_touch ..).lsl]
    exact ht

end Feedback

end Sys2Proof.Machine

namespace Sys2Proof

/- One proof at a time: side by side they take a thread each. -/
set_option Elab.async false

open Machine State

/-- Settles O46: the two watches and the no-flow timer by what each leaves of the pump and its step, a debounced state by the pump's watch. -/
theorem pumpsJudged : Obligations.PumpsJudged := by
  refine ⟨fun s p hp hqueue hplant => ?_, fun s p u hp hflow => ?expiry⟩
  case expiry =>
    have htransmit := transmit_touch (s.flowTimeout p)
    refine ⟨_, congrArg Host.Outcome.next (event_powered hp), ?_, fun k x hx hrun => ?_, ((flowTimeout_touch p s).seq htransmit).mono⟩
    · rw [htransmit.pva]
      exact flowTimeout_pump hflow
    · rw [htransmit.tsq, flowTimeout_step hflow hx]
      have hslot := (mem_active.mp (stepOn_active hx).1).2.1
      exact windDown_slot (s := s.flowStopped p) .noFlow hslot (by rw [hrun]; rfl)
  obtain ⟨hline, hpump, hvalve⟩ := hplant
  have hframe (why : PumpCause) := ((pumpFault_touch p why s).seq (grants_touch _)).seq (transmit_touch _)
  have htx (why : PumpCause) := (transmit_touch (s.pumpFault p why).grants).tsq
  have hfault (why : PumpCause) := pumpFault_stopped p why (.refl [.fcu, .pva] s) rfl
  intro masked told stopped
  refine ⟨fun u hwatch => ?start, fun u hwatch => ?stop, fun hwin hset => ⟨fun hno => ?noStart, fun hno => ?noStop⟩,
    fun hflow hset => congrArg Host.Outcome.next (event_absent hp hset (flowTimeout_absent hflow)),
    fun ch debounce since notify was changed hc hr hwas hpumps hvalves hf => ?feedback⟩
  case noStart =>
    exact congrArg Host.Outcome.next (event_absent hp hset (by rw [startTimeout_unwatched hno, grants_none hwin]))
  case noStop =>
    exact congrArg Host.Outcome.next (event_absent hp hset (by rw [stopTimeout_unwatched hno, grants_none hwin]))
  case start =>
    have hexec : exec (.pumpStartTimeout p) s = .next (s.pumpFault p .start).grants.transmit := by
      rw [← startTimeout_watched hwatch]
      exact congrArg Host.Outcome.next (event_powered hp)
    refine ⟨_, hexec, (hfault .start).1, fun hbusy k x hx => ?_, (hfault .start).2, fun k x hx => ?_, (hframe .start).mono⟩
    · rw [htx]
      exact pumpFault_told hqueue hline hx (busy_granted hpump hx hbusy) .start
    · rw [htx]
      exact pumpFault_windsDown hqueue ⟨hline, hpump, hvalve⟩ hx .start
  case stop =>
    have hexec : exec (.pumpStopTimeout p) s = .next (s.pumpFault p .stop).grants.transmit := by
      rw [← stopTimeout_watched hwatch]
      exact congrArg Host.Outcome.next (event_powered hp)
    refine ⟨_, hexec, (hfault .stop).1, fun hbusy k x hx => ?_, fun hidle k x hx => ?_, (hfault .stop).2, (hframe .stop).mono⟩
    · rw [htx]
      exact pumpFault_told hqueue hline hx (busy_granted hpump hx hbusy) .stop
    · rw [htx]
      exact pumpFault_untold hqueue hline hx (idle_granted hpump hidle) .stop
  case feedback =>
    intro y
    have hexec := exec_switchDebounceExpiry hp ch
    rw [debounced_runFeedback hc hr hwas hpumps hvalves] at hexec
    have h₀ : Touches [.fcu] s (s.debouncedTo ch since changed) := setChannel_touch ..
    have htransmit := transmit_touch ((s.debouncedTo ch since changed).runFeedback p s.pins.contacts[ch]).grants
    have hproof := runFeedback_proof p s.pins.contacts[ch] (s.debouncedTo ch since changed) p
    rw [if_pos rfl, ← htransmit.pva] at hproof
    have hran (a : Bool) : Touches [.fcu, .pva] s ((s.debouncedTo ch since changed).ran p a .absent) := h₀.seq (setPump_touch ..)
    have hgranted (a : Bool) :
        ((s.debouncedTo ch since changed).ran p a .absent).pva.pumps[p].granted = s.pva.pumps[p].granted := by
      rw [ran_pump]
      rfl
    have hrfault (a : Bool) (why : PumpCause) := pumpFault_stopped p why (hran a) rfl
    simp only [hgranted] at hrfault
    have hrtold (a : Bool) (why : PumpCause) (hbusy : s.pva.pumps[p].state = .busy) :
        told (((s.debouncedTo ch since changed).ran p a .absent).pumpFault p why).grants.transmit := fun k x hx => by
      rw [(transmit_touch _).tsq]
      exact pumpFault_told (s := (s.debouncedTo ch since changed).ran p a .absent) hqueue hline hx
        ((hgranted a).trans (busy_granted hpump hx hbusy)) why
    refine ⟨_, hexec, ((h₀.seq (runFeedback_touch ..)).seq ((grants_touch _).seq htransmit)).mono,
      fun u hcontact hwatch => ?started, fun hcontact hwatch hrun hshown => ?lost,
      fun k x hcontact hwatch hrun hshown hbusy hx hwind => ?winding, fun hcontact hwatch hrun hshown hstate => ?idle⟩
    case started =>
      refine ⟨?_, by rw [hproof, hcontact]; rfl, ?_⟩
      all_goals rw [hcontact] at htransmit ⊢
      · rw [htransmit.pva]
        exact (starting_judged (s := s.debouncedTo ch since changed) hf hwatch).1
      · rw [htransmit.lsl]
        exact (starting_judged (s := s.debouncedTo ch since changed) hf hwatch).2
    case lost =>
      obtain ⟨-, -, -, hruns⟩ := hpump.1 p
      rw [hcontact] at hproof ⊢
      rw [runFeedback_lost (s := s.debouncedTo ch since changed) hf hwatch hrun hshown] at hproof ⊢
      exact ⟨(hrfault false .lost).1, (hrfault false .lost).2, hproof, hrtold false .lost (hruns hrun)⟩
    case winding =>
      have huncommanded : ((s.debouncedTo ch since changed).ran p true .absent).uncommanded p = true :=
        uncommanded_windDown (by rw [ran_pump]; exact hbusy) hx hwind
      rw [hcontact] at hproof ⊢
      rw [runFeedback_uncommanded (s := s.debouncedTo ch since changed) hf hwatch hrun hshown huncommanded] at hproof ⊢
      exact ⟨(hrfault true .uncommanded).1, (hrfault true .uncommanded).2, hproof, hrtold true .uncommanded hbusy⟩
    case idle =>
      have huncommanded : ((s.debouncedTo ch since changed).ran p true .absent).uncommanded p = true :=
        uncommanded_free (by rw [ran_pump]; exact hstate)
      have hnone : s.pva.pumps[p].granted = none :=
        idle_granted hpump fun h => by rcases hstate with e | e <;> exact PumpState.noConfusion (e.symm.trans h)
      rw [hcontact] at hproof ⊢
      rw [runFeedback_uncommanded (s := s.debouncedTo ch since changed) hf hwatch hrun hshown huncommanded] at hproof ⊢
      refine ⟨(hrfault true .uncommanded).1, (hrfault true .uncommanded).2, hproof, ?_⟩
      have hrcu := pumpReported_rcu (hran true) p .uncommanded
      rw [hgranted, hnone] at hrcu
      rw [(transmit_touch _).rcu, (grants_touch _).rcu, pumpFault_alone ((hgranted true).trans hnone)]
      exact hrcu

end Sys2Proof
end

section
/-! PROOFS. POUR_END and the steps behind gates (R94, R96, R145). -/

namespace Sys2Proof

/- One proof at a time: side by side they take a thread each. -/
set_option Elab.async false

open Machine

/-- Step 7, which deballasts tank 4, QUEUED behind the end of pour 1. -/
def queuedStep : StepRec :=
  { number := 7, kind := .deballast, source := some 4, dest := none, target := 1000, choice := none, cls := .normal
    gate := some ⟨1, .endEdge⟩, state := .queued, cancelRequested := false, grantedPump := none, outcome := none
    faultMark := false, startSource := none, startDest := none, litres := 0, timeAdmitted := some 0, timeRun := none
    closeFailed := [] }

/-- A pour without a plan entry, into hold 6: it has no edge to report (R94, R136). -/
def unplannedPour : Pour := ⟨0, 6, 10000, true, 0, 0⟩

/-- A state that QueueSafe admits, for it says nothing of PVA: its candidates list step 7, which is QUEUED. The pumps are free and their valves at rest, and loader A pours pour 0. -/
def offeredEarly : State :=
  { State.reset with
    ccl := { State.reset.ccl with phase := .loading }
    ptr := { State.reset.ptr with loaders := State.reset.ptr.loaders.set Loader.a.ix (some unplannedPour) }
    tsq := { State.reset.tsq with slots := State.reset.tsq.slots.set 3 (some queuedStep), order := [3], lastNumber := 7 }
    pva := { State.reset.pva with
      candidates := [⟨7, 0, false⟩]
      pumps := Vector.replicate 3 { State.reset.pva.pumps[0] with watch := .absent }
      valves := Vector.replicate 21 { State.reset.pva.valves[0] with watch := .absent } } }

/-- The end of the pour on loader A, at 25,000 tonnes. -/
def endOfPour : Instr := .pourEnd 1 (u8 Loader.a.code ++ u32 25000)

/-- The state a POUR_END leaves. -/
def afterPour : State :=
  match exec endOfPour offeredEarly with
  | .next t => t
  | _ => offeredEarly

theorem offeredEarly_safe : QueueSafe offeredEarly := by
  (repeat' apply And.intro) <;> decide

/-- The grant decisions behind the POUR_END give the QUEUED step a pump. -/
theorem offeredEarly_granted : afterPour.tsq.slots[(3 : SlotNo)].map (·.state) = some .lineup := by
  decide

/-- Refutes O49: under QueueSafe alone PVA may list a QUEUED step, and the grant decisions behind a POUR_END without an edge take that step to LINEUP, where it should stay QUEUED. -/
theorem not_pourEnded : ¬ Obligations.PourEnded := by
  intro h
  have hserving : offeredEarly.serving := by decide
  have hphase : offeredEarly.ccl.phase = .loading := by decide
  have hloader : offeredEarly.ptr.loaders[Loader.a.ix] = some unplannedPour := by decide
  have hslot : offeredEarly.tsq.slots[(3 : SlotNo)] = some queuedStep := by decide
  obtain ⟨-, htaken⟩ := h offeredEarly 1 .a 25000 hserving hphase (by decide)
  obtain ⟨t, hexec, -, -, -, -, -, hedge, -⟩ := htaken _ hloader
  have ht : afterPour = t := by
    unfold afterPour endOfPour
    rw [hexec]
  have hstays : t.tsq.slots[(3 : SlotNo)] = some queuedStep :=
    (if_neg fun hreported => hreported.1 rfl).mp (hedge offeredEarly_safe 3 queuedStep hslot rfl)
  have hgranted := offeredEarly_granted
  rw [ht, hstays] at hgranted
  exact absurd hgranted (by decide)

end Sys2Proof
end
